-- ==== Sys2Proof/Word.lean ====
section
/-! DEFINITION. The words of the UX-840: bytes, the 32-bit register word, host addresses, and the read, write and change of one place of a fixed-size store. -/

namespace Sys2Proof

/-- One byte of a register, a ring entry, a host table, a frame or an object. -/
abbrev Byte := BitVec 8

/-- One register of the window (R201: registers are 32 bits wide). -/
abbrev Word := BitVec 32

/-- A host address (R43: a 64-bit host address). -/
abbrev Addr := BitVec 64

/-- A region index 0 to 7 (R137). -/
abbrev Region := Fin 8

/-- A context number 0 to 63 (R84). -/
abbrev CtxNo := Fin 64

/-- Place `i` of a fixed-size store. -/
def vget {α : Type} {n : Nat} (v : Vector α n) (i : Fin n) : α := v[i]

/-- The store with place `i` holding `x`. -/
def vset {α : Type} {n : Nat} (v : Vector α n) (i : Fin n) (x : α) : Vector α n := v.set i.val x i.isLt

/-- The store with place `i` changed by `f`. -/
def vmod {α : Type} {n : Nat} (v : Vector α n) (i : Fin n) (f : α → α) : Vector α n := vset v i (f (vget v i))

end Sys2Proof
end

