-- ==== Sys2Proof/Syntax.lean ====
section
/-! DEFINITION. The commands of the UX-840: one constructor of `Instr` for each row of spec/opcode_table.json, with the operands the row's rule names. -/

namespace Sys2Proof

/-- The two rings that carry requests (R181). -/
inductive ReqRing where
  | data
  | management
  deriving DecidableEq, Repr

/-- The three rings (R178). -/
inductive RingName where
  | data
  | management
  | completion
  deriving DecidableEq, Repr

/-- The key of an object: tenant, bucket number and object number (R1). -/
structure Key where
  tenant : Byte
  bucket : BitVec 32
  object : BitVec 64
  deriving DecidableEq, Repr

/-- A version: a 48-bit sequence and an origin index (R5). -/
structure Version where
  seq : BitVec 48
  origin : Byte
  deriving DecidableEq, Repr

/-- The fields of a PUBLISH request entry (R43). -/
structure PublishReq where
  tag : Word
  key : Key
  seq : BitVec 48
  contentTag : BitVec 128
  size : BitVec 32
  extentCount : Byte
  table : Addr
  deriving DecidableEq, Repr

/-- The fields of a DELETE request entry (R44). -/
structure DeleteReq where
  tag : Word
  key : Key
  seq : BitVec 48
  contentTag : BitVec 128
  deriving DecidableEq, Repr

/-- The fields of a LOOKUP.BATCH request entry (R23). -/
structure BatchReq where
  tag : Word
  count : Byte
  keyTable : Addr
  resultTable : Addr
  deriving DecidableEq, Repr

/-- The fields of an ACCEPT request entry (R119). -/
structure AcceptReq where
  tag : Word
  key : Key
  version : Version
  extentCount : Byte
  table : Addr
  deriving DecidableEq, Repr

/-- The fields of a REGION.SET request entry, each group with its apply flag (R152). -/
structure RegionSetReq where
  tag : Word
  index : Byte
  applyEnable : Bool
  enable : Bool
  applyStation : Bool
  applyPace : Bool
  applyRun : Bool
  run : Bool
  clearWindowEnd : Bool
  station : BitVec 48
  paceMode : Byte
  sendWindow : BitVec 32
  quietWindow : BitVec 32
  deriving DecidableEq, Repr

/-- The fields of a BUCKET.LOAD request entry (R26, R35); bit p of the template stands for relative position p. -/
structure BucketLoadReq where
  tag : Word
  tenant : Byte
  bucket : BitVec 32
  template : Byte
  home : Byte
  allowFirst : Byte
  allowLast : Byte
  isGlobal : Bool
  readOnly : Bool
  maxSize : BitVec 32
  deriving DecidableEq, Repr

/-- The content of an OFFER frame (R160); the kind is the byte as carried. -/
structure OfferFrame where
  key : Key
  version : Version
  kind : Byte
  size : BitVec 32
  contentTag : BitVec 128
  deriving DecidableEq, Repr

/-- The content of a SEGMENT frame (R160); its segment length is the length of the payload (R159). -/
structure SegmentFrame where
  key : Key
  version : Version
  chunk : Byte
  seg : Byte
  check : BitVec 32
  presence : Byte
  chunkCheck : BitVec 32
  payload : List Byte
  deriving DecidableEq, Repr

/-- The status of a burst's completion that makes it fail at once (R172). -/
inductive AnswerFault where
  | abort
  | unsupported
  | poisoned
  deriving DecidableEq, Repr

/-- The name of one copy of one burst: its operation, its place in the operation, and whether it is the reissue (R172). -/
structure BurstName where
  op : Nat
  burst : Nat
  reissue : Bool
  deriving DecidableEq, Repr

/-- The commands: the operations and events of spec/opcode_table.json, one constructor a row. -/
inductive Instr where
  /-- COLD_RESET (R179). -/
  | coldReset
  /-- IMAGE_LOAD (R179): the bytes the flash gave, or none when it did not answer. -/
  | imageLoad (flash : Option (List Byte))
  /-- RUN (R180): a write of the control register with the RUN position set. -/
  | run (word : Word)
  /-- FUNCTION_RESET (R194): a write of the control register with the FUNCTION_RESET position set. -/
  | functionReset (word : Word)
  /-- PCIE_FUNCTION_RESET (R194). -/
  | pcieFunctionReset
  /-- DRAIN_END (R195). -/
  | drainEnd
  /-- PRODUCER_INDEX_WRITE (R181). -/
  | producerIndexWrite (ring : ReqRing) (value : Word)
  /-- COMPLETION_CONSUMER_INDEX_WRITE (R186). -/
  | completionConsumerIndexWrite (value : Word)
  /-- RESTART (R193). -/
  | restart (ring : RingName) (word : Word)
  /-- RING_RESTART_EFFECT (R199). -/
  | ringRestartEffect (ring : RingName)
  /-- TRIGGER_LEVEL_WRITE (R190). -/
  | triggerLevelWrite (value : Word)
  /-- COALESCING_TIME_WRITE (R190). -/
  | coalescingTimeWrite (value : Word)
  /-- FAULT_CLEAR (R175). -/
  | faultClear (word : Word)
  /-- CAUSE_READ (R191). -/
  | causeRead
  /-- REGISTER_WRITE (R178): the register at offset 4 times `index`. -/
  | registerWrite (index : BitVec 10) (value : Word)
  /-- VECTOR_UNMASK (R190). -/
  | vectorUnmask
  /-- CARRIER_LOSS (R166). -/
  | carrierLoss
  /-- CARRIER_RETURN (R167). -/
  | carrierReturn
  /-- RING_FETCH (R182). -/
  | ringFetch (ring : ReqRing)
  /-- REQUEST_TAKE (R182): the fetch of the ring has completed. -/
  | requestTake (ring : ReqRing)
  /-- RING_FETCH_FAIL (R192). -/
  | ringFetchFail (ring : ReqRing)
  /-- PUBLISH (R47), taken from `ring`. -/
  | publish (ring : ReqRing) (req : PublishReq)
  /-- DELETE (R44), taken from `ring`. -/
  | delete (ring : ReqRing) (req : DeleteReq)
  /-- EXTENT_TABLE_READ_DONE (R48) for the request of that number. -/
  | extentTableReadDone (request : Nat)
  /-- EXTENT_TABLE_READ_FAIL (R49). -/
  | extentTableReadFail (request : Nat)
  /-- TABLE_CONTROLLER_APPLY (R54) of a ready request. -/
  | tableControllerApply (request : Nat)
  /-- LOOKUP (R22). -/
  | lookup (ring : ReqRing) (tag : Word) (key : Key)
  /-- LOOKUP_BATCH (R23). -/
  | lookupBatch (ring : ReqRing) (req : BatchReq)
  /-- KEY_TABLE_READ_DONE (R23). -/
  | keyTableReadDone (request : Nat)
  /-- KEY_TABLE_READ_FAIL (R24). -/
  | keyTableReadFail (request : Nat)
  /-- RESULT_WRITE_DONE (R23). -/
  | resultWriteDone (request : Nat)
  /-- RESULT_WRITE_FAIL (R24). -/
  | resultWriteFail (request : Nat)
  /-- ACCEPT (R119). -/
  | accept (ring : ReqRing) (req : AcceptReq)
  /-- LANDING_TABLE_READ_DONE (R120). -/
  | landingTableReadDone (request : Nat)
  /-- LANDING_TABLE_READ_FAIL (R119). -/
  | landingTableReadFail (request : Nat)
  /-- DECLINE (R121); the reason is the byte as written. -/
  | decline (ring : ReqRing) (tag : Word) (key : Key) (version : Version) (reason : Byte)
  /-- COMMIT (R132). -/
  | commit (ring : ReqRing) (tag : Word) (key : Key) (version : Version)
  /-- REJECT (R132). -/
  | reject (ring : ReqRing) (tag : Word) (key : Key) (version : Version)
  /-- ABANDON (R79). -/
  | abandon (ring : ReqRing) (tag : Word) (key : Key) (region : Byte)
  /-- RETRY (R80). -/
  | retry (ring : ReqRing) (tag : Word) (key : Key) (region : Byte)
  /-- DEFER (R81). -/
  | defer (ring : ReqRing) (tag : Word) (region : Byte)
  /-- SETTINGS_SET (R196). -/
  | settingsSet (ring : ReqRing) (tag : Word) (mask : BitVec 16) (values : Vector Word 14)
  /-- SETTINGS_GET (R197). -/
  | settingsGet (ring : ReqRing) (tag : Word) (first : Byte)
  /-- REGION_SET (R153). -/
  | regionSet (ring : ReqRing) (req : RegionSetReq)
  /-- REGION_GET (R154). -/
  | regionGet (ring : ReqRing) (tag : Word) (index : Byte)
  /-- BUCKET_LOAD (R36). -/
  | bucketLoad (ring : ReqRing) (req : BucketLoadReq)
  /-- BUCKET_DENY (R39). -/
  | bucketDeny (ring : ReqRing) (tag : Word) (tenant : Byte) (bucket : BitVec 32)
  /-- BUCKET_FLUSH (R40); the scope is the byte as written. -/
  | bucketFlush (ring : ReqRing) (tag : Word) (scope : Byte) (tenant : Byte) (bucket : BitVec 32)
  /-- MISS_DEADLINE_EXPIRY (R34). -/
  | missDeadlineExpiry (place : Fin 4)
  /-- GRANT (R71). -/
  | grant
  /-- REPLY_TIMER_EXPIRY (R91). -/
  | replyTimerExpiry (ctx : CtxNo)
  /-- FRAME_RECEIVE (R157): a frame with its frame check; the flag says whether its owner takes it before the Region Unit hears of it (R158 allows both orders). -/
  | frameReceive (bytes : List Byte) (dispatchFirst : Bool)
  /-- FRAME_HEARD (R140). -/
  | frameHeard (source : Region)
  /-- OFFER (R113). -/
  | offer (source : Region) (frame : OfferFrame)
  /-- REPLY_ACCEPTED (R92). -/
  | replyAccepted (source : Region) (key : Key) (version : Version) (resume : BitVec 16)
  /-- REPLY_PENDING (R93). -/
  | replyPending (source : Region) (key : Key) (version : Version)
  /-- REPLY_BUSY (R93). -/
  | replyBusy (source : Region) (key : Key) (version : Version)
  /-- REPLY_TIMEOUT (R93). -/
  | replyTimeout (source : Region) (key : Key) (version : Version)
  /-- REPLY_HAVE (R94). -/
  | replyHave (source : Region) (key : Key) (version : Version)
  /-- REPLY_NEWER (R94). -/
  | replyNewer (source : Region) (key : Key) (version : Version) (other : Version)
  /-- REPLY_LANDED (R94). -/
  | replyLanded (source : Region) (key : Key) (version : Version)
  /-- REPLY_DECLINED (R94). -/
  | replyDeclined (source : Region) (key : Key) (version : Version)
  /-- REPLY_ABORTED (R95). -/
  | replyAborted (source : Region) (key : Key) (version : Version)
  /-- REPLY_UNKNOWN_REASON (R88). -/
  | replyUnknownReason (source : Region) (key : Key) (version : Version) (reason : Byte)
  /-- SEGMENT_READ_ISSUE (R97). -/
  | segmentReadIssue (ctx : CtxNo)
  /-- SEGMENT_READ_DONE (R98) of the read into a buffer of a context. -/
  | segmentReadDone (ctx : CtxNo) (buffer : Fin 2)
  /-- SEGMENT_READ_FAIL (R107). -/
  | segmentReadFail (ctx : CtxNo) (buffer : Fin 2)
  /-- PORT_READY (R164). -/
  | portReady
  /-- ACK (R101). -/
  | ack (source : Region) (key : Key) (version : Version) (next : BitVec 16)
  /-- STALL_TIMER_EXPIRY (R104). -/
  | stallTimerExpiry (ctx : CtxNo)
  /-- CONFIRM_COMMITTED (R75). -/
  | confirmCommitted (source : Region) (key : Key) (version : Version)
  /-- CONFIRM_REJECTED (R75). -/
  | confirmRejected (source : Region) (key : Key) (version : Version)
  /-- CONFIRM_DEADLINE_EXPIRY (R68) at the head of a region's Confirm List. -/
  | confirmDeadlineExpiry (region : Region)
  /-- SEGMENT (R123). -/
  | segment (source : Region) (frame : SegmentFrame)
  /-- FIFO_WRITE_ISSUE (R125). -/
  | fifoWriteIssue
  /-- SEGMENT_WRITE_DONE (R125) of the write that is that operation. -/
  | segmentWriteDone (op : Nat)
  /-- SEGMENT_WRITE_FAIL (R135). -/
  | segmentWriteFail (op : Nat)
  /-- WITHDRAW (R133). -/
  | withdraw (source : Region) (key : Key) (version : Version)
  /-- ACCEPT_TIMER_EXPIRY (R118). -/
  | acceptTimerExpiry (ctx : CtxNo)
  /-- IDLE_TIMER_EXPIRY (R128). -/
  | idleTimerExpiry (ctx : CtxNo)
  /-- HOLD (R148), with its hold time in milliseconds. -/
  | hold (source : Region) (time : BitVec 16)
  /-- RESUME (R148). -/
  | resume (source : Region)
  /-- PROBE (R142). -/
  | probe (source : Region)
  /-- ECHO (R142). -/
  | echo (source : Region)
  /-- PROBE_TIMER_EXPIRY (R141). -/
  | probeTimerExpiry
  /-- BACKOFF_EXPIRY (R147). -/
  | backoffExpiry (region : Region)
  /-- HOLD_EXPIRY (R148). -/
  | holdExpiry (region : Region)
  /-- PACE_WINDOW_END (R151). -/
  | paceWindowEnd (region : Region)
  /-- LINGER_EXPIRY (R10). -/
  | lingerExpiry (key : Key)
  /-- COMPLETION_ENTRY_HAND (R186). -/
  | completionEntryHand
  /-- COMPLETION_WRITE_DONE (R186) of the write that is that operation. -/
  | completionWriteDone (op : Nat)
  /-- COMPLETION_WRITE_FAIL (R192). -/
  | completionWriteFail (op : Nat)
  /-- COALESCING_TIMER_EXPIRY (R190). -/
  | coalescingTimerExpiry
  /-- BURST_ISSUE (R171). -/
  | burstIssue
  /-- BURST_COMPLETE (R172), with the data of a read. -/
  | burstComplete (name : BurstName) (data : List Byte)
  /-- BURST_FAIL (R172). -/
  | burstFail (name : BurstName) (kind : AnswerFault)
  /-- BURST_TIMEOUT (R172). -/
  | burstTimeout (name : BurstName)
  /-- VECTOR_MASK (R190). -/
  | vectorMask
  deriving DecidableEq, Repr

end Sys2Proof
end

