-- ==== Sys2Proof/Decode.lean ====
section
/-! DEFINITION. The commands that a table word spells. No row of spec/opcode_table.json gives bits, so no word spells a command. -/

namespace Sys2Proof

/-- The command an opcode-table word spells: none, because the table gives no row of this block any bits (98_reader.md counts no row with fixed bits). -/
def decodeTableWord (nbits w : Nat) : Option Instr :=
  match nbits, w with
  | _, _ => none

end Sys2Proof
end

