-- ==== Sys2Proof/Machine/Bytes.lean ====
section
/-! DEFINITION. Byte order, fields of byte strings, and the two cyclic redundancy checks (R201, R202). -/

namespace Sys2Proof.Machine

/-- `n` bytes of `v`, least significant first (R201: little-endian on the host side). -/
def leBytes (n v : Nat) : List Byte := (List.range n).map fun i => BitVec.ofNat 8 (v >>> (8 * i))

/-- `n` bytes of `v`, most significant first (R202: on the wire). -/
def beBytes (n v : Nat) : List Byte := (leBytes n v).reverse

/-- The number whose bytes, least significant first, are given. -/
def leNat : List Byte → Nat
  | [] => 0
  | b :: rest => b.toNat + 256 * leNat rest

/-- The number whose bytes, most significant first, are given. -/
def beNat (bs : List Byte) : Nat := leNat bs.reverse

/-- `n` bytes from `off` on; bytes that are not there read as zero. -/
def byteField (bs : List Byte) (off n : Nat) : List Byte := (List.range n).map fun i => bs.getD (off + i) 0

/-- The byte at `off`. -/
def byteAt (bs : List Byte) (off : Nat) : Byte := bs.getD off 0

/-- The little-endian field of `n` bytes at `off` (R201). -/
def leAt (bs : List Byte) (off n : Nat) : Nat := leNat (byteField bs off n)

/-- The big-endian field of `n` bytes at `off` (R202). -/
def beAt (bs : List Byte) (off n : Nat) : Nat := beNat (byteField bs off n)

/-- A string of `n` bytes with the given fields at their offsets and zero elsewhere. For ring entries R201 makes what no table names zero. R201 and R202 say so neither of the host
tables nor of Span frames: the zeros of the bytes that 12.5 and 12.6 leave unnamed are the model's choice, log entry 40. -/
def layOut (n : Nat) (fields : List (Nat × List Byte)) : List Byte :=
  (List.range n).map fun i => (fields.findSome? fun f => if f.1 ≤ i then f.2[i - f.1]? else none).getD 0

/-- One bit of a reflected cyclic redundancy check. -/
def crcBit (poly c : BitVec 32) : BitVec 32 := if c.getLsbD 0 then (c >>> 1) ^^^ poly else c >>> 1

/-- One byte of a reflected cyclic redundancy check. -/
def crcByte (poly c : BitVec 32) (b : Byte) : BitVec 32 :=
  let step := crcBit poly
  step (step (step (step (step (step (step (step (c ^^^ b.setWidth 32))))))))

/-- A partial check carried over the given bytes. -/
def crcOver (poly : BitVec 32) : BitVec 32 → List Byte → BitVec 32
  | c, [] => c
  | c, b :: rest => crcOver poly (crcByte poly c b) rest

/-- R201: the generator polynomial 0x1EDC6F41 of CRC-32C with its bits reflected. -/
def crc32cPoly : BitVec 32 := 0x82F63B78

/-- R201: the generator polynomial 0x04C11DB7 of the Ethernet CRC-32 with its bits reflected. -/
def crc32Poly : BitVec 32 := 0xEDB88320

/-- R201: the initial value and the final exclusive OR of both checks. -/
def crcInit : BitVec 32 := 0xFFFFFFFF

/-- CRC-32C of a byte string (R201). -/
def crc32c (bs : List Byte) : BitVec 32 := crcOver crc32cPoly crcInit bs ^^^ crcInit

/-- The frame check of an Ethernet frame (R201). -/
def crc32 (bs : List Byte) : BitVec 32 := crcOver crc32Poly crcInit bs ^^^ crcInit

end Sys2Proof.Machine
end

