-- ==== Sys2Proof/Config.lean ====
section
/-! DEFINITION. What the part fixes: its sizes and limits (each with its rule), and the free values the spec leaves open. -/

namespace Sys2Proof.Config

/-- R2: bytes of a full chunk. -/
def chunkBytes : Nat := 262144

/-- R96: bytes of a full segment. -/
def segmentBytes : Nat := 8192

/-- R1, R48: the largest object. -/
def maxObject : Nat := 67108864

/-- R1, R43: extents of one object. -/
def maxExtents : Nat := 16

/-- R3: the sets of the Replica Table. -/
def sets : Nat := 16384

/-- R4: places of one set. -/
def setPlaces : Nat := 8

/-- R20: the distance between the two pressure thresholds. -/
def pressureGap : Nat := 8192

/-- R84: contexts bound outbound at once. -/
def maxOutbound : Nat := 48

/-- R84, R114: contexts bound inbound at once. -/
def maxInbound : Nat := 32

/-- R100: the outbound window in chunks. -/
def window : Nat := 16

/-- R125: entries of the Inbound Staging FIFO. -/
def fifoPlaces : Nat := 64

/-- R129: the occupancy that starts holding. -/
def holdAt : Nat := 48

/-- R131: the occupancy at which holding ends. -/
def resumeAt : Nat := 16

/-- R162: frames of the Control Queue. -/
def controlPlaces : Nat := 128

/-- R185: places of the Completion Backlog. -/
def backlogPlaces : Nat := 64

/-- R182, R185: reservations held at once. -/
def maxReservations : Nat := 48

/-- R157: the longest frame the filter admits, with its frame check. -/
def maxFrame : Nat := 9216

/-- R170: the longest burst, and the boundary no burst crosses. -/
def burstBytes : Nat := 4096

/-- R172: the time a burst waits for its answer, in microseconds (50 ms). -/
def burstTimeout : Nat := 50000

/-- R137: a probe miss count, and R61: a retry count, stop at 15. -/
def countCap : Nat := 15

/-- R146: unreported changes stop at 255. -/
def unreportedCap : Nat := 255

/-- R137, R152: the longest pace window in seconds. -/
def maxPaceWindow : Nat := 86400

/-- R178: the longest coalescing time in microseconds. -/
def maxCoalesce : Nat := 1000

/-- R203: the part code of identification 0. -/
def partCode : BitVec 16 := 0x0840

/-- R203: the length of the configuration image. -/
def imageBytes : Nat := 208

/-- R203: the length of a Span frame before its content: the Ethernet header and the Span header. -/
def frameHead : Nat := 22

/-- PRESUMED (Ethernet's shortest frame is 64 bytes with its frame check, which R159 names without its number); log entry 9. -/
def shortestFrame : Nat := 60

/-- R196: the range of each setting, by setting number. -/
def settingRange : Vector (Nat × Nat) 14 :=
  #v[(200, 60000), (200, 60000), (1, 15), (500, 600000), (1000, 600000), (1000, 3600000), (100, 10000),
     (2, 15), (100, 60000), (10, 2000), (0, 3600000), (10, 10000), (8192, 131072), (1, 16)]

/-- FREE VALUE: the revision field of identification 0, whose value R203 does not give; log entry 8. -/
opaque revision : BitVec 16

/-- FREE VALUE: the padding bytes that bring a short frame to Ethernet's shortest length (R159 gives them no value), by the number of the frame and the place in it; log entry 9. -/
opaque padByte : Nat → Nat → Byte

end Sys2Proof.Config
end

