-- ==== Sys2Proof/Machine/State.lean ====
section
/-! DEFINITION. The state of the part, block by block as 00_scope section 3 lists them, as plain data; the stop reasons; and `State.reset`, the part right after a cold reset. -/

namespace Sys2Proof.Machine

/-- The reasons a step of the machine may fault. None: the spec gives every case of every command an outcome, so no command raises a fault (safe: nothing stops). -/
inductive Fault where
  deriving DecidableEq, Repr

/-- The reasons a step may be refused. -/
inductive Refusal where
  /-- A command that has no meaning yet, raised by `exec` alone; no arm of this model answers with it (safe: the machine stops where the part goes on). -/
  | notModelled (mnemonic : String)
  deriving DecidableEq, Repr

/-! ## Names of states, reasons and codes -/

/-- The start-up states (R178). -/
inductive StartState where
  | loading
  | loadFailed
  | ready
  | running
  | resetting
  deriving DecidableEq, Repr

/-- The load fault codes (R179). -/
inductive LoadFault where
  | flash
  | check
  | regions
  | ownIndex
  | frameType
  | station
  | setting
  | pace
  deriving DecidableEq, Repr

/-- The states of a ring (R181). -/
inductive RingState where
  | stopped
  | active
  | faulted
  deriving DecidableEq, Repr

/-- The fault reasons of a ring and of the start fault record (R180, R192, R193). -/
inductive RingReason where
  | fetchError
  | writeError
  | badIndex
  | badSize
  | badBase
  deriving DecidableEq, Repr

/-- The kind of a version (R1). -/
inductive Kind where
  | content
  | tombstone
  deriving DecidableEq, Repr

/-- The role of a record (R1, R2): LOCAL when its version originated in the own region, REMOTE otherwise. -/
inductive Role where
  | localRole
  | remoteRole
  deriving DecidableEq, Repr

/-- The record states (section 1.4): OPEN, OFFERED, RECEIVING, WAITING, LANDED, SETTLED. -/
inductive RecState where
  | opened
  | offered
  | receiving
  | waiting
  | landed
  | settled
  deriving DecidableEq, Repr

/-- The settle outcomes (R1). -/
inductive Settle where
  | converged
  | committed
  | rejected
  deriving DecidableEq, Repr

/-- The ten slot states (R60); `notTarget` is the state the manual names NONE. -/
inductive SlotState where
  | notTarget
  | pending
  | offering
  | sending
  | confirming
  | failed
  | confirmed
  | overtaken
  | abandoned
  | deferred
  deriving DecidableEq, Repr

/-- The failure reasons of a FAILED slot (R1). -/
inductive FailReason where
  | retries
  | declined
  | rejected
  | hostRead
  deriving DecidableEq, Repr

/-- The reasons of an IN_CANCELLED notice (R19, R118, R133, R134). -/
inductive CancelReason where
  | withdrawn
  | superseded
  | idle
  | fault
  | lapsed
  deriving DecidableEq, Repr

/-- The states of a region (R138); `own` is the state the manual names SELF. -/
inductive RegionState where
  | absent
  | own
  | suspended
  | dark
  | live
  deriving DecidableEq, Repr

/-- The pace modes (R137). -/
inductive PaceMode where
  | off
  | alternate
  | single
  deriving DecidableEq, Repr

/-- The pace phases (R137): A, the send window, and B, the quiet window. -/
inductive Phase where
  | a
  | b
  deriving DecidableEq, Repr

/-- The failure kinds of a burst (R172, R175). -/
inductive FailKind where
  | abort
  | unsupported
  | poisoned
  | timeout
  deriving DecidableEq, Repr

/-- The status codes of a completion (section 12.8). -/
inductive Status where
  | ok
  | noTargets
  | malformed
  | privileged
  | badRegion
  | hostMemoryError
  | badExtents
  | noBucket
  | missTimeout
  | readOnly
  | tooLarge
  | stale
  | setFull
  | notTracked
  | noOffer
  | lapsed
  | notLanded
  | wrongState
  | regionLive
  | badSetting
  deriving DecidableEq, Repr

/-- The details of BAD_EXTENTS (R48). -/
inductive ExtentDetail where
  | count
  | size
  | empty
  | zeroLength
  | wrap
  | sum
  deriving DecidableEq, Repr

/-- The details of MALFORMED (R183). -/
inductive MalformedDetail where
  | kind
  | count
  | scope
  | reason
  | selection
  deriving DecidableEq, Repr

/-- The request kinds (R183). -/
inductive ReqKind where
  | publish
  | delete
  | lookup
  | lookupBatch
  | accept
  | decline
  | commit
  | reject
  | abandon
  | retry
  | settingsGet
  | regionGet
  | settingsSet
  | regionSet
  | bucketLoad
  | bucketDeny
  | bucketFlush
  | defer
  deriving DecidableEq, Repr

/-- The reasons of a REPLY frame (R160). -/
inductive ReplyReason where
  | accepted
  | pending
  | busy
  | timeout
  | newer
  | landed
  | haveVersion
  | declined
  | aborted
  deriving DecidableEq, Repr

/-! ## Start-up and configuration -/

/-- The pace default of one region in the image (section 12.7). -/
structure PaceDefault where
  mode : PaceMode
  run : Bool
  sendWindow : BitVec 32
  quietWindow : BitVec 32
  deriving DecidableEq, Repr

/-- The accepted configuration image (R179, section 12.7). -/
structure Image where
  n : Byte
  own : Byte
  frameType : BitVec 16
  stations : Vector (BitVec 48) 8
  settings : Vector Word 14
  pace : Vector PaceDefault 8
  deriving DecidableEq, Repr

/-- The start-up group of the Ring Engine and the Configuration Loader's image (R178 to R180). -/
structure StartUp where
  state : StartState
  loadFault : Option LoadFault
  loadDetail : Byte
  startFault : Option (RingName × RingReason)
  image : Option Image
  deriving DecidableEq, Repr

/-! ## Rings -/

/-- One ring's register group and restart state (R178, R181, R199). -/
structure Ring where
  base : Addr
  size : Word
  prod : Nat
  cons : Nat
  state : RingState
  reason : Option RingReason
  restart : Bool
  deriving DecidableEq, Repr

/-- The three rings, with the Completion Ring's write position and write phase (R186). -/
structure Rings where
  data : Ring
  mgmt : Ring
  comp : Ring
  writePos : Nat
  writePhase : Bool
  deriving DecidableEq, Repr

/-! ## Completions and notices -/

/-- The answer of a lookup for a key that has a record (R22). -/
structure LookupAnswer where
  version : Version
  kind : Kind
  size : Nat
  state : RecState
  outcome : Option Settle
  holders : Byte
  pending : Byte
  failed : Byte
  deriving DecidableEq, Repr

/-- What REGION.GET reports of an entry (R154). -/
structure RegionReport where
  station : BitVec 48
  state : RegionState
  lastReported : RegionState
  miss : Nat
  heard : Bool
  backoffLeft : Nat
  held : Bool
  heldLeft : Nat
  mode : PaceMode
  sendWindow : Nat
  quietWindow : Nat
  run : Bool
  phase : Phase
  remaining : Nat
  windowEnd : Bool
  unreported : Nat
  workLength : Nat
  confirmLength : Nat
  deriving DecidableEq, Repr

/-- The fields a completion carries besides host tag, ring, kind and status (section 12.4). -/
inductive CompBody where
  | plain
  | stored (version : Version) (state : RecState) (targets : Byte) (created superseded evicted : Bool) (replaced : Option Version)
  | lookup (answer : LookupAnswer)
  | version (version : Version)
  | versionState (version : Version) (state : RecState)
  | outcome (outcome : Settle)
  | setNumber (number : Nat)
  | maxSize (bytes : Nat)
  | extents (detail : ExtentDetail) (index : Nat)
  | malformed (kindFound : Byte) (detail : MalformedDetail)
  | memory (count : Nat) (address : Addr)
  | setting (number : Nat)
  | abandon (before : SlotState) (after : RecState) (settled : Bool)
  | defer (deferred settled : Nat)
  | position (position resumed : Nat)
  | count (n : Nat)
  | mask (mask : BitVec 16)
  | values (first : Nat) (values : List Word)
  | regionSet (before after : RegionState) (aborted : Nat) (phase : Phase) (remaining : Nat)
  | regionGet (report : RegionReport)
  deriving DecidableEq, Repr

/-- One completion (R58, R200): the ring and host tag of its request, the kind value found, the status and its fields. -/
structure Completion where
  ring : ReqRing
  tag : Word
  kind : Byte
  status : Status
  body : CompBody
  deriving DecidableEq, Repr

/-- The notices (R187), each with the fields its rule names. -/
inductive Notice where
  | bucketMiss (tenant : Byte) (bucket : BitVec 32) (place : Nat)
  | offerIn (key : Key) (version : Version) (kind : Kind) (size : Nat) (contentTag : BitVec 128) (answerWanted : Bool)
  | inCancelled (key : Key) (version : Version) (reason : CancelReason)
  | landed (key : Key) (version : Version) (kind : Kind) (size : Nat)
  | settled (key : Key) (version : Version) (kind : Kind) (confirmed overtaken abandoned deferred : Byte)
  | superseded (key : Key) (old new : Version)
  | slotFailed (key : Key) (version : Version) (region : Region) (reason : FailReason) (retries : Nat)
  | regionState (region : Region) (new previous : RegionState) (miss changes : Nat)
  | pressure (rising : Bool) (count : Nat)
  | recordState (key : Key) (version : Version) (kind : Kind) (size : Nat) (contentTag : BitVec 128) (role : Role) (state : RecState)
      (outcome : Option Settle) (slots : Vector (SlotState × Option FailReason) 8)
  deriving DecidableEq, Repr

/-- What one place of the Backlog holds: a completion, or one of the one or two entries of a notice (R185, R187). -/
inductive EntryBody where
  | completion (c : Completion)
  | notice (n : Notice) (second : Bool)
  deriving DecidableEq, Repr

/-- Where the writing of a Backlog entry stands (R186): not handed to the client, handed as an operation, written, or its write failed (R192). -/
inductive WriteState where
  | waiting
  | writing (op : Nat)
  | written
  | failed
  deriving DecidableEq, Repr

/-- One place of the Completion Backlog (R185, R186). -/
structure BacklogEntry where
  body : EntryBody
  write : WriteState
  deriving DecidableEq, Repr

/-- The Completion Backlog with its reservations, and the Notice Unit's Owed List and owed pressure flag (R185, R187, R21). -/
structure Backlog where
  entries : List BacklogEntry
  reservations : Nat
  owedList : List Key
  owedPressure : Bool
  deriving DecidableEq, Repr

/-! ## Interrupt -/

/-- The interrupt state (R190, R191). `sent` and `causeRead` are the model's view of the two outputs: the messages sent and the value the last CAUSE read returned (log entry 11). -/
structure Irq where
  entries : Bool
  unsignalled : Nat
  timer : Option Nat
  trigger : Word
  coalesce : Word
  masked : Bool
  held : Bool
  sent : Nat
  causeRead : Word
  deriving DecidableEq, Repr

/-! ## Requests in flight -/

/-- One extent (R43): a host address and a length. -/
structure Extent where
  addr : Addr
  len : BitVec 32
  deriving DecidableEq, Repr

/-- The placement copy a request carries (R28). -/
structure Placement where
  template : Byte
  home : Byte
  allowFirst : Byte
  allowLast : Byte
  maxSize : BitVec 32
  readOnly : Bool
  deriving DecidableEq, Repr

/-- The extent table stage of a PUBLISH (R47): its read is in flight, or it has ended with a good list. -/
inductive ExtentStage where
  | reading
  | good (extents : List Extent)
  deriving DecidableEq, Repr

/-- Where the wait of a request that left the Miss Hold, or was never parked, stands (R29, R33, R38, R45). -/
inductive PubStage where
  /-- In the Miss Hold, without a placement. -/
  | parked
  /-- With a placement; `load` names the BUCKET.LOAD that resumed it, whose requests keep their order (R38). -/
  | placed (placement : Placement) (load : Option Nat)
  /-- With its outcome held until its extent table read ends (R33): true for NO_BUCKET, false for MISS_TIMEOUT. -/
  | doomed (denied : Bool)
  /-- Handed to the Table Controller (R50). -/
  | ready (placement : Placement)
  deriving DecidableEq, Repr

/-- A PUBLISH or DELETE in flight (R59). -/
structure Pub where
  id : Nat
  ring : ReqRing
  tag : Word
  kind : Kind
  key : Key
  seq : BitVec 48
  contentTag : BitVec 128
  size : Nat
  extents : ExtentStage
  stage : PubStage
  deriving DecidableEq, Repr

/-- An ACCEPT that waits for its landing extent table (R119). -/
structure PendingAccept where
  id : Nat
  ring : ReqRing
  req : AcceptReq
  deriving DecidableEq, Repr

/-- A LOOKUP.BATCH in progress (R23): its keys once read, and the results written. -/
structure Batch where
  id : Nat
  ring : ReqRing
  req : BatchReq
  keys : List Key
  done : Nat
  deriving DecidableEq, Repr

/-- The requests in flight outside the Miss Hold, and the serial numbers that name requests and loads (log entry 6). -/
structure Requests where
  pubs : List Pub
  accepts : List PendingAccept
  batches : List Batch
  nextId : Nat
  nextLoad : Nat
  deriving DecidableEq, Repr

/-! ## Bucket Map Cache -/

/-- A bucket entry (R26). -/
structure BucketEntry where
  tenant : Byte
  bucket : BitVec 32
  isGlobal : Bool
  placement : Placement
  deriving DecidableEq, Repr

/-- An occupied place of the Miss Hold (R30); its bucket key is that of the request. -/
structure Parked where
  pub : Pub
  order : Nat
  deadline : Nat
  owed : Bool
  deriving DecidableEq, Repr

/-- The Bucket Map Cache (R26, R28, R30, R37). -/
structure Bmc where
  entries : Vector (Option BucketEntry) 32
  pointer : Fin 32
  recent : Option (Fin 32)
  hold : Vector (Option Parked) 4
  nextOrder : Nat
  deriving DecidableEq, Repr

/-! ## Replica Table -/

/-- A slot of a record (R1, R60, R61). -/
structure Slot where
  state : SlotState
  retries : Nat
  ctx : Option CtxNo
  reason : Option FailReason
  deriving DecidableEq, Repr

/-- A record of the Replica Table (R1). -/
structure Record where
  key : Key
  version : Version
  kind : Kind
  size : Nat
  chunks : Nat
  contentTag : BitVec 128
  role : Role
  state : RecState
  outcome : Option Settle
  slots : Vector Slot 8
  extents : List Extent
  inbound : Option CtxNo
  linger : Option Nat
  owed : Bool
  owedCancel : Option (Version × CancelReason)
  deriving DecidableEq, Repr

/-- The Replica Table and its companions (R4, R9, R20, R21): the records in rising key order, the Linger List, the pressure state and the last one reported (true for rising). -/
structure Table where
  records : List Record
  linger : List Key
  rising : Bool
  lastReported : Bool
  deriving DecidableEq, Repr

/-! ## Transfer Scheduler -/

/-- An entry of a Confirm List (R66). -/
structure ConfirmEntry where
  key : Key
  deadline : Nat
  deriving DecidableEq, Repr

/-- The lists of each region and the last-served index (R63, R66, R72). -/
structure Sched where
  work : Vector (List Key) 8
  confirm : Vector (List ConfirmEntry) 8
  lastServed : Region
  deriving DecidableEq, Repr

/-! ## Context Pool -/

/-- The states of an outbound context (R84). -/
inductive OutState where
  | offering
  | sending
  | aborting
  deriving DecidableEq, Repr

/-- A segment buffer (R86, R98): free; reading, its data to be kept or discarded; read but not yet folded; or ready, with the chunk check on a chunk's last segment. -/
inductive Buf where
  | free
  | reading (chunk seg : Nat) (discard : Bool)
  | unfolded (chunk seg : Nat) (bytes : List Byte)
  | ready (chunk seg : Nat) (bytes : List Byte) (chunkCheck : Option (BitVec 32))
  deriving DecidableEq, Repr

/-- The fields of a context bound outbound (R86); `order` is the order in which contexts were bound (R64). -/
structure OutCtx where
  key : Key
  version : Version
  dest : Region
  chunks : Nat
  state : OutState
  next : Nat
  acked : Nat
  readChunk : Nat
  readSeg : Nat
  bufs : Vector Buf 2
  acc : BitVec 32
  burst : Nat
  timer : Option Nat
  order : Nat
  deriving DecidableEq, Repr

/-- The states of an inbound context (R84). -/
inductive InState where
  | awaitHost
  | receiving
  | draining
  deriving DecidableEq, Repr

/-- The fields of a context bound inbound (R110); a place of the received set is marked when it holds the segment's bytes as taken (R124). -/
structure InCtx where
  key : Key
  version : Version
  source : Region
  kind : Kind
  size : Nat
  chunks : Nat
  state : InState
  landing : List Extent
  expected : Nat
  received : Vector (Option (List Byte)) 32
  carried : Option (BitVec 32)
  acked : Nat
  timer : Option Nat
  cancel : Option CancelReason
  deriving DecidableEq, Repr

/-- A transfer context (R84). -/
inductive Ctx where
  | free
  | out (o : OutCtx)
  | inb (i : InCtx)
  deriving DecidableEq, Repr

/-- The Context Pool (R84) and the serial number of bindings. -/
structure Pool where
  ctx : Vector Ctx 64
  nextOrder : Nat
  deriving DecidableEq, Repr

/-! ## Staging FIFO -/

/-- An entry of the Inbound Staging FIFO (R125): waiting when it has no operation, writing when it has one. -/
structure FifoEntry where
  ctx : CtxNo
  chunk : Nat
  seg : Nat
  payload : List Byte
  op : Option Nat
  discarded : Bool
  deriving DecidableEq, Repr

/-- The Staging FIFO and its flow control (R125, R129); `holdSent` of a region is the time of its last HOLD while its hold-sent flag is set. -/
structure Inbound where
  fifo : List FifoEntry
  holding : Bool
  holdSent : Vector (Option Nat) 8
  deriving DecidableEq, Repr

/-! ## Region Unit -/

/-- An entry of the Region Table (R137); the held flag is set while `held` holds its deadline. -/
structure RegionEntry where
  station : BitVec 48
  state : RegionState
  heard : Bool
  miss : Nat
  backoff : Option Nat
  held : Option Nat
  mode : PaceMode
  sendWindow : Nat
  quietWindow : Nat
  run : Bool
  phase : Phase
  remaining : Nat
  windowEnd : Bool
  lastReported : RegionState
  unreported : Nat
  owed : Bool
  deriving DecidableEq, Repr

/-- The Region Table and the probe timer (R137, R141). -/
structure RegionUnit where
  entry : Vector RegionEntry 8
  probe : Option Nat
  deriving DecidableEq, Repr

/-! ## WAN Port -/

/-- The content of a control frame (R160, R162). -/
inductive CtlBody where
  | offer (key : Key) (version : Version) (kind : Kind) (size : Nat) (contentTag : BitVec 128)
  | reply (key : Key) (version : Version) (reason : ReplyReason) (resume : Nat) (other : Option Version)
  | ack (key : Key) (version : Version) (next : Nat)
  | confirm (key : Key) (version : Version) (committed : Bool)
  | withdraw (key : Key) (version : Version)
  | hold (time : Nat)
  | resume
  | probe
  | echo
  deriving DecidableEq, Repr

/-- A control frame with its destination region (R162). -/
structure CtlFrame where
  dest : Region
  body : CtlBody
  deriving DecidableEq, Repr

/-- The WAN Port (R156, R162, R163); `tx` is the frame whose transmission is in progress, as sent;
`frames` is the model's count of the frames begun, which its free padding bytes are drawn by (log entry 9). -/
structure Wan where
  carrier : Bool
  queue : List CtlFrame
  holder : Option CtxNo
  lastGranted : CtxNo
  tx : Option (List Byte)
  frames : Nat
  deriving DecidableEq, Repr

/-! ## Host Memory Engine -/

/-- Which block's work an operation is (R169). -/
inductive OpUse where
  | fetch (ring : ReqRing)
  | completion
  | extents (request : Nat)
  | landing (request : Nat)
  | segRead (ctx : CtxNo) (buffer : Fin 2)
  | segWrite (ctx : CtxNo)
  | keys (request : Nat)
  | result (request : Nat)
  deriving DecidableEq, Repr

/-- Where a burst stands (R172, R173): not issued; issued, first copy or reissue, until a time; waiting for its reissue; completed, with the data of a read; failed; or dropped. -/
inductive BurstState where
  | unissued
  | issued (reissue : Bool) (deadline : Nat)
  | awaiting
  | done (data : List Byte)
  | failed
  | dropped
  deriving DecidableEq, Repr

/-- A burst (R170): its host address, its length, the bytes it writes (none for a read), and where it stands. -/
structure Burst where
  addr : Addr
  len : Nat
  bytes : List Byte
  state : BurstState
  deriving DecidableEq, Repr

/-- An operation of the HME (R169, R173): its bursts in offset order and the first failure met. -/
structure Op where
  id : Nat
  use : OpUse
  bursts : List Burst
  failure : Option (FailKind × Addr)
  deriving DecidableEq, Repr

/-- The fault latch while it is set (R175). -/
structure Latch where
  client : Fin 7
  kind : FailKind
  addr : Addr
  multiple : Bool
  deriving DecidableEq, Repr

/-- The Host Memory Engine (R169 to R175): its operations in the order the blocks gave them, the bursts awaiting reissue (operation and place), the last-granted client and the latch. -/
structure Hme where
  ops : List Op
  reissue : List (Nat × Nat)
  lastClient : Fin 7
  latch : Option Latch
  nextOp : Nat
  deriving DecidableEq, Repr

/-! ## The whole state -/

/-- The state of the part, and the queue of the commands that wait, first in, first out. -/
structure State where
  now : Nat
  start : StartUp
  settings : Vector Word 14
  rings : Rings
  backlog : Backlog
  irq : Irq
  reqs : Requests
  bmc : Bmc
  table : Table
  sched : Sched
  pool : Pool
  inbound : Inbound
  regions : RegionUnit
  wan : Wan
  hme : Hme
  pending : List Instr
  deriving DecidableEq, Repr

/-! ## Reset values -/

/-- A ring after a cold or function reset (R195, R198). -/
def Ring.reset : Ring :=
  { base := 0, size := 0, prod := 0, cons := 0, state := .stopped, reason := none, restart := false }

/-- The rings after a cold or function reset (R195, R198). -/
def Rings.reset : Rings :=
  { data := .reset, mgmt := .reset, comp := .reset, writePos := 0, writePhase := true }

/-- R195, R198: empty Backlog, no reservation, nothing owed. -/
def Backlog.reset : Backlog :=
  { entries := [], reservations := 0, owedList := [], owedPressure := false }

/-- R195, R198: no cause pending, trigger level 1, coalescing time 0; the vector mask and the two output views are DESIGN CHOICE (log entries 7 and 11). -/
def Irq.reset : Irq :=
  { entries := false, unsignalled := 0, timer := none, trigger := 1, coalesce := 0, masked := false, held := false, sent := 0, causeRead := 0 }

/-- R59: no request in flight. -/
def Requests.reset : Requests :=
  { pubs := [], accepts := [], batches := [], nextId := 0, nextLoad := 0 }

/-- R42. -/
def Bmc.reset : Bmc :=
  { entries := Vector.replicate 32 none, pointer := 0, recent := none, hold := Vector.replicate 4 none, nextOrder := 0 }

/-- R25. -/
def Table.reset : Table :=
  { records := [], linger := [], rising := false, lastReported := false }

/-- R83: empty lists, last served 7. -/
def Sched.reset : Sched :=
  { work := Vector.replicate 8 [], confirm := Vector.replicate 8 [], lastServed := 7 }

/-- R109, R136: every context FREE. -/
def Pool.reset : Pool :=
  { ctx := Vector.replicate 64 .free, nextOrder := 0 }

/-- R136. -/
def Inbound.reset : Inbound :=
  { fifo := [], holding := false, holdSent := Vector.replicate 8 none }

/-- The entry of an index outside the deployment, and of every index until an image is accepted (R155): ABSENT, pace OFF with both windows 1 s. Its station address is DESIGN CHOICE 0 (log entry 14). -/
def RegionEntry.absent : RegionEntry :=
  { station := 0, state := .absent, heard := false, miss := 0, backoff := none, held := none, mode := .off, sendWindow := 1, quietWindow := 1,
    run := false, phase := .a, remaining := 1000, windowEnd := false, lastReported := .absent, unreported := 0, owed := false }

/-- R155: every entry ABSENT until an image is accepted, the probe timer not running. -/
def RegionUnit.reset : RegionUnit :=
  { entry := Vector.replicate 8 .absent, probe := none }

/-- R168; the carrier state is the line's own and is DESIGN CHOICE down at the start (log entry 7). -/
def Wan.reset : Wan :=
  { carrier := false, queue := [], holder := none, lastGranted := 63, tx := none, frames := 0 }

/-- R177. -/
def Hme.reset : Hme :=
  { ops := [], reissue := [], lastClient := 6, latch := none, nextOp := 0 }

/-- R179, R198: LOADING, no load fault, no start fault, no image. -/
def StartUp.reset : StartUp :=
  { state := .loading, loadFault := none, loadDetail := 0, startFault := none, image := none }

/-- The part right after a cold reset (R25, R42, R83, R109, R136, R155, R168, R177, R179, R198), with an empty queue of commands. -/
def State.reset : State :=
  { now := 0, start := .reset, settings := Vector.replicate 14 0, rings := .reset, backlog := .reset, irq := .reset, reqs := .reset,
    bmc := .reset, table := .reset, sched := .reset, pool := .reset, inbound := .reset, regions := .reset, wan := .reset, hme := .reset,
    pending := [] }

/-! ## Updates: one for each field of the state -/

/-- The state with `now` replaced. -/
def State.withNow (s : State) (v : Nat) : State := { s with now := v }

/-- The state with `start` replaced. -/
def State.withStart (s : State) (v : StartUp) : State := { s with start := v }

/-- The state with `settings` replaced. -/
def State.withSettings (s : State) (v : Vector Word 14) : State := { s with settings := v }

/-- The state with `rings` replaced. -/
def State.withRings (s : State) (v : Rings) : State := { s with rings := v }

/-- The state with `backlog` replaced. -/
def State.withBacklog (s : State) (v : Backlog) : State := { s with backlog := v }

/-- The state with `irq` replaced. -/
def State.withIrq (s : State) (v : Irq) : State := { s with irq := v }

/-- The state with `reqs` replaced. -/
def State.withReqs (s : State) (v : Requests) : State := { s with reqs := v }

/-- The state with `bmc` replaced. -/
def State.withBmc (s : State) (v : Bmc) : State := { s with bmc := v }

/-- The state with `table` replaced. -/
def State.withTable (s : State) (v : Table) : State := { s with table := v }

/-- The state with `sched` replaced. -/
def State.withSched (s : State) (v : Sched) : State := { s with sched := v }

/-- The state with `pool` replaced. -/
def State.withPool (s : State) (v : Pool) : State := { s with pool := v }

/-- The state with `inbound` replaced. -/
def State.withInbound (s : State) (v : Inbound) : State := { s with inbound := v }

/-- The state with `regions` replaced. -/
def State.withRegions (s : State) (v : RegionUnit) : State := { s with regions := v }

/-- The state with `wan` replaced. -/
def State.withWan (s : State) (v : Wan) : State := { s with wan := v }

/-- The state with `hme` replaced. -/
def State.withHme (s : State) (v : Hme) : State := { s with hme := v }

/-- The state with `pending` replaced. -/
def State.withPending (s : State) (v : List Instr) : State := { s with pending := v }

end Sys2Proof.Machine
end

