-- ==== Sys2Proof/Machine/Flags.lean ====
section
/-! DEFINITION. The conditions and quantities the rules compute from the state: who may act, what is pending, what fits, what is due. Nothing here changes the state. -/

namespace Sys2Proof.Machine

/-! ## The part, its settings and its clock -/

/-- The part is RUNNING (R178). -/
def State.running (s : State) : Bool := s.start.state == .running

/-- The window shows every register (R178): in every start-up state but LOADING. -/
def State.windowOpen (s : State) : Bool := s.start.state != .loading

/-- Register writes take effect (R178): in LOAD_FAILED, READY and RUNNING. -/
def State.writable (s : State) : Bool := s.start.state == .loadFailed || s.start.state == .ready || s.start.state == .running

/-- The value in force of a setting (R196). -/
def State.setting (s : State) (i : Fin 14) : Nat := (vget s.settings i).toNat

/-- A setting in milliseconds, as microseconds of the clock. -/
def State.settingTime (s : State) (i : Fin 14) : Nat := s.setting i * 1000

/-- The number of regions N (R179); 0 until an image is accepted. -/
def State.regionCount (s : State) : Nat := (s.start.image.map fun im => im.n.toNat).getD 0

/-- The own region index (R179); 0 until an image is accepted. -/
def State.ownIndex (s : State) : Nat := (s.start.image.map fun im => im.own.toNat).getD 0

/-- A deadline has passed: the clock has reached it (00_scope 6.4, log entry 2). -/
def expired (now : Nat) (deadline : Option Nat) : Bool := deadline.any fun t => t ≤ now

/-- The milliseconds left to a deadline, rounded up (log entry 16); 0 without one (R154 for backoff, log entry 38 for a hold). -/
def millisLeft (now : Nat) (deadline : Option Nat) : Nat := (deadline.map fun t => (t - now + 999) / 1000).getD 0

/-! ## Versions, chunks, sets -/

/-- R5: the order of versions. -/
def newer (a b : Version) : Bool := b.seq.toNat < a.seq.toNat || (a.seq == b.seq && b.origin.toNat < a.origin.toNat)

/-- R2: the chunk count of a size. -/
def chunkCount (size : Nat) : Nat := (size + (Config.chunkBytes - 1)) / Config.chunkBytes

/-- R2, R96: the length of a chunk. -/
def chunkLength (size chunk : Nat) : Nat := if chunk + 1 < chunkCount size then Config.chunkBytes else size - Config.chunkBytes * (chunkCount size - 1)

/-- R96: the number of segments of a chunk. -/
def segmentCount (size chunk : Nat) : Nat := (chunkLength size chunk + (Config.segmentBytes - 1)) / Config.segmentBytes

/-- R96: the length of a segment. -/
def segmentLength (size chunk seg : Nat) : Nat :=
  if seg + 1 < segmentCount size chunk then Config.segmentBytes else chunkLength size chunk - Config.segmentBytes * (segmentCount size chunk - 1)

/-- R97, R125: the object offset of a segment. -/
def segmentOffset (chunk seg : Nat) : Nat := Config.chunkBytes * chunk + Config.segmentBytes * seg

/-- R3: the set of a key. -/
def setOf (k : Key) : Nat :=
  let v : BitVec 64 := (BitVec.ofNat 64 (k.bucket.toNat * 256 + k.tenant.toNat)) ^^^ k.object
  ((v.extractLsb' 0 16 ^^^ v.extractLsb' 16 16 ^^^ v.extractLsb' 32 16 ^^^ v.extractLsb' 48 16).toNat) % Config.sets

/-- The number that orders the records of the table's list (log entry 20). -/
def keyNumber (k : Key) : Nat := k.tenant.toNat * 2 ^ 96 + k.bucket.toNat * 2 ^ 64 + k.object.toNat

/-- The region an index byte names. -/
def regionOf (b : Byte) : Region := ⟨b.toNat % 8, Nat.mod_lt _ (by decide)⟩

/-- The region an index byte names when it is less than N and not the own region (R79, R81, R152). -/
def State.otherRegion (s : State) (b : Byte) : Option Region :=
  if b.toNat < s.regionCount ∧ b.toNat ≠ s.ownIndex then some (regionOf b) else none

/-! ## Regions -/

/-- The entry of a region (R137). -/
def State.region (s : State) (x : Region) : RegionEntry := vget s.regions.entry x

/-- Frames of the region pass checks 6 and 9 of R157: it is neither SUSPENDED nor outside the deployment nor the own region, and the part is RUNNING (R156). -/
def State.admits (s : State) (x : Region) : Bool := s.running && ((s.region x).state == .dark || (s.region x).state == .live)

/-- R149: the region is sendable. -/
def RegionEntry.sendable (e : RegionEntry) : Bool := e.state == .live && e.held.isNone && (e.mode == .off || e.phase == .a)

/-- R149. -/
def State.sendable (s : State) (x : Region) : Bool := (s.region x).sendable

/-- R150: the pace timer of the entry counts. -/
def RegionEntry.counting (e : RegionEntry) : Bool :=
  match e.mode with
  | .off => false
  | .alternate => e.run
  | .single => e.run && e.phase == .a

/-- R70: the region is eligible for a grant. -/
def State.eligible (s : State) (x : Region) : Bool :=
  let e := s.region x
  e.state == .live && e.backoff.isNone && (e.mode == .off || e.phase == .a) && !(vget s.sched.work x).isEmpty

/-! ## Rings -/

/-- The ring name of a request ring. -/
def ringName : ReqRing → RingName
  | .data => .data
  | .management => .management

/-- The group of a ring (R178). -/
def Rings.get (r : Rings) : RingName → Ring
  | .data => r.data
  | .management => r.mgmt
  | .completion => r.comp

/-- The number of entries available (R181). -/
def Ring.available (r : Ring) : Nat := (r.prod + r.size.toNat - r.cons) % r.size.toNat

/-- The size range of a ring (R180). -/
def sizeRange : RingName → Nat × Nat
  | .data => (64, 4096)
  | .management => (16, 256)
  | .completion => (128, 8192)

/-- R180: the size is a power of two within the ring's range. -/
def sizeOk (name : RingName) (size : Word) : Bool :=
  (sizeRange name).1 ≤ size.toNat && size.toNat ≤ (sizeRange name).2 && (List.range 14).any fun i => size.toNat == 2 ^ i

/-- R180: the base is a multiple of 64. -/
def baseOk (base : Addr) : Bool := base.toNat % 64 == 0

/-- R180: the size and then the base of a ring are checked. -/
def ringFaultOf (name : RingName) (r : Ring) : Option RingReason :=
  if !sizeOk name r.size then some .badSize else if !baseOk r.base then some .badBase else none

/-! ## Interrupt causes -/

/-- R191: RING_FAULT is pending. -/
def State.ringFaultPending (s : State) : Bool :=
  s.rings.data.state == .faulted || s.rings.mgmt.state == .faulted || s.rings.comp.state == .faulted || s.start.startFault.isSome

/-- R191: DEVICE_FAULT is pending. -/
def State.deviceFaultPending (s : State) : Bool := s.hme.latch.isSome

/-- R190: an interrupt may be raised. -/
def State.mayRaise (s : State) : Bool := s.start.state == .ready || s.start.state == .running

/-- The value of the CAUSE register (R191, section 12.2): the pending set in bits 0 to 2 and the highest cause in bits 8 and 9. -/
def State.cause (s : State) : Word :=
  let highest := if s.deviceFaultPending then 3 else if s.ringFaultPending then 2 else if s.irq.entries then 1 else 0
  BitVec.ofNat 32 (s.irq.entries.toNat + 2 * s.ringFaultPending.toNat + 4 * s.deviceFaultPending.toNat + 256 * highest)

/-! ## The Backlog and the takes -/

/-- R185: the free places. -/
def Backlog.free (b : Backlog) : Nat := Config.backlogPlaces - b.entries.length - b.reservations

/-- A place of the Miss Hold carries an owed BUCKET_MISS (R30). -/
def owedPlace (p : Option Parked) : Bool := p.any (·.owed)

/-- R187, R188: a notice is owed. -/
def State.anyOwed (s : State) : Bool :=
  s.backlog.owedPressure || s.regions.entry.toList.any (·.owed) || s.bmc.hold.toList.any owedPlace || !s.backlog.owedList.isEmpty

/-- R187: a notice of that length is placed. -/
def State.fits (s : State) (length : Nat) : Bool := !s.anyOwed && length ≤ s.backlog.free

/-- R32: the Bucket Map Cache admits a Data Ring entry. -/
def Bmc.admitsData (b : Bmc) : Bool := b.hold.toList.any (·.isNone)

/-- R182: the conditions of a fetch and of a take, but for an entry available and no fetch outstanding. -/
def State.takeOk (s : State) (ring : ReqRing) : Bool :=
  s.running && (s.rings.get (ringName ring)).state == .active && s.backlog.entries.length + s.backlog.reservations < Config.backlogPlaces &&
    s.backlog.reservations < Config.maxReservations && !s.anyOwed && (ring == .management || s.bmc.admitsData)

/-! ## Records -/

/-- R3: the record of a key. -/
def Table.find (t : Table) (k : Key) : Option Record := t.records.find? fun r => r.key == k

/-- R60: the slot state is final. -/
def SlotState.isFinal : SlotState → Bool
  | .confirmed => true
  | .overtaken => true
  | .abandoned => true
  | .deferred => true
  | _ => false

/-- R60: the slot state is neither final nor NONE. -/
def SlotState.isOpen (st : SlotState) : Bool := !st.isFinal && st != .notTarget

/-- The mask of the regions whose slot satisfies a test (00_scope 6.2: bit i for region i). -/
def slotMask (slots : Vector Slot 8) (p : SlotState → Bool) : Byte :=
  BitVec.ofNat 8 (((List.finRange 8).map fun i => if p (vget slots i).state then 2 ^ i.val else 0).sum)

/-- R6: no slot of the record is open. -/
def Record.allFinal (r : Record) : Bool := r.slots.toList.all fun sl => !sl.state.isOpen

/-- A context's key (R84), if it is bound. -/
def Ctx.key : Ctx → Option Key
  | .free => none
  | .out o => some o.key
  | .inb i => some i.key

/-- R11: no context holds the key. -/
def Pool.releases (p : Pool) (k : Key) : Bool := p.ctx.toList.all fun c => c.key != some k

/-- R11: the record may be retired. -/
def State.retirable (s : State) (r : Record) : Bool := r.state == .settled && !r.owed && s.pool.releases r.key

/-- The records of a set (R4). -/
def Table.inSet (t : Table) (n : Nat) : List Record := t.records.filter fun r => setOf r.key == n

/-- R14: the key of the record that would be evicted from a set: the first of the Linger List that is in the set and may be retired. -/
def State.evictable (s : State) (n : Nat) : Option Key :=
  s.table.linger.find? fun k => setOf k == n && (s.table.find k).any s.retirable

/-- The set has a free place (R4). -/
def Table.setHasPlace (t : Table) (n : Nat) : Bool := (t.inSet n).length < Config.setPlaces

/-- R15: the set is able to take a new record. -/
def State.setAble (s : State) (n : Nat) : Bool := s.table.setHasPlace n || (s.evictable n).isSome

/-- R22: the answer for a record. -/
def State.answerOf (s : State) (r : Record) : LookupAnswer :=
  let own : Byte := if r.role == .localRole || r.outcome == some .committed then BitVec.ofNat 8 (2 ^ s.ownIndex) else 0
  let origin : Byte := if r.role == .remoteRole then BitVec.ofNat 8 (2 ^ r.version.origin.toNat) else 0
  { version := r.version, kind := r.kind, size := r.size, state := r.state, outcome := r.outcome,
    holders := own ||| origin ||| slotMask r.slots (· == .confirmed),
    pending := slotMask r.slots fun st => st == .pending || st == .offering || st == .sending || st == .confirming,
    failed := slotMask r.slots (· == .failed) }

/-- R51: the placement's allow range holds the region. -/
def Placement.allows (p : Placement) (x : Nat) : Bool :=
  if p.allowFirst.toNat ≤ p.allowLast.toNat then p.allowFirst.toNat ≤ x && x ≤ p.allowLast.toNat
  else p.allowFirst.toNat ≤ x || x ≤ p.allowLast.toNat

/-- R51: the target set of a placement, in ascending region order, for N regions and an own region. -/
def targetSet (p : Placement) (n own : Nat) : List Region :=
  (List.finRange 8).filter fun x =>
    x.val < n && ((List.range 8).any fun pos => p.template.getLsbD pos && (pos + p.home.toNat) % n == x.val) && p.allows x.val && x.val != own

/-- A set of regions as a mask. -/
def regionMask (xs : List Region) : Byte := BitVec.ofNat 8 ((xs.map fun x => 2 ^ x.val).sum)

/-! ## Contexts -/

/-- A context by its number. -/
def State.ctx (s : State) (c : CtxNo) : Ctx := vget s.pool.ctx c

/-- R73: the lowest-numbered FREE context. -/
def Pool.lowestFree (p : Pool) : Option CtxNo := (List.finRange 64).find? fun c => vget p.ctx c == .free

/-- The context is bound outbound. -/
def Ctx.isOut : Ctx → Bool
  | .out _ => true
  | _ => false

/-- The context is bound inbound. -/
def Ctx.isIn : Ctx → Bool
  | .inb _ => true
  | _ => false

/-- R84: the contexts bound outbound. -/
def Pool.outCount (p : Pool) : Nat := (p.ctx.toList.filter Ctx.isOut).length

/-- R84: the contexts bound inbound. -/
def Pool.inCount (p : Pool) : Nat := (p.ctx.toList.filter Ctx.isIn).length

/-- The outbound fields of a context, if it is bound outbound. -/
def Ctx.out? : Ctx → Option OutCtx
  | .out o => some o
  | _ => none

/-- The inbound fields of a context, if it is bound inbound. -/
def Ctx.in? : Ctx → Option InCtx
  | .inb i => some i
  | _ => none

/-- R88: the outbound context in OFFERING or SENDING that a frame from region X names. -/
def State.outboundFor (s : State) (x : Region) (k : Key) (v : Version) : Option CtxNo :=
  (List.finRange 64).find? fun c => (s.ctx c).out?.any fun o => o.state != .aborting && o.key == k && o.version == v && o.dest == x

/-- R122: the inbound context in RECEIVING that a segment from region X names. -/
def State.receivingFor (s : State) (x : Region) (k : Key) (v : Version) : Option CtxNo :=
  (List.finRange 64).find? fun c => (s.ctx c).in?.any fun i => i.state == .receiving && i.key == k && i.version == v && i.source == x

/-- A buffer in the reading state (R86). -/
def Buf.isReading : Buf → Bool
  | .reading .. => true
  | _ => false

/-- A place of a segment in the pass: chunk first, then segment. -/
def Buf.position : Buf → Option (Nat × Nat)
  | .free => none
  | .reading c g discard => if discard then none else some (c, g)
  | .unfolded c g _ => some (c, g)
  | .ready c g _ _ => some (c, g)

/-- One place of the pass comes before another. -/
def earlier (a b : Nat × Nat) : Bool := a.1 < b.1 || (a.1 == b.1 && a.2 < b.2)

/-- The other of the two buffers. -/
def otherBuf (b : Fin 2) : Fin 2 := if b = 0 then 1 else 0

/-- R98: the buffer holds a segment whose turn to be folded has come: the other buffer holds no earlier segment that is still to be folded. -/
def OutCtx.foldable (o : OutCtx) (b : Fin 2) : Bool :=
  match vget o.bufs b with
  | .unfolded c g _ =>
    (match vget o.bufs (otherBuf b) with
     | .ready .. => true
     | other => !(other.position.any fun p => earlier p (c, g)))
  | _ => false

/-- R86: host reads in flight. -/
def OutCtx.readsInFlight (o : OutCtx) : Nat := (o.bufs.toList.filter Buf.isReading).length

/-- R99: the grantable segment: a ready buffer with no earlier segment in the other one. -/
def OutCtx.grantable (o : OutCtx) : Option (Fin 2) :=
  [(0 : Fin 2), 1].find? fun b =>
    match vget o.bufs b with
    | .ready c g _ _ => !((vget o.bufs (otherBuf b)).position.any fun p => earlier p (c, g))
    | _ => false

/-- R163: the context is a candidate for the grant. -/
def State.candidate (s : State) (c : CtxNo) : Bool :=
  (s.ctx c).out?.any fun o => o.state == .sending && s.sendable o.dest && o.grantable.isSome

/-- R97, R100: the reading position may be read: it lies in a chunk begun, or is segment 0 of the next chunk and that chunk may be begun. -/
def OutCtx.mayRead (o : OutCtx) : Bool :=
  o.readChunk < o.next || (o.readChunk == o.next && o.readSeg == 0 && o.next < o.chunks && o.next - o.acked < Config.window)

/-- R86: a free segment buffer, the lower-numbered one first (log entry 21). -/
def OutCtx.freeBuf (o : OutCtx) : Option (Fin 2) := [(0 : Fin 2), 1].find? fun b => vget o.bufs b == .free

/-- R110: the writes in flight of an inbound context. -/
def Inbound.writesInFlight (f : Inbound) (c : CtxNo) : Nat := (f.fifo.filter fun e => e.ctx == c && e.op.isSome).length

/-- R124: the segments of a chunk of a context not yet written. -/
def Inbound.unwritten (f : Inbound) (c : CtxNo) (chunk : Nat) : Nat := (f.fifo.filter fun e => e.ctx == c && e.chunk == chunk && !e.discarded).length

/-- R126: the point reached from `point` over whole chunks written, at most `n` chunks further. -/
def ackPoint (f : Inbound) (c : CtxNo) (expected : Nat) : Nat → Nat → Nat
  | 0, point => point
  | n + 1, point => if point < expected ∧ f.unwritten c point = 0 then ackPoint f c expected n (point + 1) else point

/-- R125: the waiting entry may be handed on: no writing entry of its chunk carries the discarded-pass mark. -/
def Inbound.mayIssue (f : Inbound) (e : FifoEntry) : Bool :=
  e.op.isNone && !(f.fifo.any fun d => d.ctx == e.ctx && d.chunk == e.chunk && d.discarded && d.op.isSome)

/-! ## Operations of the Host Memory Engine -/

/-- R169: the client of an operation. -/
def OpUse.client : OpUse → Fin 7
  | .fetch .data => 0
  | .fetch .management => 1
  | .completion => 2
  | .extents _ => 3
  | .landing _ => 3
  | .segRead .. => 4
  | .segWrite _ => 5
  | .keys _ => 6
  | .result _ => 6

/-- R172: the burst is out: issued, or waiting for its reissue. -/
def BurstState.isOut : BurstState → Bool
  | .issued .. => true
  | .awaiting => true
  | _ => false

/-- The burst has never been issued. -/
def BurstState.isUnissued : BurstState → Bool
  | .unissued => true
  | _ => false

/-- R173: the operation has ended: every burst issued has ended, and none is left to issue. -/
def Op.ended (o : Op) : Bool := o.bursts.all fun b => !b.state.isOut && !b.state.isUnissued

/-- R173: the operation has ended with success. -/
def Op.succeeded (o : Op) : Bool := o.ended && o.failure.isNone

/-- R173: the operation has ended as failed. -/
def Op.failed (o : Op) : Bool := o.ended && o.failure.isSome

/-- No burst of the operation has been issued (R176). -/
def Op.untouched (o : Op) : Bool := o.bursts.all fun b => b.state.isUnissued

/-- R173: the data of a read, in offset order. -/
def Op.data (o : Op) : List Byte :=
  o.bursts.flatMap fun b => match b.state with
    | .done d => d
    | _ => []

/-- The host address of the failure an operation reports (R173). -/
def Op.failedAt (o : Op) : Addr := (o.failure.map (·.2)).getD 0

/-- R193, R199: no operation of the client is outstanding. -/
def Hme.idle (h : Hme) (client : Fin 7) : Bool := h.ops.all fun o => o.use.client != client

/-- R177: no burst of any client is outstanding. -/
def Hme.drained (h : Hme) : Bool := h.ops.all fun o => o.bursts.all fun b => !b.state.isOut

/-- The HME client of a ring (R169). -/
def ringClient : RingName → Fin 7
  | .data => 0
  | .management => 1
  | .completion => 2

/-- The operation of that use, once it has ended as asked. -/
def Hme.find (h : Hme) (use : OpUse) (p : Op → Bool) : Option Op := h.ops.find? fun o => o.use == use && p o

/-- R171: the client has a burst not yet issued. -/
def Op.hasUnissued (o : Op) : Bool := o.bursts.any fun b => b.state.isUnissued

end Sys2Proof.Machine
end

