-- ==== Sys2Proof/Machine/Clock.lean ====
section
/-! DEFINITION. The passing of time: one microsecond of the part's clock, and the pace timers that count in it (R150; log entries 2 and 16). -/

namespace Sys2Proof.Machine

/-- R150: a pace timer that counts loses one millisecond, down to 0. -/
def RegionEntry.countDown (e : RegionEntry) : RegionEntry := if e.counting then { e with remaining := e.remaining - 1 } else e

/-- The clock advances by one microsecond; at each whole millisecond, the part being RUNNING, the pace timers count. -/
def tick (s : State) : State :=
  let s' := s.withNow (s.now + 1)
  if s.running && (s.now + 1) % 1000 == 0 then s'.withRegions { s.regions with entry := s.regions.entry.map RegionEntry.countDown } else s'

end Sys2Proof.Machine
end

