-- ==== Sys2Proof/Machine/Formats.lean ====
section
/-! DEFINITION. What the part writes as bytes: the codes of section 12.8, completion and notice entries (12.4), result table entries (12.5) and Span frames (12.6). -/

namespace Sys2Proof.Machine

/-! ## Codes (section 12.8) -/

/-- Start-up state codes. -/
def StartState.code : StartState → Nat
  | .loading => 0
  | .loadFailed => 1
  | .ready => 2
  | .running => 3
  | .resetting => 4

/-- Load fault codes. -/
def LoadFault.code : LoadFault → Nat
  | .flash => 1
  | .check => 2
  | .regions => 3
  | .ownIndex => 4
  | .frameType => 5
  | .station => 6
  | .setting => 7
  | .pace => 8

/-- Ring state codes. -/
def RingState.code : RingState → Nat
  | .stopped => 0
  | .active => 1
  | .faulted => 2

/-- Ring fault reason codes. -/
def RingReason.code : RingReason → Nat
  | .fetchError => 1
  | .writeError => 2
  | .badIndex => 3
  | .badSize => 4
  | .badBase => 5

/-- Ring codes of the start fault record (section 12.2). -/
def ringNameCode : RingName → Nat
  | .data => 1
  | .management => 2
  | .completion => 3

/-- Kind codes. -/
def Kind.code : Kind → Nat
  | .content => 0
  | .tombstone => 1

/-- Role codes. -/
def Role.code : Role → Nat
  | .localRole => 0
  | .remoteRole => 1

/-- Record state codes. -/
def RecState.code : RecState → Nat
  | .opened => 0
  | .offered => 1
  | .receiving => 2
  | .waiting => 3
  | .landed => 4
  | .settled => 5

/-- Settle outcome codes, 0 for none. -/
def settleCode : Option Settle → Nat
  | none => 0
  | some .converged => 1
  | some .committed => 2
  | some .rejected => 3

/-- Slot state codes. -/
def SlotState.code : SlotState → Nat
  | .notTarget => 0
  | .pending => 1
  | .offering => 2
  | .sending => 3
  | .confirming => 4
  | .failed => 5
  | .confirmed => 6
  | .overtaken => 7
  | .abandoned => 8
  | .deferred => 9

/-- Slot failure reason codes. -/
def FailReason.code : FailReason → Nat
  | .retries => 1
  | .declined => 2
  | .rejected => 3
  | .hostRead => 4

/-- IN_CANCELLED reason codes. -/
def CancelReason.code : CancelReason → Nat
  | .withdrawn => 1
  | .superseded => 2
  | .idle => 3
  | .fault => 4
  | .lapsed => 5

/-- Region state codes. -/
def RegionState.code : RegionState → Nat
  | .absent => 0
  | .own => 1
  | .suspended => 2
  | .dark => 3
  | .live => 4

/-- Pace mode codes. -/
def PaceMode.code : PaceMode → Nat
  | .off => 0
  | .alternate => 1
  | .single => 2

/-- Pace phase codes. -/
def Phase.code : Phase → Nat
  | .a => 0
  | .b => 1

/-- Fault kind codes (section 12.2). -/
def FailKind.code : FailKind → Nat
  | .abort => 0
  | .unsupported => 1
  | .poisoned => 2
  | .timeout => 3

/-- Status codes. -/
def Status.code : Status → Nat
  | .ok => 0
  | .noTargets => 1
  | .malformed => 2
  | .privileged => 3
  | .badRegion => 4
  | .hostMemoryError => 5
  | .badExtents => 6
  | .noBucket => 7
  | .missTimeout => 8
  | .readOnly => 9
  | .tooLarge => 10
  | .stale => 11
  | .setFull => 12
  | .notTracked => 13
  | .noOffer => 14
  | .lapsed => 15
  | .notLanded => 16
  | .wrongState => 17
  | .regionLive => 18
  | .badSetting => 19

/-- BAD_EXTENTS detail codes. -/
def ExtentDetail.code : ExtentDetail → Nat
  | .count => 1
  | .size => 2
  | .empty => 3
  | .zeroLength => 4
  | .wrap => 5
  | .sum => 6

/-- MALFORMED detail codes. -/
def MalformedDetail.code : MalformedDetail → Nat
  | .kind => 1
  | .count => 2
  | .scope => 3
  | .reason => 4
  | .selection => 5

/-- Request kind codes (section 12.3). -/
def ReqKind.code : ReqKind → Byte
  | .publish => 0x01
  | .delete => 0x02
  | .lookup => 0x03
  | .lookupBatch => 0x04
  | .accept => 0x05
  | .decline => 0x06
  | .commit => 0x07
  | .reject => 0x08
  | .abandon => 0x09
  | .retry => 0x0A
  | .settingsGet => 0x10
  | .regionGet => 0x11
  | .settingsSet => 0x20
  | .regionSet => 0x21
  | .bucketLoad => 0x22
  | .bucketDeny => 0x23
  | .bucketFlush => 0x24
  | .defer => 0x25

/-- REPLY reason codes. -/
def ReplyReason.code : ReplyReason → Nat
  | .accepted => 1
  | .pending => 2
  | .busy => 3
  | .timeout => 4
  | .newer => 5
  | .landed => 6
  | .haveVersion => 7
  | .declined => 8
  | .aborted => 9

/-! ## Completion entries (section 12.4) -/

/-- One byte of the given code. -/
def oneByte (n : Nat) : List Byte := [BitVec.ofNat 8 n]

/-- A flag as the given bit of a number. -/
def flagBit (b : Bool) (i : Nat) : Nat := if b then 2 ^ i else 0

/-- A version at 8 to 13 and 14 of a completion. -/
def versionFields (v : Version) : List (Nat × List Byte) := [(8, leBytes 6 v.seq.toNat), (14, [v.origin])]

/-- A station address in wire order (R201). -/
def stationBytes (s : BitVec 48) : List Byte := beBytes 6 s.toNat

/-- The fields of a REGION.GET completion (section 12.4). -/
def RegionReport.fields (r : RegionReport) : List (Nat × List Byte) :=
  [(3, oneByte (r.state.code + r.lastReported.code * 2 ^ 3 + flagBit r.heard 6 + flagBit r.held 7)),
   (8, stationBytes r.station),
   (14, oneByte (r.miss + r.mode.code * 2 ^ 4 + flagBit r.run 6 + r.phase.code * 2 ^ 7)),
   (15, oneByte r.unreported),
   (16, leBytes 8 (r.sendWindow + r.quietWindow * 2 ^ 17 + r.remaining * 2 ^ 34 + flagBit r.windowEnd 61)),
   (24, leBytes 8 (r.workLength + r.confirmLength * 2 ^ 18 + r.backoffLeft * 2 ^ 36 + r.heldLeft * 2 ^ 52))]

/-- The fields of each completion from byte 8 on, at the places of section 12.4; which fields a status carries its own rule says, and the rest hold zero (R58 for PUBLISH
and DELETE, log entry 10 for STALE; for the other requests log entry 38). The settled flag of ABANDON, a whole byte, is 1 when set: the model's choice, log entry 39. -/
def CompBody.fields : CompBody → List (Nat × List Byte)
  | .plain => []
  | .stored v st targets created superseded evicted replaced =>
    versionFields v ++ [(15, oneByte st.code), (16, [targets]), (17, oneByte (flagBit created 0 + flagBit superseded 1 + flagBit evicted 2))] ++
      (match replaced with
       | none => []
       | some old => [(18, leBytes 6 old.seq.toNat), (24, [old.origin])])
  | .lookup a =>
    versionFields a.version ++ [(15, oneByte a.state.code), (16, oneByte a.kind.code), (17, oneByte (settleCode a.outcome)), (18, [a.holders]),
      (19, [a.pending]), (20, [a.failed]), (24, leBytes 4 a.size)]
  | .version v => versionFields v
  | .versionState v st => versionFields v ++ [(15, oneByte st.code)]
  | .outcome o => [(17, oneByte (settleCode (some o)))]
  | .setNumber n => [(8, leBytes 2 n)]
  | .maxSize n => [(8, leBytes 4 n)]
  | .extents d i => [(8, oneByte d.code), (9, oneByte i)]
  | .malformed k d => [(8, [k]), (9, oneByte d.code)]
  | .memory n a => [(8, leBytes 4 n), (16, leBytes 8 a.toNat)]
  | .setting n => [(8, oneByte n)]
  | .abandon before after settled => [(8, oneByte before.code), (9, oneByte after.code), (10, oneByte (flagBit settled 0))]
  | .defer d st => [(8, leBytes 4 d), (12, leBytes 4 st)]
  | .position p r => [(8, oneByte p), (9, oneByte r)]
  | .count n => [(8, oneByte n)]
  | .mask m => [(8, leBytes 2 m.toNat)]
  | .values first vs => [(8, oneByte first), (9, oneByte vs.length), (12, vs.flatMap fun v => leBytes 4 v.toNat)]
  | .regionSet before after aborted phase remaining =>
    [(8, oneByte before.code), (9, oneByte after.code), (10, oneByte aborted), (11, oneByte phase.code), (12, leBytes 4 remaining)]
  | .regionGet r => r.fields

/-- The ring bit of a completion's byte 0. -/
def ringBit : ReqRing → Nat
  | .data => 0
  | .management => 2 ^ 3

/-- A completion entry with the write phase it carries (section 12.4). -/
def Completion.bytes (phase : Bool) (c : Completion) : List Byte :=
  layOut 32 ([(0, oneByte (flagBit phase 0 + ringBit c.ring)), (1, oneByte c.status.code), (2, [c.kind]), (4, leBytes 4 c.tag.toNat)] ++ c.body.fields)

/-! ## Notice entries (section 12.4) -/

/-- The notice kind codes. -/
def Notice.code : Notice → Nat
  | .bucketMiss .. => 1
  | .offerIn .. => 2
  | .inCancelled .. => 3
  | .landed .. => 4
  | .settled .. => 5
  | .superseded .. => 6
  | .slotFailed .. => 7
  | .regionState .. => 8
  | .pressure .. => 9
  | .recordState .. => 10

/-- The key and version of a record notice: 8 to 15, 16 to 19, 20, 21 to 26 and 27. -/
def recordFields (k : Key) (v : Version) : List (Nat × List Byte) :=
  [(8, leBytes 8 k.object.toNat), (16, leBytes 4 k.bucket.toNat), (20, [k.tenant]), (21, leBytes 6 v.seq.toNat), (27, [v.origin])]

/-- The fields of a notice's first entry. The answer-wanted flag of OFFER_IN, a whole byte, is 1 when set: the model's choice, log entry 39. -/
def Notice.first : Notice → List (Nat × List Byte)
  | .bucketMiss t b p => [(16, leBytes 4 b.toNat), (20, [t]), (28, oneByte p)]
  | .offerIn k v kind size _ wanted => recordFields k v ++ [(2, oneByte kind.code), (3, oneByte (flagBit wanted 0)), (4, leBytes 4 size)]
  | .inCancelled k v r => recordFields k v ++ [(28, oneByte r.code)]
  | .landed k v kind size => recordFields k v ++ [(2, oneByte kind.code), (4, leBytes 4 size)]
  | .settled k v kind c o a d => recordFields k v ++ [(2, oneByte kind.code), (28, [c]), (29, [o]), (30, [a]), (31, [d])]
  | .superseded k old new => recordFields k old ++ [(2, leBytes 6 new.seq.toNat), (28, [new.origin])]
  | .slotFailed k v x r n => recordFields k v ++ [(28, oneByte x.val), (29, oneByte r.code), (30, oneByte n)]
  | .regionState x new previous miss changes =>
    [(8, oneByte x.val), (9, oneByte new.code), (10, oneByte previous.code), (11, oneByte miss), (12, oneByte changes)]
  | .pressure rising n => [(8, oneByte (flagBit rising 0)), (12, leBytes 4 n)]
  | .recordState k v kind size _ role st o _ =>
    recordFields k v ++ [(2, oneByte kind.code), (3, oneByte (st.code + role.code * 2 ^ 7)), (4, leBytes 4 size), (28, oneByte (settleCode o))]

/-- One slot byte of a RECORD_STATE notice: the state in bits 0 to 3, the failure reason in bits 4 to 6; without a reason (a slot that is not FAILED) those bits are 0, the
model's choice, log entry 38. -/
def slotByte (st : SlotState) (r : Option FailReason) : Nat := st.code + (r.map FailReason.code).getD 0 * 2 ^ 4

/-- The fields of a notice's second entry, for the two kinds that have one. -/
def Notice.second : Notice → List (Nat × List Byte)
  | .offerIn _ _ _ _ t _ => [(8, leBytes 16 t.toNat)]
  | .recordState _ _ _ _ t _ _ _ slots => [(8, leBytes 16 t.toNat), (24, slots.toList.flatMap fun sl => oneByte (slotByte sl.1 sl.2))]
  | _ => []

/-- R187: the number of entries of a notice. -/
def Notice.length : Notice → Nat
  | .offerIn .. => 2
  | .recordState .. => 2
  | _ => 1

/-- A notice entry with the write phase it carries. -/
def Notice.bytes (phase : Bool) (n : Notice) (second : Bool) : List Byte :=
  layOut 32 ([(0, oneByte (flagBit phase 0 + 2 ^ 1 + flagBit second 2)), (1, oneByte n.code)] ++ (if second then n.second else n.first))

/-- The 32 bytes of a Backlog entry as written to the Completion Ring (R186). -/
def EntryBody.bytes (phase : Bool) : EntryBody → List Byte
  | .completion c => c.bytes phase
  | .notice n second => n.bytes phase second

/-! ## Result table entries (section 12.5) -/

/-- A LOOKUP.BATCH result entry: the found flag, and the R22 answer when set (R23). Three points are the model's choice: with the flag clear the rest is 0 (log entry 38);
the flag, a whole byte, is 1 when set (log entry 39); with the flag set bytes 18 to 31, which 12.5 leaves unnamed, are 0 (log entry 40). -/
def resultBytes : Option LookupAnswer → List Byte
  | none => layOut 32 []
  | some a =>
    layOut 32 [(0, oneByte 1), (1, oneByte a.state.code), (2, oneByte a.kind.code), (3, oneByte (settleCode a.outcome)), (4, leBytes 4 a.size),
      (8, leBytes 6 a.version.seq.toNat), (14, [a.version.origin]), (15, [a.holders]), (16, [a.pending]), (17, [a.failed])]

/-! ## Span frames (section 12.6) -/

/-- The key and version block. -/
def keyVersionFields (k : Key) (v : Version) : List (Nat × List Byte) :=
  [(0, beBytes 8 k.object.toNat), (8, beBytes 4 k.bucket.toNat), (12, [k.tenant]), (13, [v.origin]), (14, beBytes 6 v.seq.toNat)]

/-- The kind code of a control frame. -/
def CtlBody.kind : CtlBody → Nat
  | .offer .. => 1
  | .reply .. => 2
  | .ack .. => 4
  | .confirm .. => 5
  | .withdraw .. => 6
  | .hold .. => 7
  | .resume => 8
  | .probe => 9
  | .echo => 10

/-- The content of a control frame; fields its reason does not carry hold zero (R160, R202). Zero in the bytes that 12.6 leaves unnamed (OFFER 21 to 23, REPLY 21 and 31, ACK 22 and
23, CONFIRM 21 to 23, HOLD 2 and 3) is the model's choice, log entry 40. -/
def CtlBody.content : CtlBody → List Byte
  | .offer k v kind size tag => layOut 44 (keyVersionFields k v ++ [(20, oneByte kind.code), (24, beBytes 4 size), (28, beBytes 16 tag.toNat)])
  | .reply k v reason res other =>
    layOut 32 (keyVersionFields k v ++ [(20, oneByte reason.code), (22, beBytes 2 res)] ++
      (match other with
       | none => []
       | some o => [(24, beBytes 6 o.seq.toNat), (30, [o.origin])]))
  | .ack k v next => layOut 24 (keyVersionFields k v ++ [(20, beBytes 2 next)])
  | .confirm k v committed => layOut 24 (keyVersionFields k v ++ [(20, oneByte (if committed then 1 else 2))])
  | .withdraw k v => layOut 20 (keyVersionFields k v)
  | .hold time => layOut 4 [(0, beBytes 2 time)]
  | .resume => []
  | .probe => []
  | .echo => []

/-- The 8-byte Span header of a kind, source, destination and content length. Zero in bytes 6 and 7, which 12.6 leaves unnamed, is the model's choice, log entry 40. -/
def spanHeader (kind source dest length : Nat) : List Byte :=
  layOut 8 [(0, oneByte 1), (1, oneByte kind), (2, oneByte source), (3, oneByte dest), (4, beBytes 2 length)]

/-- The content of a SEGMENT with the given segment check field. Zero in bytes 29 to 31, which 12.6 leaves unnamed, and in the chunk check field with the presence flag clear is the
model's choice, log entry 40. -/
def segmentContentBytes (k : Key) (v : Version) (chunk seg : Nat) (payload : List Byte) (check : BitVec 32) (chunkCheck : Option (BitVec 32)) : List Byte :=
  layOut 36 (keyVersionFields k v ++ [(20, oneByte chunk), (21, oneByte seg), (22, beBytes 2 payload.length), (24, beBytes 4 check.toNat)] ++
    (match chunkCheck with
     | none => []
     | some c => [(28, oneByte 1), (32, beBytes 4 c.toNat)])) ++ payload

/-- The same content with the presence flag and chunk check field as carried, for the check of a frame given by its fields (log entry 29), with zero in the bytes that
12.6 leaves unnamed (log entry 40). -/
def SegmentFrame.content (g : SegmentFrame) : List Byte :=
  layOut 36 (keyVersionFields g.key g.version ++ [(20, [g.chunk]), (21, [g.seg]), (22, beBytes 2 g.payload.length), (24, beBytes 4 g.check.toNat),
    (28, [g.presence]), (32, beBytes 4 g.chunkCheck.toNat)]) ++ g.payload

/-- The padding that brings a frame, before its frame check, to Ethernet's shortest length (R159, log entry 9). -/
def padFrame (frame : Nat) (bs : List Byte) : List Byte := bs ++ (List.range (Config.shortestFrame - bs.length)).map (Config.padByte frame)

/-- A frame as sent (R161): Ethernet header, Span header and content, padding, and the frame check least significant byte first (R201). -/
def wireFrame (frame : Nat) (destStation sourceStation : BitVec 48) (frameType : BitVec 16) (header content : List Byte) : List Byte :=
  let body := padFrame frame (stationBytes destStation ++ stationBytes sourceStation ++ beBytes 2 frameType.toNat ++ header ++ content)
  body ++ leBytes 4 (crc32 body).toNat

end Sys2Proof.Machine
end

