-- ==== Sys2Proof/Machine/Ops.lean ====
section
/-! DEFINITION. The shared operations: each is one action that several commands perform, from raising the interrupt to the supersede of a record. -/

namespace Sys2Proof.Machine

/-! ## Interrupt (R190, R191) -/

/-- R190: a raise sends the message of the one vector, or holds it while the vector is masked; none is raised in LOADING, LOAD_FAILED or RESETTING. -/
def raise (s : State) : State :=
  if s.mayRaise then
    if s.irq.masked then s.withIrq { s.irq with held := true } else s.withIrq { s.irq with sent := s.irq.sent + 1 }
  else s

/-- R190: a raise for entries. -/
def raiseEntries (s : State) : State := raise (s.withIrq { s.irq with entries := true, unsignalled := 0, timer := none })

/-! ## Rings (R178, R192) -/

/-- The rings with one group replaced. -/
def Rings.set (r : Rings) (name : RingName) (v : Ring) : Rings :=
  match name with
  | .data => { r with data := v }
  | .management => { r with mgmt := v }
  | .completion => { r with comp := v }

/-- One ring's group changed. -/
def modRing (name : RingName) (f : Ring → Ring) (s : State) : State := s.withRings (s.rings.set name (f (s.rings.get name)))

/-- R192: the ring becomes FAULTED and RING_FAULT pending; a ring already FAULTED keeps its first reason. The raise comes when RING_FAULT was not pending before (log entry 30). -/
def faultRing (name : RingName) (why : RingReason) (s : State) : State :=
  if (s.rings.get name).state == .faulted then s
  else
    let s' := modRing name (fun r => { r with state := .faulted, reason := some why }) s
    if s.ringFaultPending then s' else raise s'

/-! ## Region entries -/

/-- One region entry changed. -/
def modRegion (x : Region) (f : RegionEntry → RegionEntry) (s : State) : State := s.withRegions { s.regions with entry := vmod s.regions.entry x f }

/-! ## Records (R1, R3, R4) -/

/-- A record in its place of the list that rises by key number. -/
def insertRecord (r : Record) : List Record → List Record
  | [] => [r]
  | q :: rest => if keyNumber r.key < keyNumber q.key then r :: q :: rest else q :: insertRecord r rest

/-- The record of a key changed. -/
def modRec (k : Key) (f : Record → Record) (s : State) : State :=
  s.withTable { s.table with records := s.table.records.map fun r => if r.key == k then f r else r }

/-- A new record added; a key already present keeps its record (R4). -/
def addRec (r : Record) (s : State) : State :=
  if (s.table.find r.key).isSome then s else s.withTable { s.table with records := insertRecord r s.table.records }

/-- One slot of a record changed. -/
def modSlot (k : Key) (x : Region) (f : Slot → Slot) (s : State) : State := modRec k (fun r => { r with slots := vmod r.slots x f }) s

/-! ## Completion Backlog and notices (R185, R187) -/

/-- Entries placed at the tail of the Backlog. -/
def place (bodies : List EntryBody) (s : State) : State :=
  s.withBacklog { s.backlog with entries := s.backlog.entries ++ bodies.map fun b => { body := b, write := .waiting } }

/-- R187: the entries of a notice. -/
def Notice.bodies (n : Notice) : List EntryBody := if n.length = 2 then [.notice n false, .notice n true] else [.notice n false]

/-- R185: a completion takes the place its request reserved. -/
def complete (ring : ReqRing) (tag : Word) (kind : Byte) (status : Status) (body : CompBody) (s : State) : State :=
  let s' := place [.completion { ring := ring, tag := tag, kind := kind, status := status, body := body }] s
  s'.withBacklog { s'.backlog with reservations := s'.backlog.reservations - 1 }

/-- The version and reason an IN_CANCELLED notice leaves owed (R187). -/
def Notice.cancel : Notice → Option (Version × CancelReason)
  | .inCancelled _ v why => some (v, why)
  | _ => none

/-- R187: the record becomes owed and joins the tail of the Owed List, keeping a cancel if the notice is one. -/
def oweRecord (k : Key) (cancel : Option (Version × CancelReason)) (s : State) : State :=
  if (s.table.find k).isSome then
    let s' := modRec k (fun r => { r with owed := true, owedCancel := if cancel.isSome then cancel else r.owedCancel }) s
    s'.withBacklog { s'.backlog with owedList := if s'.backlog.owedList.contains k then s'.backlog.owedList else s'.backlog.owedList ++ [k] }
  else s

/-- R187: a notice on a record is placed, or the record becomes owed. -/
def emitRecord (k : Key) (n : Notice) (s : State) : State := if s.fits n.length then place n.bodies s else oweRecord k n.cancel s

/-- R146: a state change of a region is reported, or counted and owed. -/
def reportRegion (x : Region) (s : State) : State :=
  let e := s.region x
  if s.fits 1 then
    modRegion x (fun e => { e with lastReported := e.state, unreported := 0 })
      (place (Notice.regionState x e.state e.lastReported e.miss (e.unreported + 1)).bodies s)
  else modRegion x (fun e => { e with unreported := min Config.unreportedCap (e.unreported + 1), owed := true }) s

/-- R21: a change of the pressure state is reported, or owed. -/
def reportPressure (s : State) : State :=
  if s.fits 1 then
    (place (Notice.pressure s.table.rising s.table.records.length).bodies s).withTable { s.table with lastReported := s.table.rising }
  else s.withBacklog { s.backlog with owedPressure := true }

/-- R20: the record count is compared with the pressure mark in force. -/
def pressureCheck (s : State) : State :=
  let count := s.table.records.length
  let mark := s.setting 12
  if !s.table.rising && mark ≤ count then reportPressure (s.withTable { s.table with rising := true })
  else if s.table.rising && count < mark - Config.pressureGap then reportPressure (s.withTable { s.table with rising := false })
  else s

/-! ## Lingering and retirement (R9 to R14) -/

/-- R9: the record joins the Linger List behind every record whose deadline is not later. -/
def lingerJoin (k : Key) (deadline : Nat) (s : State) : State :=
  let ahead := fun q => (((s.table.find q).bind (·.linger)).getD 0) ≤ deadline
  s.withTable { s.table with linger := s.table.linger.takeWhile ahead ++ k :: s.table.linger.dropWhile ahead }

/-- The record leaves the Linger List. -/
def lingerLeave (k : Key) (s : State) : State := s.withTable { s.table with linger := s.table.linger.filter fun q => q != k }

/-- R12: the record leaves the Linger List and its place. -/
def retire (k : Key) (s : State) : State :=
  s.withTable { s.table with records := s.table.records.filter (fun r => r.key != k), linger := s.table.linger.filter fun q => q != k }

/-- R10: a due record is retired if R11 allows it. -/
def retireIfDue (k : Key) (s : State) : State :=
  match s.table.find k with
  | some r => if expired s.now r.linger && s.retirable r then retire k s else s
  | none => s

/-- R9: the record becomes SETTLED, takes its linger deadline and joins the Linger List. -/
def settle (k : Key) (o : Settle) (s : State) : State :=
  let deadline := s.now + s.settingTime 10
  modRec k (fun r => { r with state := .settled, outcome := some o, linger := some deadline }) (lingerJoin k deadline s)

/-- R77: the SETTLED notice of a record. -/
def settledNotice (r : Record) : Notice :=
  .settled r.key r.version r.kind (slotMask r.slots (· == .confirmed)) (slotMask r.slots (· == .overtaken)) (slotMask r.slots (· == .abandoned))
    (slotMask r.slots (· == .deferred))

/-- The record of the key would settle CONVERGED in the settle test of R6. -/
def State.converges (s : State) (k : Key) : Bool := (s.table.find k).any fun r => r.role == .localRole && r.state == .opened && r.allFinal

/-- R6, R76: a LOCAL record that is OPEN with no open slot left settles CONVERGED, with its SETTLED notice. -/
def settleTest (k : Key) (s : State) : State :=
  match s.table.find k with
  | some r => if s.converges k then retireIfDue k (emitRecord k (settledNotice r) (settle k .converged s)) else s
  | none => s

/-- R14: the set is given a free place, by eviction when it has none; the flag says whether a record was evicted. -/
def makeRoom (n : Nat) (s : State) : State × Bool :=
  if s.table.setHasPlace n then (s, false)
  else match s.evictable n with
    | some k => (retire k s, true)
    | none => (s, false)

/-! ## Work Queues and Confirm Lists (R63, R66) -/

/-- R63: the record joins the tail of a region's Work Queue. -/
def workJoin (x : Region) (k : Key) (s : State) : State := s.withSched { s.sched with work := vmod s.sched.work x (· ++ [k]) }

/-- R65: the record leaves a region's Work Queue. -/
def workLeave (x : Region) (k : Key) (s : State) : State := s.withSched { s.sched with work := vmod s.sched.work x fun q => q.filter (· != k) }

/-- R66: an entry in its place by deadline, behind those with an equal one. -/
def insertConfirm (e : ConfirmEntry) : List ConfirmEntry → List ConfirmEntry
  | [] => [e]
  | d :: rest => if e.deadline < d.deadline then e :: d :: rest else d :: insertConfirm e rest

/-- R66: the record joins a region's Confirm List. -/
def confirmJoin (x : Region) (k : Key) (s : State) : State :=
  s.withSched { s.sched with confirm := vmod s.sched.confirm x (insertConfirm { key := k, deadline := s.now + s.settingTime 5 }) }

/-- R67: the record leaves a region's Confirm List. -/
def confirmLeave (x : Region) (k : Key) (s : State) : State :=
  s.withSched { s.sched with confirm := vmod s.sched.confirm x fun q => q.filter (·.key != k) }

/-- R16 step 3: the record leaves every Work Queue, every Confirm List and the Linger List. -/
def leaveLists (k : Key) (s : State) : State :=
  lingerLeave k (s.withSched { s.sched with work := s.sched.work.map fun q => q.filter (· != k), confirm := s.sched.confirm.map fun q => q.filter (·.key != k) })

/-! ## Slot moves (R61, R62) -/

/-- A slot takes a state, with no bound context and no failure reason, its retry count kept. -/
def slotTo (k : Key) (x : Region) (st : SlotState) (s : State) : State := modSlot k x (fun sl => { sl with state := st, ctx := none, reason := none }) s

/-- R63: the slot becomes PENDING and the record joins the Work Queue tail. -/
def requeue (k : Key) (x : Region) (s : State) : State := workJoin x k (slotTo k x .pending s)

/-- R67: the slot becomes CONFIRMING and the record joins the Confirm List. -/
def confirming (k : Key) (x : Region) (s : State) : State := confirmJoin x k (slotTo k x .confirming s)

/-- A slot becomes final, followed by the settle test of R6. -/
def finish (k : Key) (x : Region) (st : SlotState) (s : State) : State := settleTest k (slotTo k x st s)

/-- R78: the slot becomes FAILED and SLOT_FAILED is emitted. -/
def failSlot (k : Key) (x : Region) (why : FailReason) (s : State) : State :=
  match s.table.find k with
  | some r =>
    emitRecord k (.slotFailed k r.version x why (vget r.slots x).retries)
      (modSlot k x (fun sl => { sl with state := .failed, ctx := none, reason := some why }) s)
  | none => s

/-! ## Control Queue (R162) -/

/-- R162: a control frame is placed at the tail of the Control Queue, or dropped. -/
def sendCtl (dest : Region) (body : CtlBody) (s : State) : State :=
  if (s.region dest).state == .suspended || !s.wan.carrier || Config.controlPlaces ≤ s.wan.queue.length then s
  else s.withWan { s.wan with queue := s.wan.queue ++ [{ dest := dest, body := body }] }

/-- The OFFER of a record's version (R90). -/
def offerBody (r : Record) : CtlBody := .offer r.key r.version r.kind r.size r.contentTag

/-- A REPLY without a resume chunk and without another version (R160). -/
def replyBody (k : Key) (v : Version) (why : ReplyReason) : CtlBody := .reply k v why 0 none

/-! ## Operations of the Host Memory Engine (R169 to R176) -/

/-- R170 step 1: the pieces of the object offsets from `off` on. -/
def piecesOf : List Extent → Nat → Nat → List (Addr × Nat)
  | [], _, _ => []
  | e :: rest, off, len =>
    if len = 0 then []
    else if e.len.toNat ≤ off then piecesOf rest (off - e.len.toNat) len
    else
      let n := min len (e.len.toNat - off)
      (e.addr + BitVec.ofNat 64 off, n) :: piecesOf rest 0 (len - n)

/-- R170 step 2: the bursts of one piece, none across a multiple of 4,096; the first argument bounds their number. -/
def cutPiece : Nat → Addr → Nat → List (Addr × Nat)
  | 0, _, _ => []
  | fuel + 1, a, n =>
    if n = 0 then []
    else
      let m := min n (Config.burstBytes - a.toNat % Config.burstBytes)
      (a, m) :: cutPiece fuel (a + BitVec.ofNat 64 m) (n - m)

/-- R170: the bursts of an operation's pieces. -/
def cutPieces (pieces : List (Addr × Nat)) : List (Addr × Nat) := pieces.flatMap fun p => cutPiece (p.2 / Config.burstBytes + 2) p.1 p.2

/-- The bursts of a read. -/
def readBursts (cuts : List (Addr × Nat)) : List Burst := cuts.map fun c => { addr := c.1, len := c.2, bytes := [], state := .unissued }

/-- The bursts of a write of the given bytes. -/
def writeBursts : List (Addr × Nat) → List Byte → List Burst
  | [], _ => []
  | c :: rest, bs => { addr := c.1, len := c.2, bytes := bs.take c.2, state := .unissued } :: writeBursts rest (bs.drop c.2)

/-- R169: an operation joins the tail of its client's queue. -/
def addOp (use : OpUse) (bursts : List Burst) (s : State) : State :=
  s.withHme { s.hme with ops := s.hme.ops ++ [{ id := s.hme.nextOp, use := use, bursts := bursts, failure := none }], nextOp := s.hme.nextOp + 1 }

/-- A read of `len` bytes at a host address. -/
def addRead (use : OpUse) (addr : Addr) (len : Nat) (s : State) : State := addOp use (readBursts (cutPieces [(addr, len)])) s

/-- A write of bytes at a host address. -/
def addWrite (use : OpUse) (addr : Addr) (bytes : List Byte) (s : State) : State := addOp use (writeBursts (cutPieces [(addr, bytes.length)]) bytes) s

/-- The outcome of an operation has been taken by its block: the operation is gone. -/
def dropOp (id : Nat) (s : State) : State := s.withHme { s.hme with ops := s.hme.ops.filter fun o => o.id != id }

/-- The operation is a read for the context. -/
def OpUse.readsFor (c : CtxNo) : OpUse → Bool
  | .segRead d _ => d == c
  | _ => false

/-- R172: the operation is a read. -/
def OpUse.isRead : OpUse → Bool
  | .completion => false
  | .segWrite _ => false
  | .result _ => false
  | _ => true

/-- R175: a failed burst is presented to the latch; it is not latched in RESETTING (R177). -/
def latchFault (client : Fin 7) (kind : FailKind) (addr : Addr) (s : State) : State :=
  if s.start.state == .resetting then s
  else match s.hme.latch with
    | some l => s.withHme { s.hme with latch := some { l with multiple := true } }
    | none => raise (s.withHme { s.hme with latch := some { client := client, kind := kind, addr := addr, multiple := false } })

/-- A burst's state replaced. -/
def setBurst (i : Nat) (st : BurstState) (bs : List Burst) : List Burst := bs.modify i fun b => { b with state := st }

/-- R173: a burst not yet issued is dropped. -/
def dropUnissued (b : Burst) : Burst := if b.state.isUnissued then { b with state := .dropped } else b

/-- R173: a burst of the operation fails: its unissued bursts are dropped and the first failure is kept. -/
def Op.failBurst (o : Op) (i : Nat) (kind : FailKind) : Op :=
  match o.bursts[i]? with
  | some b =>
    { o with bursts := (setBurst i .failed o.bursts).map dropUnissued, failure := if o.failure.isSome then o.failure else some (kind, b.addr) }
  | none => o

/-- One operation changed. -/
def modOp (id : Nat) (f : Op → Op) (s : State) : State := s.withHme { s.hme with ops := s.hme.ops.map fun o => if o.id == id then f o else o }

/-- The operation and burst a burst name stands for. -/
def Hme.burst (h : Hme) (name : BurstName) : Option (Op × Burst) :=
  (h.ops.find? fun o => o.id == name.op).bind fun o => (o.bursts[name.burst]?).map fun b => (o, b)

/-- R172, R173, R175: a burst of an operation fails. -/
def burstFails (o : Op) (b : Burst) (i : Nat) (kind : FailKind) (s : State) : State :=
  latchFault o.use.client kind b.addr (modOp o.id (fun o => o.failBurst i kind) s)

/-! ## Contexts (R84, R85, R87) -/

/-- One context replaced. -/
def setCtx (c : CtxNo) (x : Ctx) (s : State) : State := s.withPool { s.pool with ctx := vset s.pool.ctx c x }

/-- The outbound fields of a context changed. -/
def modOut (c : CtxNo) (f : OutCtx → OutCtx) (s : State) : State :=
  match s.ctx c with
  | .out o => setCtx c (.out (f o)) s
  | _ => s

/-- The inbound fields of a context changed. -/
def modIn (c : CtxNo) (f : InCtx → InCtx) (s : State) : State :=
  match s.ctx c with
  | .inb i => setCtx c (.inb (f i)) s
  | _ => s

/-- R85: the context becomes FREE, and a due record whose key it held last is retired (R10, R11). -/
def freeCtx (c : CtxNo) (k : Key) (s : State) : State := retireIfDue k (setCtx c .free s)

/-- R165: a context that leaves SENDING loses the grant. -/
def loseGrant (c : CtxNo) (s : State) : State := if s.wan.holder == some c then s.withWan { s.wan with holder := none } else s

/-- R87: what ending does to a buffer; `dropped` says that its read had no burst issued. -/
def endedBuf (dropped : Bool) : Buf → Buf
  | .reading c g _ => if dropped then .free else .reading c g true
  | _ => .free

/-- R87, R176: an outbound context in OFFERING or SENDING ends, by release or abort: FREE at once, or ABORTING while reads are in flight. -/
def endOutbound (c : CtxNo) (s : State) : State :=
  match s.ctx c with
  | .out o =>
    let gone := fun b : Fin 2 => s.hme.ops.any fun op => op.use == .segRead c b && op.untouched
    let bufs : Vector Buf 2 := #v[endedBuf (gone 0) (vget o.bufs 0), endedBuf (gone 1) (vget o.bufs 1)]
    let s' := loseGrant c (s.withHme { s.hme with ops := s.hme.ops.filter fun op => !(op.use.readsFor c && op.untouched) })
    if bufs.toList.any Buf.isReading then setCtx c (.out { o with state := .aborting, timer := none, bufs := bufs }) s' else freeCtx c o.key s'
  | _ => s

/-- R89: a counted retry: at the limit the slot becomes FAILED with reason RETRIES and the context ends; below it the event's own move is made. -/
def countRetry (c : CtxNo) (k : Key) (x : Region) (move : State → State) (s : State) : State :=
  let n := (((s.table.find k).map fun r => (vget r.slots x).retries).getD 0) + 1
  let s' := modSlot k x (fun sl => { sl with retries := n }) s
  if s.setting 2 ≤ n then failSlot k x .retries (endOutbound c s') else move s'

/-! ## Staging FIFO and inbound contexts (R125, R131, R134) -/

/-- The regions whose hold-sent flag is set, in rising order. -/
def Inbound.heldRegions (f : Inbound) : List Region := (List.finRange 8).filter fun x => (vget f.holdSent x).isSome

/-- R131: when the occupancy is down to 16 while holding, holding ends and RESUME goes to every region whose hold-sent flag is set. -/
def resumeCheck (s : State) : State :=
  if s.inbound.holding && s.inbound.fifo.length ≤ Config.resumeAt then
    s.inbound.heldRegions.foldl (fun t x => sendCtl x .resume t)
      (s.withInbound { s.inbound with holding := false, holdSent := Vector.replicate 8 none })
  else s

/-- The entries removed from the Staging FIFO, followed by the test of R131. -/
def fifoRemove (p : FifoEntry → Bool) (s : State) : State := resumeCheck (s.withInbound { s.inbound with fifo := s.inbound.fifo.filter fun e => !p e })

/-- R85, R7: an inbound context becomes FREE and its record's field is cleared. -/
def releaseInbound (c : CtxNo) (k : Key) (s : State) : State :=
  setCtx c .free (modRec k (fun r => if r.inbound == some c then { r with inbound := none } else r) s)

/-- R134: a drained context becomes FREE and its IN_CANCELLED is emitted; a due record that it held is then retired (R10, R11). -/
def drainFree (c : CtxNo) (i : InCtx) (why : CancelReason) (s : State) : State :=
  retireIfDue i.key (emitRecord i.key (.inCancelled i.key i.version why) (releaseInbound c i.key s))

/-- The operation of a FIFO entry has no burst issued (R134, R176). -/
def Hme.untouchedOp (h : Hme) (id : Nat) : Bool := h.ops.any fun o => o.id == id && o.untouched

/-- R134: cancel with drain. -/
def cancelDrain (c : CtxNo) (why : CancelReason) (s : State) : State :=
  match s.ctx c with
  | .inb i =>
    let gone := fun e : FifoEntry => e.ctx == c && (e.op.all s.hme.untouchedOp)
    let s1 := s.withHme { s.hme with ops := s.hme.ops.filter fun o => !(o.use == .segWrite c && o.untouched) }
    let s2 := fifoRemove gone s1
    if s2.inbound.writesInFlight c = 0 then drainFree c i why s2
    else setCtx c (.inb { i with state := .draining, timer := none, received := Vector.replicate 32 none, carried := none, cancel := some why }) s2
  | _ => s

/-! ## Sendability (R103, R149) -/

/-- R103: what a change of a region's sendability does to the stall timer of a SENDING context. -/
def stallOnChange (deadline : Nat) (x : Region) (sendable : Bool) (c : Ctx) : Ctx :=
  match c with
  | .out o =>
    if o.state == .sending && o.dest == x then .out { o with timer := if sendable && o.acked < o.next then some deadline else none } else c
  | _ => c

/-- R149: an event at a region's entry, with the hand-off of a change of its sendability to the contexts. -/
def handingOn (x : Region) (event : State → State) (s : State) : State :=
  let s' := event s
  if s'.sendable x == s.sendable x then s'
  else s'.withPool { s'.pool with ctx := s'.pool.ctx.map (stallOnChange (s'.now + s'.settingTime 0) x (s'.sendable x)) }

/-! ## Region changes (R143 to R145) -/

/-- The contexts in OFFERING or SENDING to a region, in the order in which they were bound (R64). -/
def State.boundTo (s : State) (x : Region) : List (CtxNo × OutCtx) :=
  ((List.finRange 64).filterMap fun c => match s.ctx c with
    | .out o => if o.state != .aborting && o.dest == x then some (c, o) else none
    | _ => none).insertionSort fun a b => a.2.order ≤ b.2.order

/-- R105: every context to the region is aborted and its slot joins the Work Queue tail. -/
def abortRegion (x : Region) (s : State) : State := (s.boundTo x).foldl (fun t p => requeue p.2.key x (endOutbound p.1 t)) s

/-- R143: a LIVE region becomes DARK. -/
def becomeDark (x : Region) (s : State) : State :=
  reportRegion x (modRegion x (fun e => { e with state := .dark, backoff := none, held := none }) (abortRegion x s))

/-- R69: the whole Confirm List moves to the Work Queue tail, its slots PENDING. -/
def splice (x : Region) (s : State) : State :=
  let moved := (vget s.sched.confirm x).map (·.key)
  moved.foldl (fun t k => requeue k x t) (s.withSched { s.sched with confirm := vset s.sched.confirm x [] })

/-- R140, R144: a DARK region becomes LIVE. -/
def becomeLive (x : Region) (s : State) : State := reportRegion x (splice x (modRegion x (fun e => { e with state := .live }) s))

/-- R140: a frame from the region has been heard. -/
def heardFrom (x : Region) (s : State) : State :=
  handingOn x (fun t =>
    let t' := modRegion x (fun e => { e with heard := true, miss := 0 }) t
    if (t.region x).state == .dark then becomeLive x t' else t') s

/-- R145: a DARK or LIVE region becomes SUSPENDED. -/
def suspend (x : Region) (s : State) : State :=
  let s' := modRegion x (fun e => { e with state := .suspended, backoff := none, held := none }) (abortRegion x s)
  reportRegion x (s'.withWan { s'.wan with queue := s'.wan.queue.filter fun f => f.dest != x })

/-- R143, R145: a SUSPENDED region becomes DARK. -/
def unsuspend (x : Region) (s : State) : State := reportRegion x (modRegion x (fun e => { e with state := .dark, miss := 0, heard := false }) s)

/-! ## Creation and supersede (R13, R16 to R19) -/

/-- A version with its kind, size, content tag and source extent list. -/
structure Content where
  version : Version
  kind : Kind
  size : Nat
  tag : BitVec 128
  extents : List Extent
  deriving DecidableEq, Repr

/-- A slot that is NONE. -/
def emptySlot : Slot := { state := .notTarget, retries := 0, ctx := none, reason := none }

/-- The slots of a version with the given targets, each PENDING (R13, R17). -/
def targetSlots (targets : List Region) : Vector Slot 8 := Vector.ofFn fun x => if targets.contains x then { emptySlot with state := .pending } else emptySlot

/-- R13: a new record. -/
def newRecord (k : Key) (content : Content) (role : Role) (st : RecState) (targets : List Region) : Record :=
  { key := k, version := content.version, kind := content.kind, size := content.size, chunks := chunkCount content.size, contentTag := content.tag,
    role := role, state := st, outcome := none, slots := targetSlots targets, extents := content.extents, inbound := none, linger := none,
    owed := false, owedCancel := none }

/-- R17 steps 4 and 5, without the joins: the new version is stored. -/
def storeVersion (content : Content) (role : Role) (st : RecState) (targets : List Region) (r : Record) : Record :=
  { r with version := content.version, kind := content.kind, size := content.size, chunks := chunkCount content.size, contentTag := content.tag,
           role := role, state := st, outcome := none, slots := targetSlots targets, extents := content.extents, linger := none }

/-- R64: a record joins the Work Queue of each target, in ascending region order. -/
def joinTargets (k : Key) (targets : List Region) (s : State) : State := targets.foldl (fun t x => workJoin x k t) s

/-- R16 step 1: each bound context is aborted and a WITHDRAW of the old version sent to its region. -/
def withdrawAll (r : Record) (s : State) : State :=
  (List.finRange 8).foldl (fun t x => match (vget r.slots x).ctx with
    | some c => sendCtl x (.withdraw r.key r.version) (endOutbound c t)
    | none => t) s

/-- R16 step 2: an inbound context in AWAIT_HOST or RECEIVING is cancelled with drain. -/
def cancelInbound (r : Record) (s : State) : State :=
  match r.inbound with
  | some c =>
    match s.ctx c with
    | .inb i => if i.state == .draining then s else cancelDrain c .superseded s
    | _ => s
  | none => s

/-- R19: the notice of the supersede itself, for the record as it stood. A LANDED record gives IN_CANCELLED with or without a context of an earlier version that still drains. -/
def supersedeNotice (r : Record) (version : Version) (role : Role) (s : State) : State :=
  match r.role with
  | .localRole => if role == .remoteRole then emitRecord r.key (.superseded r.key r.version version) s else s
  | .remoteRole =>
    if (r.state == .waiting && r.inbound.isNone) || r.state == .landed then emitRecord r.key (.inCancelled r.key r.version .superseded) s else s

/-- R18: REPLY NEWER to the old origin, when the record was REMOTE and not SETTLED. -/
def replyNewerSend (r : Record) (version : Version) (s : State) : State :=
  if r.role == .remoteRole && r.state != .settled then sendCtl (regionOf r.version.origin) (.reply r.key r.version .newer 0 (some version)) s else s

/-- R16 to R19: the supersede action on a record, up to the joins; `st` is the state the claim leaves it in. -/
def supersede (r : Record) (content : Content) (role : Role) (st : RecState) (targets : List Region) (s : State) : State :=
  let s1 := leaveLists r.key (cancelInbound r (withdrawAll r s))
  let s2 := supersedeNotice r content.version role (replyNewerSend r content.version s1)
  joinTargets r.key targets (modRec r.key (storeVersion content role st targets) s2)

/-! ## Service of owed notices (R188, R189) -/

/-- R189: the RECORD_STATE notice of a record. -/
def recordStateNotice (r : Record) : Notice :=
  .recordState r.key r.version r.kind r.size r.contentTag r.role r.state r.outcome (r.slots.map fun sl => (sl.state, sl.reason))

/-- The entries a record's service places: its owed cancel, if any, then its RECORD_STATE (R189). -/
def serviceBodies (r : Record) : List EntryBody :=
  (match r.owedCancel with
   | some (v, why) => (Notice.inCancelled r.key v why).bodies
   | none => []) ++ (recordStateNotice r).bodies

/-- R21: the owed pressure flag is served; nothing when its notice does not fit. -/
def servePressure (s : State) : Option State :=
  let s' := s.withBacklog { s.backlog with owedPressure := false }
  if s.table.rising == s.table.lastReported then some s'
  else if s.backlog.free = 0 then none
  else some ((place (Notice.pressure s.table.rising s.table.records.length).bodies s').withTable { s.table with lastReported := s.table.rising })

/-- R146: a region's owed flag is served. -/
def serveRegion (x : Region) (s : State) : Option State :=
  let e := s.region x
  if s.backlog.free = 0 then none
  else some (modRegion x (fun e => { e with owed := false, lastReported := e.state, unreported := 0 })
    (place (Notice.regionState x e.state e.lastReported e.miss e.unreported).bodies s))

/-- The bucket key of a place of the Miss Hold (R30). -/
def Parked.bucket (p : Parked) : Byte × BitVec 32 := (p.pub.key.tenant, p.pub.key.bucket)

/-- R31: a place's owed flag is served. -/
def servePlace (n : Fin 4) (p : Parked) (s : State) : Option State :=
  if s.backlog.free = 0 then none
  else some (place (Notice.bucketMiss p.bucket.1 p.bucket.2 n.val).bodies
    (s.withBmc { s.bmc with hold := vset s.bmc.hold n (some { p with owed := false }) }))

/-- R189: the record at the head of the Owed List is served; retirement may follow (R10). -/
def serveRecord (k : Key) (rest : List Key) (s : State) : Option State :=
  match s.table.find k with
  | none => some (s.withBacklog { s.backlog with owedList := rest })
  | some r =>
    if s.backlog.free < (serviceBodies r).length then none
    else
      let s1 := s.withBacklog { s.backlog with owedList := rest }
      let s2 := modRec k (fun r => { r with owed := false, owedCancel := none }) s1
      some (pressureCheck (retireIfDue k (place (serviceBodies r) s2)))

/-- The first region whose REGION_STATE is owed. -/
def State.owedRegion (s : State) : Option Region := (List.finRange 8).find? fun x => (s.region x).owed

/-- The first place of the Miss Hold whose BUCKET_MISS is owed. -/
def State.owedPlace (s : State) : Option (Fin 4 × Parked) :=
  (List.finRange 4).findSome? fun n => (vget s.bmc.hold n).bind fun p => if p.owed then some (n, p) else none

/-- R188: the first owed item of the order is served, if its notice fits. -/
def serveOne (s : State) : Option State :=
  if s.backlog.owedPressure then servePressure s
  else match s.owedRegion with
    | some x => serveRegion x s
    | none => match s.owedPlace with
      | some (n, p) => servePlace n p s
      | none => match s.backlog.owedList with
        | k :: rest => serveRecord k rest s
        | [] => none

/-- R188: items are served from the start of the order until one does not fit; the first argument bounds their number. -/
def serveUpTo : Nat → State → State
  | 0, s => s
  | n + 1, s => match serveOne s with
    | some s' => serveUpTo n s'
    | none => s

/-- R188: the service in an event in which places become free. Every item but a pressure flag takes a place, and each of those raises at most one pressure flag. -/
def serve (s : State) : State := serveUpTo (2 * (Config.backlogPlaces + s.backlog.owedList.length) + 2) s

end Sys2Proof.Machine
end

