-- ==== Sys2Proof/Machine/Hme.lean ====
section
/-! DEFINITION. The Host Memory Engine's bursts: issue, completion, failure and timeout (R169 to R177). -/

namespace Sys2Proof.Machine

/-- R171: the clients in the order of the arbiter's search. -/
def clientOrder (last : Fin 7) : List (Fin 7) := (List.finRange 7).map fun i => last + 1 + i

/-- R171: the oldest operation of a client that has a burst not yet issued. -/
def Hme.nextOf (h : Hme) (client : Fin 7) : Option Op := h.ops.find? fun o => o.use.client == client && o.hasUnissued

/-- R171: the client the arbiter grants, with the operation whose next burst it issues. -/
def Hme.choose (h : Hme) : Option (Fin 7 × Op) := (clientOrder h.lastClient).findSome? fun c => (h.nextOf c).map fun o => (c, o)

/-- The place of the first unissued burst. -/
def Op.nextBurst (o : Op) : Nat := o.bursts.findIdx fun b => b.state.isUnissued

/-- A burst of an operation takes a state. -/
def burstTo (op i : Nat) (st : BurstState) (s : State) : State := modOp op (fun o => { o with bursts := setBurst i st o.bursts }) s

/-- R171: one issue opportunity: the burst that has waited longest for its reissue, else the next burst of the next client. -/
def issueBurst (s : State) : State :=
  match s.hme.reissue with
  | (op, i) :: rest => burstTo op i (.issued true (s.now + Config.burstTimeout)) (s.withHme { s.hme with reissue := rest })
  | [] => match s.hme.choose with
    | some (c, o) => burstTo o.id o.nextBurst (.issued false (s.now + Config.burstTimeout)) (s.withHme { s.hme with lastClient := c })
    | none => s

/-- R172: the copy of the burst that an answer names is the one that is out. -/
def Burst.awaits (b : Burst) (name : BurstName) : Bool :=
  match b.state with
  | .issued reissue _ => reissue == name.reissue
  | _ => false

/-- R172: the copy that the name stands for has had no answer for 50 ms. -/
def Burst.timedOut (b : Burst) (name : BurstName) (now : Nat) : Bool :=
  match b.state with
  | .issued reissue deadline => reissue == name.reissue && deadline ≤ now
  | _ => false

/-- BURST_ISSUE (R171). -/
def execBurstIssue (s : State) : Host.Outcome State Fault Refusal := .next (issueBurst s)

/-- BURST_COMPLETE (R172): a read keeps its data, which has the burst's length; an answer for a copy that is not out is discarded (log entry 24). -/
def execBurstComplete (name : BurstName) (data : List Byte) (s : State) : Host.Outcome State Fault Refusal :=
  .next (match s.hme.burst name with
    | some (o, b) =>
      if b.awaits name && (!o.use.isRead || data.length == b.len) then burstTo o.id name.burst (.done (if o.use.isRead then data else [])) s else s
    | none => s)

/-- BURST_FAIL (R172): only a read can come back poisoned; an answer for a copy that is not out is discarded (log entry 24). -/
def execBurstFail (name : BurstName) (kind : AnswerFault) (s : State) : Host.Outcome State Fault Refusal :=
  .next (match s.hme.burst name with
    | some (o, b) =>
      if b.awaits name && (kind != .poisoned || o.use.isRead) then
        burstFails o b name.burst (match kind with
          | .abort => .abort
          | .unsupported => .unsupported
          | .poisoned => .poisoned) s
      else s
    | none => s)

/-- BURST_TIMEOUT (R172): the first copy is given up and waits for its reissue; the reissue fails with kind TIMEOUT. -/
def execBurstTimeout (name : BurstName) (s : State) : Host.Outcome State Fault Refusal :=
  .next (match s.hme.burst name with
    | some (o, b) =>
      if b.timedOut name s.now then
        if name.reissue then burstFails o b name.burst .timeout s
        else
          let s' := burstTo o.id name.burst .awaiting s
          s'.withHme { s'.hme with reissue := s'.hme.reissue ++ [(o.id, name.burst)] }
      else s
    | none => s)

end Sys2Proof.Machine
end

