-- ==== Sys2Proof/Machine/Completion.lean ====
section
/-! DEFINITION. The writing of the Completion Ring and its interrupt (R186, R188, R190, R192), and the fetch of the request rings (R182, R192). -/

namespace Sys2Proof.Machine

/-! ## Fetching (R182) -/

/-- The operation of a request ring's fetch that has ended as asked. -/
def State.fetchOp (s : State) (ring : ReqRing) (p : Op → Bool) : Option Op := s.hme.find (.fetch ring) p

/-- RING_FETCH (R182): one 64-byte read of the entry at the consumer index, when every condition holds. -/
def execRingFetch (ring : ReqRing) (s : State) : Host.Outcome State Fault Refusal :=
  let r := s.rings.get (ringName ring)
  .next (if s.takeOk ring && 0 < r.available && (s.fetchOp ring fun _ => true).isNone then
    addRead (.fetch ring) (r.base + BitVec.ofNat 64 (64 * r.cons)) 64 s else s)

/-- RING_FETCH_FAIL (R192). -/
def execRingFetchFail (ring : ReqRing) (s : State) : Host.Outcome State Fault Refusal :=
  .next (match s.fetchOp ring Op.failed with
    | some o => if s.running then faultRing (ringName ring) .fetchError (dropOp o.id s) else s
    | none => s)

/-! ## Writing (R186) -/

/-- R186: the Completion Ring has room for one more entry. -/
def Rings.hasRoom (r : Rings) : Bool := (r.writePos + r.comp.size.toNat - r.comp.cons) % r.comp.size.toNat + 1 < r.comp.size.toNat

/-- A Backlog entry that has not been handed on. -/
def BacklogEntry.isWaiting (e : BacklogEntry) : Bool := e.write == .waiting

/-- R186: the write position and phase after one hand. -/
def Rings.advance (r : Rings) : Rings :=
  if r.writePos + 1 < r.comp.size.toNat then { r with writePos := r.writePos + 1 } else { r with writePos := 0, writePhase := !r.writePhase }

/-- R186: an entry is handed to the client at the write position, with the write phase. -/
def handEntry (i : Nat) (e : BacklogEntry) (s : State) : State :=
  let addr := s.rings.comp.base + BitVec.ofNat 64 (32 * s.rings.writePos)
  let s1 := s.withBacklog { s.backlog with entries := s.backlog.entries.modify i fun e => { e with write := .writing s.hme.nextOp } }
  addWrite .completion addr (e.body.bytes s.rings.writePhase) (s1.withRings s.rings.advance)

/-- COMPLETION_ENTRY_HAND (R186): the first entry not yet handed on. -/
def execCompletionEntryHand (s : State) : Host.Outcome State Fault Refusal :=
  let i := s.backlog.entries.findIdx BacklogEntry.isWaiting
  .next (match s.backlog.entries[i]? with
    | some e => if s.running && s.rings.comp.state == .active && s.rings.hasRoom then handEntry i e s else s
    | none => s)

/-- The write state of the entry whose write is the operation, changed. -/
def markEntry (op : Nat) (st : WriteState) (s : State) : State :=
  s.withBacklog { s.backlog with entries := s.backlog.entries.map fun e => if e.write == .writing op then { e with write := st } else e }

/-- R186: the number of entries at the head whose writes have completed. -/
def Backlog.written (b : Backlog) : Nat := (b.entries.takeWhile fun e => e.write == .written).length

/-- R190: an advance of the producer index by `n` entries is counted; at the trigger level the interrupt is raised. -/
def countEntries (n : Nat) (s : State) : State :=
  if n = 0 then s
  else
    let count := s.irq.unsignalled + n
    let timer := if s.irq.unsignalled = 0 ∧ s.irq.coalesce ≠ 0 then some (s.now + s.irq.coalesce.toNat) else s.irq.timer
    let s' := s.withIrq { s.irq with unsignalled := count, timer := timer }
    if s.irq.trigger.toNat ≤ count then raiseEntries s' else s'

/-- R186: `n` entries leave the Backlog and the producer index advances over them. It wraps at the size the register then holds: on a FAULTED ring whose size the host has
rewritten (R178, R193), while writes issued before the fault still end, that is the new size. R186 and R199 name neither size: the model's choice, log entry 35. -/
def popEntries (n : Nat) (s : State) : State :=
  let s1 := s.withBacklog { s.backlog with entries := s.backlog.entries.drop n }
  modRing .completion (fun r => { r with prod := (r.prod + n) % r.size.toNat }) s1

/-- R186, R188, R190: the entries written at the head leave, are counted for the interrupt, and owed notices are served in the places they free. -/
def leaveBacklog (s : State) : State :=
  let n := s.backlog.written
  if n = 0 then s else serve (countEntries n (popEntries n s))

/-- The completion write that is that operation and has ended as asked. -/
def State.completionOp (s : State) (op : Nat) (p : Op → Bool) : Bool := s.hme.ops.any fun o => o.id == op && o.use == .completion && p o

/-- COMPLETION_WRITE_DONE (R186). -/
def execCompletionWriteDone (op : Nat) (s : State) : Host.Outcome State Fault Refusal :=
  .next (if s.running && s.completionOp op Op.succeeded then leaveBacklog (markEntry op .written (dropOp op s)) else s)

/-- COMPLETION_WRITE_FAIL (R192). -/
def execCompletionWriteFail (op : Nat) (s : State) : Host.Outcome State Fault Refusal :=
  .next (if s.running && s.completionOp op Op.failed then faultRing .completion .writeError (markEntry op .failed (dropOp op s)) else s)

/-- COALESCING_TIMER_EXPIRY (R190). -/
def execCoalescingTimerExpiry (s : State) : Host.Outcome State Fault Refusal :=
  .next (if s.running && expired s.now s.irq.timer then raiseEntries s else s)

end Sys2Proof.Machine
end

