-- ==== Sys2Proof/Machine/Operands.lean ====
section
/-! DEFINITION. What the part reads from bytes: request entries (section 12.3), extent and key tables (12.5), Span frames (12.6) and the configuration image (12.7). -/

namespace Sys2Proof.Machine

/-! ## Request entries -/

/-- The request kind of a kind code (section 12.3), if one of the kinds of R183. -/
def ReqKind.ofCode (b : Byte) : Option ReqKind :=
  match b.toNat with
  | 0x01 => some .publish
  | 0x02 => some .delete
  | 0x03 => some .lookup
  | 0x04 => some .lookupBatch
  | 0x05 => some .accept
  | 0x06 => some .decline
  | 0x07 => some .commit
  | 0x08 => some .reject
  | 0x09 => some .abandon
  | 0x0A => some .retry
  | 0x10 => some .settingsGet
  | 0x11 => some .regionGet
  | 0x20 => some .settingsSet
  | 0x21 => some .regionSet
  | 0x22 => some .bucketLoad
  | 0x23 => some .bucketDeny
  | 0x24 => some .bucketFlush
  | 0x25 => some .defer
  | _ => none

/-- Bytes 4 to 7: the host tag (R200). -/
def entryTag (e : List Byte) : Word := BitVec.ofNat 32 (leAt e 4 4)

/-- Bytes 8 to 15, 16 to 19 and 20: the key. -/
def entryKey (e : List Byte) : Key :=
  { tenant := byteAt e 20, bucket := BitVec.ofNat 32 (leAt e 16 4), object := BitVec.ofNat 64 (leAt e 8 8) }

/-- Bytes 24 to 29: the sequence. -/
def entrySeq (e : List Byte) : BitVec 48 := BitVec.ofNat 48 (leAt e 24 6)

/-- Bytes 24 to 29 and 30: a version. -/
def entryVersion (e : List Byte) : Version := { seq := entrySeq e, origin := byteAt e 30 }

/-- Bytes 32 to 47: the content tag. -/
def entryContentTag (e : List Byte) : BitVec 128 := BitVec.ofNat 128 (leAt e 32 16)

/-- A PUBLISH entry (section 12.3). -/
def publishEntry (e : List Byte) : PublishReq :=
  { tag := entryTag e, key := entryKey e, seq := entrySeq e, contentTag := entryContentTag e, size := BitVec.ofNat 32 (leAt e 48 4),
    extentCount := byteAt e 52, table := BitVec.ofNat 64 (leAt e 56 8) }

/-- A DELETE entry (section 12.3). -/
def deleteEntry (e : List Byte) : DeleteReq :=
  { tag := entryTag e, key := entryKey e, seq := entrySeq e, contentTag := entryContentTag e }

/-- A LOOKUP.BATCH entry (section 12.3). -/
def batchEntry (e : List Byte) : BatchReq :=
  { tag := entryTag e, count := byteAt e 24, keyTable := BitVec.ofNat 64 (leAt e 32 8), resultTable := BitVec.ofNat 64 (leAt e 40 8) }

/-- An ACCEPT entry (section 12.3). -/
def acceptEntry (e : List Byte) : AcceptReq :=
  { tag := entryTag e, key := entryKey e, version := entryVersion e, extentCount := byteAt e 52, table := BitVec.ofNat 64 (leAt e 56 8) }

/-- A station address, held in six bytes in wire order (R201): its first byte is the most significant of the 48 bits. -/
def stationAt (bs : List Byte) (off : Nat) : BitVec 48 := BitVec.ofNat 48 (beAt bs off 6)

/-- R201: a group address has bit 0 of its first byte set. -/
def isGroup (station : BitVec 48) : Bool := station.getLsbD 40

/-- A REGION.SET entry (section 12.3). -/
def regionSetEntry (e : List Byte) : RegionSetReq :=
  let flags := byteAt e 9
  { tag := entryTag e, index := byteAt e 8, applyEnable := flags.getLsbD 0, enable := flags.getLsbD 1, applyStation := flags.getLsbD 2,
    applyPace := flags.getLsbD 3, applyRun := flags.getLsbD 4, run := flags.getLsbD 5, clearWindowEnd := flags.getLsbD 6,
    station := stationAt e 10, paceMode := byteAt e 16, sendWindow := BitVec.ofNat 32 (leAt e 20 4), quietWindow := BitVec.ofNat 32 (leAt e 24 4) }

/-- Bytes 16 to 19: a bucket number. -/
def entryBucket (e : List Byte) : BitVec 32 := BitVec.ofNat 32 (leAt e 16 4)

/-- A BUCKET.LOAD entry (section 12.3). -/
def bucketLoadEntry (e : List Byte) : BucketLoadReq :=
  let flags := byteAt e 28
  { tag := entryTag e, tenant := byteAt e 20, bucket := entryBucket e, template := byteAt e 24, home := byteAt e 25, allowFirst := byteAt e 26,
    allowLast := byteAt e 27, isGlobal := flags.getLsbD 0, readOnly := flags.getLsbD 1, maxSize := BitVec.ofNat 32 (leAt e 32 4) }

/-- The 14 values of a SETTINGS.SET entry (section 12.3). -/
def settingsEntry (e : List Byte) : Vector Word 14 := Vector.ofFn fun i => BitVec.ofNat 32 (leAt e (8 + 4 * i.val) 4)

/-! ## Host tables -/

/-- The entries of an extent table (section 12.5). -/
def extentsOf (count : Nat) (bs : List Byte) : List Extent :=
  (List.range count).map fun i => { addr := BitVec.ofNat 64 (leAt bs (16 * i) 8), len := BitVec.ofNat 32 (leAt bs (16 * i + 8) 4) }

/-- The keys of a LOOKUP.BATCH key table (section 12.5). -/
def keysOf (count : Nat) (bs : List Byte) : List Key :=
  (List.range count).map fun i =>
    { tenant := byteAt bs (16 * i + 12), bucket := BitVec.ofNat 32 (leAt bs (16 * i + 8) 4), object := BitVec.ofNat 64 (leAt bs (16 * i) 8) }

/-! ## Span frames -/

/-- The Span frame kinds of a kind code (section 12.6). -/
inductive SpanKind where
  | offer
  | reply
  | segment
  | ack
  | confirm
  | withdraw
  | hold
  | resume
  | probe
  | echo
  deriving DecidableEq, Repr

/-- The ten kinds of R160 by their codes. -/
def SpanKind.ofCode (b : Byte) : Option SpanKind :=
  match b.toNat with
  | 1 => some .offer
  | 2 => some .reply
  | 3 => some .segment
  | 4 => some .ack
  | 5 => some .confirm
  | 6 => some .withdraw
  | 7 => some .hold
  | 8 => some .resume
  | 9 => some .probe
  | 10 => some .echo
  | _ => none

/-- The fixed content length of each kind (section 12.6); a SEGMENT adds its segment length. -/
def SpanKind.fixedLength : SpanKind → Nat
  | .offer => 44
  | .reply => 32
  | .segment => 36
  | .ack => 24
  | .confirm => 24
  | .withdraw => 20
  | .hold => 4
  | .resume => 0
  | .probe => 0
  | .echo => 0

/-- The key of a key and version block (section 12.6). -/
def spanKey (c : List Byte) : Key :=
  { tenant := byteAt c 12, bucket := BitVec.ofNat 32 (beAt c 8 4), object := BitVec.ofNat 64 (beAt c 0 8) }

/-- The version of a key and version block (section 12.6). -/
def spanVersion (c : List Byte) : Version := { seq := BitVec.ofNat 48 (beAt c 14 6), origin := byteAt c 13 }

/-- The content of an OFFER (section 12.6). -/
def offerContent (c : List Byte) : OfferFrame :=
  { key := spanKey c, version := spanVersion c, kind := byteAt c 20, size := BitVec.ofNat 32 (beAt c 24 4), contentTag := BitVec.ofNat 128 (beAt c 28 16) }

/-- The content of a SEGMENT (section 12.6), its payload as long as its segment length. -/
def segmentContent (c : List Byte) : SegmentFrame :=
  { key := spanKey c, version := spanVersion c, chunk := byteAt c 20, seg := byteAt c 21, check := BitVec.ofNat 32 (beAt c 24 4),
    presence := byteAt c 28, chunkCheck := BitVec.ofNat 32 (beAt c 32 4), payload := (c.drop 36).take (beAt c 22 2) }

/-- The segment check computed over a Span header and a SEGMENT content, its own four bytes counted as zero (R202). -/
def segmentCheckOf (header content : List Byte) : BitVec 32 :=
  crc32c (header ++ content.take 24 ++ [0, 0, 0, 0] ++ content.drop 28)

/-! ## The configuration image -/

/-- The kind byte of a version (section 12.8): CONTENT 0, TOMBSTONE 1. -/
def Kind.ofCode (b : Byte) : Option Kind :=
  match b.toNat with
  | 0 => some .content
  | 1 => some .tombstone
  | _ => none

/-- The pace mode of its code (section 12.8). -/
def PaceMode.ofCode (b : Byte) : Option PaceMode :=
  match b.toNat with
  | 0 => some .off
  | 1 => some .alternate
  | 2 => some .single
  | _ => none

/-- The fields of the image (section 12.7); a run flag byte other than zero is set (log entry 19). -/
def imageOf (bs : List Byte) : Image :=
  { n := byteAt bs 0, own := byteAt bs 1, frameType := BitVec.ofNat 16 (leAt bs 2 2),
    stations := Vector.ofFn fun i => stationAt bs (4 + 6 * i.val),
    settings := Vector.ofFn fun i => BitVec.ofNat 32 (leAt bs (52 + 4 * i.val) 4),
    pace := Vector.ofFn fun i =>
      { mode := (PaceMode.ofCode (byteAt bs (108 + 12 * i.val))).getD .off, run := byteAt bs (109 + 12 * i.val) != 0,
        sendWindow := BitVec.ofNat 32 (leAt bs (112 + 12 * i.val) 4), quietWindow := BitVec.ofNat 32 (leAt bs (116 + 12 * i.val) 4) } }

/-- The indices below N. -/
def Image.indices (im : Image) : List Region := (List.finRange 8).filter fun i => i.val < im.n.toNat

/-- Check 6 of R179 at one index: a group address, or that of another index below N. -/
def Image.badStation (im : Image) (i : Region) : Bool :=
  isGroup (vget im.stations i) || im.indices.any fun j => j != i && vget im.stations j == vget im.stations i

/-- Whether a value lies in the range of setting `i` (R196). -/
def settingOk (i : Fin 14) (v : Word) : Bool :=
  (vget Config.settingRange i).1 ≤ v.toNat && v.toNat ≤ (vget Config.settingRange i).2

/-- Whether a pace window length is 1 to 86,400 s (R137, R152). -/
def windowOk (seconds : BitVec 32) : Bool := 1 ≤ seconds.toNat && seconds.toNat ≤ Config.maxPaceWindow

/-- Check 8 of R179 at one index: an unknown mode, or a window length out of range. -/
def badPace (bs : List Byte) (im : Image) (i : Region) : Bool :=
  (PaceMode.ofCode (byteAt bs (108 + 12 * i.val))).isNone || !windowOk (vget im.pace i).sendWindow || !windowOk (vget im.pace i).quietWindow

/-- The checks of R179 in their order: the first that fails, with its detail, or the accepted image. A fault whose detail R179 gives as none stores the detail 0: the model's
choice, log entry 34. -/
def checkImage (flash : Option (List Byte)) : Except (LoadFault × Byte) Image :=
  match flash with
  | none => .error (.flash, 0)
  | some bs =>
    if bs.length < Config.imageBytes then .error (.flash, 0)
    else if crc32c (bs.take 204) ≠ BitVec.ofNat 32 (leAt bs 204 4) then .error (.check, 0)
    else
      let im := imageOf bs
      if im.n.toNat < 2 ∨ 8 < im.n.toNat then .error (.regions, 0)
      else if im.n.toNat ≤ im.own.toNat then .error (.ownIndex, 0)
      else if im.frameType.toNat < 0x0600 then .error (.frameType, 0)
      else match im.indices.find? im.badStation with
        | some i => .error (.station, BitVec.ofNat 8 i.val)
        | none =>
          match (List.finRange 14).find? fun i => !settingOk i (vget im.settings i) with
          | some i => .error (.setting, BitVec.ofNat 8 i.val)
          | none =>
            match im.indices.find? (badPace bs im) with
            | some i => .error (.pace, BitVec.ofNat 8 i.val)
            | none => .ok im

end Sys2Proof.Machine
end

