-- ==== Sys2Proof/Machine/Buckets.lean ====
section
/-! DEFINITION. Requests in flight, the Bucket Map Cache and the Miss Hold (R26 to R41), with BUCKET.LOAD, BUCKET.DENY, BUCKET.FLUSH and the miss deadline. -/

namespace Sys2Proof.Machine

/-! ## Takes and completions of requests -/

/-- R182: a take adds one reservation. -/
def reserve (s : State) : State := s.withBacklog { s.backlog with reservations := s.backlog.reservations + 1 }

/-- A request as a command is taken under the conditions of R182 (log entry 3): with its reservation, it is handed on; when they do not hold nothing happens. -/
def taking (ring : ReqRing) (work : State → State) (s : State) : State := if s.takeOk ring then work (reserve s) else s

/-- The completion of a request of a kind. -/
def answer (ring : ReqRing) (tag : Word) (kind : ReqKind) (status : Status) (body : CompBody) (s : State) : State := complete ring tag kind.code status body s

/-- R183: a request completes MALFORMED with the kind value found and the detail. -/
def malformed (ring : ReqRing) (tag : Word) (kind : Byte) (detail : MalformedDetail) (s : State) : State :=
  complete ring tag kind .malformed (.malformed kind detail) s

/-- R183: a management kind is done on the Management Ring, and completes PRIVILEGED on the Data Ring. -/
def managed (ring : ReqRing) (tag : Word) (kind : ReqKind) (work : State → State) (s : State) : State :=
  if ring == .data then answer ring tag kind .privileged .plain s else work s

/-! ## PUBLISH and DELETE in flight (R59) -/

/-- The request kind of a PUBLISH or DELETE. -/
def Pub.reqKind (p : Pub) : ReqKind := match p.kind with
  | .content => .publish
  | .tombstone => .delete

/-- R58: the completion of a PUBLISH or DELETE. -/
def answerPub (p : Pub) (status : Status) (body : CompBody) (s : State) : State := answer p.ring p.tag p.reqKind status body s

/-- A request joins those in flight. -/
def addPub (p : Pub) (s : State) : State := s.withReqs { s.reqs with pubs := s.reqs.pubs ++ [p] }

/-- A request leaves those in flight. -/
def dropPub (id : Nat) (s : State) : State := s.withReqs { s.reqs with pubs := s.reqs.pubs.filter fun p => p.id != id }

/-- A request in flight changed. -/
def modPub (id : Nat) (f : Pub → Pub) (s : State) : State := s.withReqs { s.reqs with pubs := s.reqs.pubs.map fun p => if p.id == id then f p else p }

/-- R29, R50: a request with a placement and its extents is checked for READ_ONLY and TOO_LARGE, and else is ready for the Table Controller. -/
def placementCheck (p : Pub) (placement : Placement) (s : State) : State :=
  if placement.readOnly then answerPub p .readOnly .plain (dropPub p.id s)
  else if placement.maxSize.toNat < p.size then answerPub p .tooLarge (.maxSize placement.maxSize.toNat) (dropPub p.id s)
  else modPub p.id (fun p => { p with stage := .ready placement }) s

/-- R38: the request was resumed by that load and has not had its turn. -/
def Pub.waitsIn (load : Nat) (p : Pub) : Bool := match p.stage with
  | .placed _ (some l) => l == load
  | _ => false

/-- R38: the requests of one load are handed on in park order, up to the first whose extent table is still being read. -/
def advanceLoad (load : Nat) : Nat → State → State
  | 0, s => s
  | n + 1, s => match s.reqs.pubs.find? (Pub.waitsIn load) with
    | some p => match p.extents, p.stage with
      | .good _, .placed placement _ => advanceLoad load n (placementCheck p placement s)
      | _, _ => s
    | none => s

/-- R38, for every request of the load. -/
def advance (load : Nat) (s : State) : State := advanceLoad load s.reqs.pubs.length s

/-! ## The Miss Hold (R30 to R34) -/

/-- The lowest-numbered free place. -/
def Bmc.freePlace (b : Bmc) : Option (Fin 4) := (List.finRange 4).find? fun n => (vget b.hold n).isNone

/-- The lowest-numbered place that holds a request of the bucket key. -/
def Bmc.placeOf (b : Bmc) (key : Byte × BitVec 32) : Option (Fin 4) := (List.finRange 4).find? fun n => (vget b.hold n).any fun p => p.bucket == key

/-- The bucket key of a request. -/
def Pub.bucketKey (p : Pub) : Byte × BitVec 32 := (p.key.tenant, p.key.bucket)

/-- R30, R31: a request is parked in a place; a newly parked bucket key emits BUCKET_MISS, or leaves it owed. -/
def park (n : Fin 4) (p : Pub) (s : State) : State :=
  let newly := (s.bmc.placeOf p.bucketKey).isNone
  let entry : Parked := { pub := { p with stage := .parked }, order := s.bmc.nextOrder, deadline := s.now + s.settingTime 11, owed := newly && !s.fits 1 }
  let s' := s.withBmc { s.bmc with hold := vset s.bmc.hold n (some entry), nextOrder := s.bmc.nextOrder + 1 }
  if newly && s.fits 1 then place (Notice.bucketMiss p.key.tenant p.key.bucket n.val).bodies s' else s'

/-- R31: a place is freed; its owed flag moves to the lowest-numbered place of the same bucket key, if there is one. -/
def freePlace (n : Fin 4) (s : State) : State :=
  match vget s.bmc.hold n with
  | none => s
  | some p =>
    let s' := s.withBmc { s.bmc with hold := vset s.bmc.hold n none }
    if p.owed then
      match s'.bmc.placeOf p.bucket with
      | some m => s'.withBmc { s'.bmc with hold := vmod s'.bmc.hold m fun q => q.map fun q => { q with owed := true } }
      | none => s'
    else s'

/-- The place that holds a request. -/
def Bmc.heldAt (b : Bmc) (id : Nat) : Option (Fin 4 × Parked) :=
  (List.finRange 4).findSome? fun n => (vget b.hold n).bind fun p => if p.pub.id == id then some (n, p) else none

/-- R33: the wait of a parked request ends with NO_BUCKET or MISS_TIMEOUT; with its extent table still being read, the outcome is held until the read ends. -/
def endWait (denied : Bool) (n : Fin 4) (p : Parked) (s : State) : State :=
  match p.pub.extents with
  | .good _ => answerPub p.pub (if denied then .noBucket else .missTimeout) .plain (freePlace n s)
  | .reading => addPub { p.pub with stage := .doomed denied } (freePlace n s)

/-- The places that hold a bucket key, in park order (R38, R39). -/
def Bmc.parkedOn (b : Bmc) (key : Byte × BitVec 32) : List (Fin 4 × Parked) :=
  ((List.finRange 4).filterMap fun n => (vget b.hold n).bind fun p => if p.bucket == key then some (n, p) else none).insertionSort
    fun x y => x.2.order ≤ y.2.order

/-- MISS_DEADLINE_EXPIRY (R34). -/
def execMissDeadlineExpiry (n : Fin 4) (s : State) : Host.Outcome State Fault Refusal :=
  .next (match vget s.bmc.hold n with
    | some p => if s.running && p.deadline ≤ s.now then endWait false n p s else s
    | none => s)

/-! ## Entries (R26, R28, R36, R37) -/

/-- The position of a bucket key. -/
def Bmc.position (b : Bmc) (tenant : Byte) (bucket : BitVec 32) : Option (Fin 32) :=
  (List.finRange 32).find? fun i => (vget b.entries i).any fun e => e.tenant == tenant && e.bucket == bucket

/-- R36: the lowest-numbered free position. -/
def Bmc.freePosition (b : Bmc) : Option (Fin 32) := (List.finRange 32).find? fun i => (vget b.entries i).isNone

/-- R37: the position replaced in a full cache. -/
def Bmc.victim (b : Bmc) : Fin 32 := if b.recent = some b.pointer then b.pointer + 1 else b.pointer

/-- R36, R37: an entry is installed; the position it takes. -/
def install (e : BucketEntry) (s : State) : State × Fin 32 :=
  match s.bmc.position e.tenant e.bucket with
  | some i => (s.withBmc { s.bmc with entries := vset s.bmc.entries i (some e) }, i)
  | none => match s.bmc.freePosition with
    | some i => (s.withBmc { s.bmc with entries := vset s.bmc.entries i (some e) }, i)
    | none =>
      let i := s.bmc.victim
      (s.withBmc { s.bmc with entries := vset s.bmc.entries i (some e), pointer := i + 1 }, i)

/-- R38: a parked request takes the placement and leaves its place. -/
def resumeParked (placement : Placement) (load : Nat) (x : Fin 4 × Parked) (s : State) : State :=
  addPub { x.2.pub with stage := .placed placement (some load) } (freePlace x.1 s)

/-- The entry a BUCKET.LOAD writes. -/
def BucketLoadReq.entry (q : BucketLoadReq) : BucketEntry :=
  { tenant := q.tenant, bucket := q.bucket, isGlobal := q.isGlobal,
    placement := { template := q.template, home := q.home, allowFirst := q.allowFirst, allowLast := q.allowLast, maxSize := q.maxSize, readOnly := q.readOnly } }

/-- R35 check 2: a region of the request, or a position of its template, is not less than N. -/
def badBucketRegion (n : Nat) (q : BucketLoadReq) : Bool :=
  n ≤ q.home.toNat || n ≤ q.allowFirst.toNat || n ≤ q.allowLast.toNat || (List.range 8).any fun p => n ≤ p && q.template.getLsbD p

/-- R35, R36, R38: a BUCKET.LOAD taken. The BAD_SETTING of a size out of range holds zero at byte 8, where 12.4 places a setting number that R35 gives a BUCKET.LOAD none of:
the model's choice, log entry 33. Its completion stands behind those of the requests it resumes (log entry 17). -/
def takeBucketLoad (ring : ReqRing) (q : BucketLoadReq) (s : State) : State :=
  managed ring q.tag .bucketLoad (fun s =>
    if badBucketRegion s.regionCount q then answer ring q.tag .bucketLoad .badRegion .plain s
    else if q.maxSize.toNat = 0 ∨ Config.maxObject < q.maxSize.toNat then answer ring q.tag .bucketLoad .badSetting .plain s
    else
      let e := BucketLoadReq.entry q
      let (s1, i) := install e s
      let load := s1.reqs.nextLoad
      let parked := s1.bmc.parkedOn (q.tenant, q.bucket)
      let s2 := parked.foldl (fun t x => resumeParked e.placement load x t) (s1.withReqs { s1.reqs with nextLoad := load + 1 })
      answer ring q.tag .bucketLoad .ok (.position i.val parked.length) (advance load s2)) s

/-- R39: a BUCKET.DENY taken. Its completion stands behind those of the requests it refuses (log entry 17). -/
def takeBucketDeny (ring : ReqRing) (tag : Word) (tenant : Byte) (bucket : BitVec 32) (s : State) : State :=
  managed ring tag .bucketDeny (fun s =>
    let parked := s.bmc.parkedOn (tenant, bucket)
    answer ring tag .bucketDeny .ok (.count parked.length) (parked.foldl (fun t x => endWait true x.1 x.2 t) s)) s

/-- R40: the entries a flush removes; none for a scope that is not one of the three. -/
def flushes (scope : Nat) (tenant : Byte) (bucket : BitVec 32) (e : BucketEntry) : Bool :=
  match scope with
  | 1 => true
  | 2 => e.tenant == tenant && !e.isGlobal
  | 3 => e.tenant == tenant && e.bucket == bucket
  | _ => false

/-- R40: the entries removed from the cache, and the mark of the most recently hit one if it is among them. -/
def Bmc.flush (b : Bmc) (p : BucketEntry → Bool) : Bmc :=
  { b with entries := b.entries.map fun e => if e.any p then none else e,
           recent := b.recent.bind fun i => if (vget b.entries i).any p then none else some i }

/-- R40: a BUCKET.FLUSH taken. -/
def takeBucketFlush (ring : ReqRing) (tag : Word) (scope : Byte) (tenant : Byte) (bucket : BitVec 32) (s : State) : State :=
  if scope.toNat < 1 ∨ 3 < scope.toNat then malformed ring tag ReqKind.bucketFlush.code .scope s
  else managed ring tag .bucketFlush (fun s =>
    let gone := flushes scope.toNat tenant bucket
    answer ring tag .bucketFlush .ok (.count (s.bmc.entries.toList.filter fun e => e.any gone).length) (s.withBmc (s.bmc.flush gone))) s

/-- BUCKET_LOAD (R36). -/
def execBucketLoad (ring : ReqRing) (req : BucketLoadReq) (s : State) : Host.Outcome State Fault Refusal := .next (taking ring (takeBucketLoad ring req) s)

/-- BUCKET_DENY (R39). -/
def execBucketDeny (ring : ReqRing) (tag : Word) (tenant : Byte) (bucket : BitVec 32) (s : State) : Host.Outcome State Fault Refusal :=
  .next (taking ring (takeBucketDeny ring tag tenant bucket) s)

/-- BUCKET_FLUSH (R40). -/
def execBucketFlush (ring : ReqRing) (tag : Word) (scope : Byte) (tenant : Byte) (bucket : BitVec 32) (s : State) : Host.Outcome State Fault Refusal :=
  .next (taking ring (takeBucketFlush ring tag scope tenant bucket) s)

end Sys2Proof.Machine
end

