-- ==== Sys2Proof/Machine/Convergence.lean ====
section
/-! DEFINITION. The Transfer Scheduler's grant (R70 to R73), confirmation (R68, R74, R75, R108), and ABANDON, RETRY and DEFER (R79 to R81). -/

namespace Sys2Proof.Machine

/-! ## Grants -/

/-- R72: the regions in the order of a grant's search. -/
def regionOrder (last : Region) : List Region := (List.finRange 8).map fun i => last + 1 + i

/-- R72: the region a grant serves. -/
def State.grantRegion (s : State) : Option Region := (regionOrder s.sched.lastServed).find? s.eligible

/-- R86: the fields of a context at the grant. -/
def OutCtx.granted (r : Record) (x : Region) (deadline order : Nat) : OutCtx :=
  { key := r.key, version := r.version, dest := x, chunks := r.chunks, state := .offering, next := 0, acked := 0, readChunk := 0, readSeg := 0,
    bufs := #v[.free, .free], acc := 0, burst := 0, timer := some deadline, order := order }

/-- R71: the grant of a context to the head record of a region. -/
def grantTo (x : Region) (c : CtxNo) (r : Record) (s : State) : State :=
  let s1 := setCtx c (.out (.granted r x (s.now + s.settingTime 1) s.pool.nextOrder)) s
  let s2 := s1.withPool { s1.pool with nextOrder := s.pool.nextOrder + 1 }
  let s3 := modSlot r.key x (fun sl => { sl with state := .offering, ctx := some c, reason := none }) (workLeave x r.key s2)
  sendCtl x (offerBody r) (s3.withSched { s3.sched with lastServed := x })

/-- What a grant would bind: the region, its head record and the context (R71, R72). -/
def State.nextGrant (s : State) : Option (Region × CtxNo × Record) :=
  if s.running && s.pool.outCount < Config.maxOutbound then
    s.grantRegion.bind fun x => s.pool.lowestFree.bind fun c => (vget s.sched.work x).head?.bind fun k => (s.table.find k).map fun r => (x, c, r)
  else none

/-- GRANT (R71). -/
def execGrant (s : State) : Host.Outcome State Fault Refusal :=
  .next (match s.nextGrant with
    | some (x, c, r) => grantTo x c r s
    | none => s)

/-! ## Confirmation -/

/-- R74: the record and the slot that a CONFIRM from region X is matched to. -/
def State.confirmTarget (s : State) (x : Region) (k : Key) (v : Version) : Option Slot :=
  (s.table.find k).bind fun r => if r.role == .localRole && r.version == v && (vget r.slots x).state != .notTarget then some (vget r.slots x) else none

/-- R75, R108: the slot leaves its list, or its bound context ends. -/
def leaveSlot (k : Key) (x : Region) (sl : Slot) (s : State) : State :=
  match sl.state with
  | .pending => workLeave x k s
  | .confirming => confirmLeave x k s
  | .offering | .sending => match sl.ctx with
    | some c => endOutbound c s
    | none => s
  | _ => s

/-- R75: a matched CONFIRM COMMITTED. -/
def confirmCommitted (x : Region) (k : Key) (v : Version) (s : State) : State :=
  match s.confirmTarget x k v with
  | some sl => if sl.state.isFinal then s else pressureCheck (finish k x .confirmed (leaveSlot k x sl s))
  | none => s

/-- R75: a matched CONFIRM REJECTED. -/
def confirmRejected (x : Region) (k : Key) (v : Version) (s : State) : State :=
  match s.confirmTarget x k v with
  | some sl => if sl.state.isFinal || sl.state == .failed then s else failSlot k x .rejected (leaveSlot k x sl s)
  | none => s

/-- CONFIRM_COMMITTED (R75). -/
def execConfirmCommitted (source : Region) (key : Key) (version : Version) (s : State) : Host.Outcome State Fault Refusal :=
  .next (if s.admits source then confirmCommitted source key version s else s)

/-- CONFIRM_REJECTED (R75). -/
def execConfirmRejected (source : Region) (key : Key) (version : Version) (s : State) : Host.Outcome State Fault Refusal :=
  .next (if s.admits source then confirmRejected source key version s else s)

/-- CONFIRM_DEADLINE_EXPIRY (R68): the head of the region's Confirm List, once its deadline has passed. -/
def execConfirmDeadlineExpiry (region : Region) (s : State) : Host.Outcome State Fault Refusal :=
  .next (match (vget s.sched.confirm region).head? with
    | some e => if s.running && e.deadline ≤ s.now then requeue e.key region (confirmLeave region e.key s) else s
    | none => s)

/-! ## ABANDON, RETRY, DEFER -/

/-- R79 step 4: the slot of a LOCAL record that is neither NONE nor final. -/
def Record.openSlot (r : Record) (x : Region) : Bool := r.role == .localRole && (vget r.slots x).state.isOpen

/-- R79: the slot leaves its list, or its bound context is aborted and a WITHDRAW sent. -/
def abandonWork (r : Record) (x : Region) (s : State) : State :=
  let sl := vget r.slots x
  let s' := leaveSlot r.key x sl s
  if sl.ctx.isSome then sendCtl x (.withdraw r.key r.version) s' else s'

/-- R79: ABANDON taken. -/
def takeAbandon (ring : ReqRing) (tag : Word) (k : Key) (region : Byte) (s : State) : State :=
  match s.otherRegion region with
  | none => answer ring tag .abandon .badRegion .plain s
  | some x => match s.table.find k with
    | none => answer ring tag .abandon .notTracked .plain s
    | some r =>
      if r.openSlot x then
        let s1 := slotTo k x .abandoned (abandonWork r x s)
        let settled := s1.converges k
        answer ring tag .abandon .ok (.abandon (vget r.slots x).state (if settled then .settled else r.state) settled) (pressureCheck (settleTest k s1))
      else answer ring tag .abandon .wrongState .plain s

/-- R80: RETRY taken. -/
def takeRetry (ring : ReqRing) (tag : Word) (k : Key) (region : Byte) (s : State) : State :=
  match s.otherRegion region with
  | none => answer ring tag .retry .badRegion .plain s
  | some x => match s.table.find k with
    | none => answer ring tag .retry .notTracked .plain s
    | some r =>
      if r.role == .localRole && (vget r.slots x).state == .failed then
        answer ring tag .retry .ok (.versionState r.version r.state) (requeue k x (modSlot k x (fun sl => { sl with retries := 0 }) s))
      else answer ring tag .retry .wrongState .plain s

/-- R81: one record of the queue: its slot becomes DEFERRED and the settle test is made; the count of settled records goes along. -/
def deferOne (x : Region) (acc : State × Nat) (k : Key) : State × Nat :=
  let t := slotTo k x .deferred acc.1
  (settleTest k t, acc.2 + (t.converges k).toNat)

/-- R81: DEFER taken. -/
def takeDefer (ring : ReqRing) (tag : Word) (region : Byte) (s : State) : State :=
  managed ring tag .defer (fun s =>
    match s.otherRegion region with
    | none => answer ring tag .defer .badRegion .plain s
    | some x =>
      if (s.region x).state == .live then answer ring tag .defer .regionLive .plain s
      else
        let queue := vget s.sched.work x
        let (t, settled) := queue.foldl (deferOne x) (s.withSched { s.sched with work := vset s.sched.work x [] }, 0)
        answer ring tag .defer .ok (.defer queue.length settled) (pressureCheck t)) s

/-- ABANDON (R79). -/
def execAbandon (ring : ReqRing) (tag : Word) (key : Key) (region : Byte) (s : State) : Host.Outcome State Fault Refusal :=
  .next (taking ring (takeAbandon ring tag key region) s)

/-- RETRY (R80). -/
def execRetry (ring : ReqRing) (tag : Word) (key : Key) (region : Byte) (s : State) : Host.Outcome State Fault Refusal :=
  .next (taking ring (takeRetry ring tag key region) s)

/-- DEFER (R81). -/
def execDefer (ring : ReqRing) (tag : Word) (region : Byte) (s : State) : Host.Outcome State Fault Refusal := .next (taking ring (takeDefer ring tag region) s)

end Sys2Proof.Machine
end

