-- ==== Sys2Proof/Machine/Publish.lean ====
section
/-! DEFINITION. PUBLISH and DELETE: the take with its lookup and extent table stage (R28, R43 to R49), and the Table Controller's claim (R51 to R58). -/

namespace Sys2Proof.Machine

/-! ## The take -/

/-- R47: the detail of an entry that fails check 5 on its own. -/
def entryFault (count size : Nat) : Option ExtentDetail :=
  if Config.maxExtents < count then some .count
  else if Config.maxObject < size then some .size
  else if count = 0 ∧ 0 < size then some .empty
  else none

/-- R47: the extent table stage of a request that goes on: its read is issued, unless there is no table to read. -/
def startStage (p : Pub) (table : Addr) (count : Nat) (s : State) : State :=
  match p.extents with
  | .reading => addRead (.extents p.id) table (16 * count) s
  | .good _ => s

/-- R28: the request has hit an entry. -/
def takeHit (p : Pub) (fault : Option ExtentDetail) (table : Addr) (count : Nat) (i : Fin 32) (e : BucketEntry) (s : State) : State :=
  let s1 := s.withBmc { s.bmc with recent := some i }
  match fault with
  | some d => answerPub p .badExtents (.extents d 0) s1
  | none =>
    let q := { p with stage := .placed e.placement none }
    let s2 := startStage q table count (addPub q s1)
    match q.extents with
    | .good _ => placementCheck q e.placement s2
    | .reading => s2

/-- R30, R47: the request has missed and a place is free. -/
def takeParked (p : Pub) (fault : Option ExtentDetail) (table : Addr) (count : Nat) (n : Fin 4) (s : State) : State :=
  match fault with
  | some d => answerPub p .badExtents (.extents d 0) (freePlace n (park n p s))
  | none => startStage p table count (park n p s)

/-- R32: the request has missed with the Miss Hold full. -/
def takeUnparked (p : Pub) (fault : Option ExtentDetail) (table : Addr) (count : Nat) (s : State) : State :=
  match fault, p.extents with
  | some d, _ => answerPub p .badExtents (.extents d 0) s
  | none, .good _ => answerPub p .missTimeout .plain s
  | none, .reading => startStage p table count (addPub { p with stage := .doomed false } s)

/-- R28: the lookup that comes with the take. -/
def takePub (p : Pub) (fault : Option ExtentDetail) (table : Addr) (count : Nat) (s : State) : State :=
  let s' := s.withReqs { s.reqs with nextId := s.reqs.nextId + 1 }
  match s.bmc.position p.key.tenant p.key.bucket with
  | some i => match vget s.bmc.entries i with
    | some e => takeHit p fault table count i e s'
    | none => s'
  | none => match s.bmc.freePlace with
    | some n => takeParked p fault table count n s'
    | none => takeUnparked p fault table count s'

/-- R43, R47: a PUBLISH taken. -/
def takePublish (ring : ReqRing) (q : PublishReq) (s : State) : State :=
  takePub
    { id := s.reqs.nextId, ring := ring, tag := q.tag, kind := .content, key := q.key, seq := q.seq, contentTag := q.contentTag, size := q.size.toNat,
      extents := if q.extentCount.toNat = 0 then .good [] else .reading, stage := .parked }
    (entryFault q.extentCount.toNat q.size.toNat) q.table q.extentCount.toNat s

/-- R44: a DELETE taken. -/
def takeDelete (ring : ReqRing) (q : DeleteReq) (s : State) : State :=
  takePub
    { id := s.reqs.nextId, ring := ring, tag := q.tag, kind := .tombstone, key := q.key, seq := q.seq, contentTag := q.contentTag, size := 0,
      extents := .good [], stage := .parked }
    none 0 0 s

/-- PUBLISH (R47). -/
def execPublish (ring : ReqRing) (req : PublishReq) (s : State) : Host.Outcome State Fault Refusal := .next (taking ring (takePublish ring req) s)

/-- DELETE (R44). -/
def execDelete (ring : ReqRing) (req : DeleteReq) (s : State) : Host.Outcome State Fault Refusal := .next (taking ring (takeDelete ring req) s)

/-! ## The extent table (R48, R49) -/

/-- R48 conditions 4 and 5 of one extent. -/
def extentFault (e : Extent) : Option ExtentDetail :=
  if e.len = 0 then some .zeroLength else if 2 ^ 64 < e.addr.toNat + e.len.toNat then some .wrap else none

/-- R48: the conditions of the table, in their order, with the extent index carried (0 for SUM). -/
def tableFault (xs : List Extent) (size : Nat) : Option (ExtentDetail × Nat) :=
  match xs.zipIdx.findSome? fun x => (extentFault x.1).map fun d => (d, x.2) with
  | some f => some f
  | none => if (xs.map fun e => e.len.toNat).sum ≠ size then some (.sum, 0) else none

/-- The extents a table read brought. -/
def readExtents (o : Op) : List Extent := extentsOf (o.data.length / 16) o.data

/-- R38: a request that has left its load's order lets the next one take its turn. -/
def advanceAfter (p : Pub) (s : State) : State :=
  match p.stage with
  | .placed _ (some load) => advance load s
  | _ => s

/-- R33, R38, R50: a request in flight whose extents are good goes on as its stage says. -/
def goOn (p : Pub) (s : State) : State :=
  match p.stage with
  | .placed placement none => placementCheck p placement s
  | .placed _ (some load) => advance load s
  | .doomed denied => answerPub p (if denied then .noBucket else .missTimeout) .plain (dropPub p.id s)
  | _ => s

/-- R48: the table of a request that is not parked has been read. -/
def tableRead (p : Pub) (xs : List Extent) (s : State) : State :=
  match tableFault xs p.size with
  | some (d, i) => advanceAfter p (answerPub p .badExtents (.extents d i) (dropPub p.id s))
  | none =>
    let q := { p with extents := .good xs }
    goOn q (modPub p.id (fun _ => q) s)

/-- R33, R48: the table of a parked request has been read. -/
def parkedTableRead (n : Fin 4) (p : Parked) (xs : List Extent) (s : State) : State :=
  match tableFault xs p.pub.size with
  | some (d, i) => answerPub p.pub .badExtents (.extents d i) (freePlace n s)
  | none => s.withBmc { s.bmc with hold := vset s.bmc.hold n (some { p with pub := { p.pub with extents := .good xs } }) }

/-- EXTENT_TABLE_READ_DONE (R48). -/
def execExtentTableReadDone (request : Nat) (s : State) : Host.Outcome State Fault Refusal :=
  .next (match s.hme.find (.extents request) Op.succeeded with
    | some o =>
      if s.running then
        match s.bmc.heldAt request with
        | some (n, p) => parkedTableRead n p (readExtents o) (dropOp o.id s)
        | none => match s.reqs.pubs.find? fun p => p.id == request with
          | some p => tableRead p (readExtents o) (dropOp o.id s)
          | none => dropOp o.id s
      else s
    | none => s)

/-- EXTENT_TABLE_READ_FAIL (R49). -/
def execExtentTableReadFail (request : Nat) (s : State) : Host.Outcome State Fault Refusal :=
  .next (match s.hme.find (.extents request) Op.failed with
    | some o =>
      if s.running then
        match s.bmc.heldAt request with
        | some (n, p) => answerPub p.pub .hostMemoryError (.memory 0 o.failedAt) (freePlace n (dropOp o.id s))
        | none => match s.reqs.pubs.find? fun p => p.id == request with
          | some p => advanceAfter p (answerPub p .hostMemoryError (.memory 0 o.failedAt) (dropPub p.id (dropOp o.id s)))
          | none => dropOp o.id s
      else s
    | none => s)

/-! ## The Table Controller's claim (R51 to R57) -/

/-- The version of a request (R43). -/
def State.versionOf (s : State) (p : Pub) : Version := { seq := p.seq, origin := BitVec.ofNat 8 s.ownIndex }

/-- What a request stores. -/
def State.contentOf (s : State) (p : Pub) : Content :=
  { version := s.versionOf p, kind := p.kind, size := p.size, tag := p.contentTag,
    extents := match p.extents with
      | .good xs => xs
      | .reading => [] }

/-- R54, R56: the completion of a request whose target set is empty. -/
def noTargets (p : Pub) (s : State) : State :=
  answerPub p .noTargets (.stored (s.versionOf p) .opened 0 false false false none) s

/-- R54: the key has no record. -/
def applyNew (p : Pub) (targets : List Region) (s : State) : State :=
  if !s.setAble (setOf p.key) then answerPub p .setFull (.setNumber (setOf p.key)) s
  else if targets.isEmpty then noTargets p s
  else
    let (s1, evicted) := makeRoom (setOf p.key) s
    let s2 := joinTargets p.key targets (addRec (newRecord p.key (s.contentOf p) .localRole .opened targets) s1)
    answerPub p .ok (.stored (s.versionOf p) .opened (regionMask targets) true false evicted none) (pressureCheck s2)

/-- R53, R55, R56: the key has a record. A STALE completion carries the record's version and no state, as R58 lists its fields (log entry 10). -/
def applyOver (p : Pub) (targets : List Region) (r : Record) (s : State) : State :=
  if !newer (s.versionOf p) r.version then answerPub p .stale (.version r.version) s
  else if targets.isEmpty then noTargets p s
  else answerPub p .ok (.stored (s.versionOf p) .opened (regionMask targets) false true false (some r.version))
    (supersede r (s.contentOf p) .localRole .opened targets s)

/-- R51 to R56: the claim on a ready request. -/
def applyPub (p : Pub) (placement : Placement) (s : State) : State :=
  let targets := targetSet placement s.regionCount s.ownIndex
  match s.table.find p.key with
  | some r => applyOver p targets r s
  | none => applyNew p targets s

/-- TABLE_CONTROLLER_APPLY (R54). -/
def execTableControllerApply (request : Nat) (s : State) : Host.Outcome State Fault Refusal :=
  .next (match s.reqs.pubs.find? fun p => p.id == request with
    | some p => match p.stage with
      | .ready placement => if s.running then applyPub p placement (dropPub p.id s) else s
      | _ => s
    | none => s)

end Sys2Proof.Machine
end

