-- ==== Sys2Proof/Machine/Inbound.lean ====
section
/-! DEFINITION. Inbound transfers: answering offers (R112 to R117), the host's answers (R118 to R121, R132), segments and their writes (R122 to R131), withdrawal, drain and faults (R133 to R135). -/

namespace Sys2Proof.Machine

/-! ## Answering an offer -/

/-- R112, R202: the frame is discarded without reply. -/
def badOffer (own : Nat) (x : Region) (f : OfferFrame) : Bool :=
  f.version.origin.toNat == own || f.version.origin.toNat != x.val || Config.maxObject < f.size.toNat || (Kind.ofCode f.kind).isNone ||
    (Kind.ofCode f.kind == some .tombstone && f.size != 0)

/-- R114 step 2: the context an inbound binding would take. -/
def Pool.inboundChoice (p : Pool) : Option CtxNo := if p.inCount < Config.maxInbound then p.lowestFree else none

/-- R110: the fields of a context at its binding. -/
def InCtx.bound (r : Record) (deadline : Nat) : InCtx :=
  { key := r.key, version := r.version, source := regionOf r.version.origin, kind := r.kind, size := r.size, chunks := r.chunks, state := .awaitHost,
    landing := [], expected := 0, received := Vector.replicate 32 none, carried := none, acked := 0, timer := some deadline, cancel := none }

/-- R117: the OFFER_IN notice of a record. -/
def offerInNotice (r : Record) (wanted : Bool) : Notice := .offerIn r.key r.version r.kind r.size r.contentTag wanted

/-- R127: the LANDED notice of a record. -/
def landedNotice (r : Record) : Notice := .landed r.key r.version r.kind r.size

/-- R114 step 3: a context is bound, the record becomes OFFERED, OFFER_IN is emitted and the answer is PENDING. -/
def bindInbound (c : CtxNo) (r : Record) (x : Region) (s : State) : State :=
  let s1 := setCtx c (.inb (.bound r (s.now + s.settingTime 3))) s
  let s2 := modRec r.key (fun r => { r with state := .offered, inbound := some c }) s1
  sendCtl x (replyBody r.key r.version .pending) (emitRecord r.key (offerInNotice r true) s2)

/-- R115: a tombstone lands with no context, with OFFER_IN and then LANDED, and the answer is ACCEPTED with resume chunk 0. -/
def landTombstone (r : Record) (x : Region) (s : State) : State :=
  let s1 := emitRecord r.key (offerInNotice r false) (modRec r.key (fun r => { r with state := .landed }) s)
  sendCtl x (replyBody r.key r.version .accepted) (emitRecord r.key (landedNotice r) s1)

/-- R114, R115: a fresh offer into a record that stands WAITING at the version. -/
def freshOffer (k : Key) (x : Region) (s : State) : State :=
  match s.table.find k with
  | some r => match r.kind with
    | .tombstone => landTombstone r x s
    | .content => match r.inbound, s.pool.inboundChoice with
      | none, some c => bindInbound c r x s
      | _, _ => sendCtl x (replyBody k r.version .busy) s
  | none => s

/-- R114 steps 1 and 2, R115: a fresh offer for a key without a record can be taken. -/
def State.canCreate (s : State) (k : Key) (kind : Kind) : Bool := s.setAble (setOf k) && (kind == .tombstone || s.pool.inboundChoice.isSome)

/-- What an offer brings. -/
def OfferFrame.brings (f : OfferFrame) (kind : Kind) : Content :=
  { version := f.version, kind := kind, size := f.size.toNat, tag := f.contentTag, extents := [] }

/-- R113, first row: the key has no record. -/
def offerNew (x : Region) (f : OfferFrame) (kind : Kind) (s : State) : State :=
  if s.canCreate f.key kind then
    pressureCheck (freshOffer f.key x (addRec (newRecord f.key (OfferFrame.brings f kind) .remoteRole .waiting []) (makeRoom (setOf f.key) s).1))
  else sendCtl x (replyBody f.key f.version .busy) s

/-- R113, the rows of an equal version: the answer by the record's state. -/
def offerSame (x : Region) (f : OfferFrame) (r : Record) (s : State) : State :=
  match r.state with
  | .offered => sendCtl x (replyBody f.key f.version .pending) s
  | .receiving => match r.inbound with
    | some c => match s.ctx c with
      | .inb i => sendCtl x (.reply f.key f.version .accepted i.acked none) (setCtx c (.inb { i with timer := some (s.now + s.settingTime 4) }) s)
      | _ => s
    | none => s
  | .waiting => freshOffer f.key x s
  | .landed => sendCtl x (replyBody f.key f.version .landed) s
  | .settled => if r.outcome == some .committed then sendCtl x (replyBody f.key f.version .haveVersion) s
    else sendCtl x (replyBody f.key f.version .declined) s
  | .opened => s

/-- R113: the answer to an offer that passed the tests of R112. -/
def answerOffer (x : Region) (f : OfferFrame) (kind : Kind) (s : State) : State :=
  match s.table.find f.key with
  | none => offerNew x f kind s
  | some r =>
    if newer r.version f.version then sendCtl x (.reply f.key f.version .newer 0 (some r.version)) s
    else if newer f.version r.version then freshOffer f.key x (supersede r (OfferFrame.brings f kind) .remoteRole .waiting [] s)
    else offerSame x f r s

/-- R112, R113: an OFFER at its owner. -/
def offerFrame (x : Region) (f : OfferFrame) (s : State) : State :=
  if badOffer s.ownIndex x f then s
  else match Kind.ofCode f.kind with
    | some kind => answerOffer x f kind s
    | none => s

/-- OFFER (R113). -/
def execOffer (source : Region) (frame : OfferFrame) (s : State) : Host.Outcome State Fault Refusal :=
  .next (if s.admits source then offerFrame source frame s else s)

/-! ## The host's answer -/

/-- R119 step 3: NO_OFFER or LAPSED, or the bound context of the OFFERED record. -/
def State.offerCheck (s : State) (k : Key) (v : Version) : Except Status (Record × CtxNo) :=
  match s.table.find k with
  | some r =>
    if r.role == .remoteRole && r.version == v then
      match r.state, r.inbound with
      | .offered, some c => .ok (r, c)
      | .waiting, _ => .error .lapsed
      | _, _ => .error .noOffer
    else .error .noOffer
  | none => .error .noOffer

/-- R119, R132: the record's current version and state, or zeros without a record. -/
def State.standing (s : State) (k : Key) : CompBody :=
  match s.table.find k with
  | some r => .versionState r.version r.state
  | none => .plain

/-- R119 step 4: the detail and index of a landing table that does not fit the record's size. -/
def landingFault (count : Nat) (xs : List Extent) (size : Nat) : Option (ExtentDetail × Nat) :=
  if Config.maxExtents < count then some (.count, 0) else tableFault xs size

/-- R120: the context becomes RECEIVING. -/
def InCtx.accepted (i : InCtx) (xs : List Extent) (deadline : Nat) : InCtx :=
  { i with state := .receiving, landing := xs, expected := 0, acked := 0, received := Vector.replicate 32 none, timer := some deadline }

/-- R120: an ACCEPT that passes its checks, up to its completion; the record state after it. -/
def applyAccept (r : Record) (c : CtxNo) (xs : List Extent) (s : State) : State × RecState :=
  let reply := sendCtl (regionOf r.version.origin) (replyBody r.key r.version .accepted)
  if r.size = 0 then
    let s1 := modRec r.key (fun r => { r with state := .landed }) (releaseInbound c r.key s)
    (reply (emitRecord r.key (landedNotice r) s1), .landed)
  else
    let s1 := modIn c (fun i => i.accepted xs (s.now + s.settingTime 4)) s
    (reply (modRec r.key (fun r => { r with state := .receiving }) s1), .receiving)

/-- R119 steps 3 and 4, R120: the claim of an ACCEPT with its landing table. -/
def decideAccept (ring : ReqRing) (q : AcceptReq) (xs : List Extent) (s : State) : State :=
  match s.offerCheck q.key q.version with
  | .error status => answer ring q.tag .accept status (s.standing q.key) s
  | .ok (r, c) => match landingFault q.extentCount.toNat xs r.size with
    | some (d, i) => answer ring q.tag .accept .badExtents (.extents d i) s
    | none =>
      let (t, st) := applyAccept r c xs s
      answer ring q.tag .accept .ok (.versionState r.version st) t

/-- R119: an ACCEPT taken: its landing table is read, or it is decided at once. -/
def takeAccept (ring : ReqRing) (q : AcceptReq) (s : State) : State :=
  if 1 ≤ q.extentCount.toNat ∧ q.extentCount.toNat ≤ Config.maxExtents then
    let id := s.reqs.nextId
    addRead (.landing id) q.table (16 * q.extentCount.toNat)
      (s.withReqs { s.reqs with nextId := id + 1, accepts := s.reqs.accepts ++ [{ id := id, ring := ring, req := q }] })
  else decideAccept ring q [] s

/-- The outcome of a landing table read reaches its ACCEPT, the part being RUNNING. -/
def onAccept (request : Nat) (p : Op → Bool) (work : PendingAccept → Op → State → State) (s : State) : State :=
  match s.hme.find (.landing request) p, s.reqs.accepts.find? fun a => a.id == request with
  | some o, some a =>
    if s.running then
      let s' := dropOp o.id s
      work a o (s'.withReqs { s.reqs with accepts := s.reqs.accepts.filter fun b => b.id != request })
    else s
  | _, _ => s

/-- R121: DECLINE with a known reason, applied or refused. -/
def applyDecline (ring : ReqRing) (tag : Word) (k : Key) (v : Version) (have_ : Bool) (s : State) : State :=
  match s.offerCheck k v with
  | .error status => answer ring tag .decline status (s.standing k) s
  | .ok (r, c) =>
    let outcome : Settle := if have_ then .committed else .rejected
    let s1 := settle k outcome (releaseInbound c k s)
    let s2 := sendCtl (regionOf r.version.origin) (replyBody k r.version (if have_ then .haveVersion else .declined)) s1
    answer ring tag .decline .ok (.outcome outcome) (pressureCheck (retireIfDue k s2))

/-- R121: a DECLINE taken; reason 1 is HAVE and 2 is REFUSE (section 12.8). -/
def takeDecline (ring : ReqRing) (tag : Word) (k : Key) (v : Version) (reason : Byte) (s : State) : State :=
  if reason = 1 then applyDecline ring tag k v true s
  else if reason = 2 then applyDecline ring tag k v false s
  else malformed ring tag ReqKind.decline.code .reason s

/-- R132: COMMIT or REJECT taken. -/
def takeVerdict (kind : ReqKind) (committed : Bool) (ring : ReqRing) (tag : Word) (k : Key) (v : Version) (s : State) : State :=
  match s.table.find k with
  | some r =>
    if r.role == .remoteRole && r.version == v && r.state == .landed then
      let outcome : Settle := if committed then .committed else .rejected
      let s1 := sendCtl (regionOf r.version.origin) (.confirm k v committed) (settle k outcome s)
      answer ring tag kind .ok (.outcome outcome) (pressureCheck (retireIfDue k s1))
    else answer ring tag kind .notLanded (s.standing k) s
  | none => answer ring tag kind .notLanded (s.standing k) s

/-- ACCEPT (R119). -/
def execAccept (ring : ReqRing) (req : AcceptReq) (s : State) : Host.Outcome State Fault Refusal := .next (taking ring (takeAccept ring req) s)

/-- LANDING_TABLE_READ_DONE (R120). -/
def execLandingTableReadDone (request : Nat) (s : State) : Host.Outcome State Fault Refusal :=
  .next (onAccept request Op.succeeded (fun a o => decideAccept a.ring a.req (readExtents o)) s)

/-- LANDING_TABLE_READ_FAIL (R119). -/
def execLandingTableReadFail (request : Nat) (s : State) : Host.Outcome State Fault Refusal :=
  .next (onAccept request Op.failed (fun a o => answer a.ring a.req.tag .accept .hostMemoryError (.memory 0 o.failedAt)) s)

/-- DECLINE (R121). -/
def execDecline (ring : ReqRing) (tag : Word) (key : Key) (version : Version) (reason : Byte) (s : State) : Host.Outcome State Fault Refusal :=
  .next (taking ring (takeDecline ring tag key version reason) s)

/-- COMMIT (R132). -/
def execCommit (ring : ReqRing) (tag : Word) (key : Key) (version : Version) (s : State) : Host.Outcome State Fault Refusal :=
  .next (taking ring (takeVerdict .commit true ring tag key version) s)

/-- REJECT (R132). -/
def execReject (ring : ReqRing) (tag : Word) (key : Key) (version : Version) (s : State) : Host.Outcome State Fault Refusal :=
  .next (taking ring (takeVerdict .reject false ring tag key version) s)

/-- The timer of an inbound context in a state expires: it acts once its deadline has passed, the part being RUNNING. -/
def onInTimer (c : CtxNo) (st : InState) (act : InCtx → State → State) (s : State) : State :=
  match s.ctx c with
  | .inb i => if s.running && i.state == st && expired s.now i.timer then act i s else s
  | _ => s

/-- The record of a key becomes WAITING. -/
def toWaiting (k : Key) (s : State) : State := modRec k (fun r => { r with state := .waiting }) s

/-- ACCEPT_TIMER_EXPIRY (R118). -/
def execAcceptTimerExpiry (c : CtxNo) (s : State) : Host.Outcome State Fault Refusal :=
  .next (onInTimer c .awaitHost (fun i t =>
    sendCtl i.source (replyBody i.key i.version .timeout)
      (emitRecord i.key (.inCancelled i.key i.version .lapsed) (toWaiting i.key (releaseInbound c i.key t)))) s)

/-- IDLE_TIMER_EXPIRY (R128). -/
def execIdleTimerExpiry (c : CtxNo) (s : State) : Host.Outcome State Fault Refusal :=
  .next (onInTimer c .receiving (fun i t => cancelDrain c .idle (toWaiting i.key t)) s)

/-! ## Segments -/

/-- An ACK frame (R160). -/
def ackBody (k : Key) (v : Version) (next : Nat) : CtlBody := .ack k v next

/-- R129, R130: a HOLD is sent to a region, its flag set and its time recorded. -/
def sendHold (x : Region) (s : State) : State :=
  let s' := sendCtl x (.hold (s.setting 9)) s
  s'.withInbound { s'.inbound with holdSent := vset s'.inbound.holdSent x (some s.now) }

/-- R130: while holding, a segment from a region with no HOLD sent, or with one more than half the hold time old, draws another. -/
def holdTest (x : Region) (s : State) : State :=
  if s.inbound.holding then
    match vget s.inbound.holdSent x with
    | none => sendHold x s
    | some t => if s.settingTime 9 < 2 * (s.now - t) then sendHold x s else s
  else s

/-- R129: the regions from which a context in RECEIVING is bound, in rising order. -/
def State.sendingHere (s : State) : List Region :=
  (List.finRange 8).filter fun x => s.pool.ctx.toList.any fun c => c.in?.any fun i => i.state == .receiving && i.source == x

/-- R129: the occupancy has reached 48 while not holding. -/
def startHolding (s : State) : State :=
  if !s.inbound.holding && s.inbound.fifo.length == Config.holdAt then
    s.sendingHere.foldl (fun t x => sendHold x t) (s.withInbound { s.inbound with holding := true })
  else s

/-- R126, R127: the acknowledged point advances over whole chunks written, with one ACK; at the chunk count the record has landed. -/
def ackAdvance (c : CtxNo) (s : State) : State :=
  match s.ctx c with
  | .inb i =>
    let point := ackPoint s.inbound c i.expected (i.expected - i.acked) i.acked
    if i.state == .receiving && i.acked < point then
      let s1 := sendCtl i.source (ackBody i.key i.version point) s
      if point = i.chunks then
        let s2 := modRec i.key (fun r => { r with state := .landed }) (releaseInbound c i.key s1)
        match s2.table.find i.key with
        | some r => emitRecord i.key (landedNotice r) s2
        | none => s2
      else setCtx c (.inb { i with acked := point }) s1
    else s
  | _ => s

/-- R124: the places of the received set that the expected chunk needs are all marked. -/
def InCtx.complete (i : InCtx) : Bool := (List.finRange 32).all fun j => segmentCount i.size i.expected ≤ j.val || (vget i.received j).isSome

/-- R124: the bytes of the chunk as taken, in segment order. -/
def InCtx.chunkBytes (i : InCtx) : List Byte := i.received.toList.flatMap fun p => p.getD []

/-- R124: the chunk is taken whole; at the chunk count the idle timer stops. -/
def InCtx.takeChunk (i : InCtx) : InCtx :=
  { i with expected := i.expected + 1, received := Vector.replicate 32 none, carried := none, timer := if i.expected + 1 = i.chunks then none else i.timer }

/-- R124: the whole chunk is discarded. -/
def discardChunk (c : CtxNo) (i : InCtx) (s : State) : State :=
  let ofChunk := fun e : FifoEntry => e.ctx == c && e.chunk == i.expected
  let s1 := setCtx c (.inb { i with received := Vector.replicate 32 none, carried := none }) s
  let s2 := s1.withInbound { s1.inbound with fifo := s1.inbound.fifo.map fun e => if ofChunk e && e.op.isSome then { e with discarded := true } else e }
  fifoRemove (fun e => ofChunk e && e.op.isNone) s2

/-- R124: the received set is complete: the chunk check is compared. -/
def chunkComplete (c : CtxNo) (s : State) : State :=
  match s.ctx c with
  | .inb i =>
    if i.complete then
      if i.carried == some (crc32c i.chunkBytes) then ackAdvance c (setCtx c (.inb i.takeChunk) s) else discardChunk c i s
    else s
  | _ => s

/-- R123 test 1. -/
def segmentShapeOk (i : InCtx) (g : SegmentFrame) : Bool :=
  let last := g.seg.toNat + 1 == segmentCount i.size g.chunk.toNat
  g.chunk.toNat < i.chunks && g.seg.toNat < segmentCount i.size g.chunk.toNat && g.payload.length == segmentLength i.size g.chunk.toNat g.seg.toNat &&
    (if last then g.presence == 1 else g.presence == 0)

/-- R123: a segment that passes every test is taken. -/
def segmentTaken (c : CtxNo) (i : InCtx) (g : SegmentFrame) (j : Fin 32) (s : State) : State :=
  let i' := { i with received := vset i.received j (some g.payload), carried := if g.presence = 1 then some g.chunkCheck else i.carried,
                     timer := some (s.now + s.settingTime 4) }
  let s1 := setCtx c (.inb i') s
  let entry : FifoEntry := { ctx := c, chunk := g.chunk.toNat, seg := g.seg.toNat, payload := g.payload, op := none, discarded := false }
  chunkComplete c (startHolding (s1.withInbound { s1.inbound with fifo := s1.inbound.fifo ++ [entry] }))

/-- R123: the tests of a segment that reaches a RECEIVING context, with the check computed over the frame. -/
def segmentTests (c : CtxNo) (i : InCtx) (g : SegmentFrame) (computed : BitVec 32) (s : State) : State :=
  if !segmentShapeOk i g then s
  else if computed ≠ g.check then s
  else if g.chunk.toNat < i.expected then sendCtl i.source (ackBody i.key i.version i.acked) s
  else if i.expected < g.chunk.toNat then s
  else if h : g.seg.toNat < 32 then
    if (vget i.received ⟨g.seg.toNat, h⟩).isSome then s
    else if Config.fifoPlaces ≤ s.inbound.fifo.length then s
    else segmentTaken c i g ⟨g.seg.toNat, h⟩ s
  else s

/-- R122: no context takes the segment: the record of a landed or settled version answers with its chunk count. -/
def segmentUnclaimed (x : Region) (g : SegmentFrame) (s : State) : State :=
  match s.table.find g.key with
  | some r =>
    if r.role == .remoteRole && r.version == g.version && r.version.origin.toNat == x.val && (r.state == .landed || r.state == .settled) then
      sendCtl x (ackBody g.key g.version r.chunks) s
    else s
  | none => s

/-- R122, R130: a SEGMENT at its owner. -/
def segmentFrame (x : Region) (g : SegmentFrame) (computed : BitVec 32) (s : State) : State :=
  let s' := holdTest x s
  match s'.receivingFor x g.key g.version with
  | some c => match s'.ctx c with
    | .inb i => segmentTests c i g computed s'
    | _ => s'
  | none => segmentUnclaimed x g s'

/-- The segment check of a frame given by its fields, over the layout of section 12.6 (log entry 29). -/
def SegmentFrame.computed (g : SegmentFrame) (source own : Nat) : BitVec 32 :=
  segmentCheckOf (spanHeader 3 source own (36 + g.payload.length)) (SegmentFrame.content g)

/-- SEGMENT (R123). -/
def execSegment (source : Region) (frame : SegmentFrame) (s : State) : Host.Outcome State Fault Refusal :=
  .next (if s.admits source then segmentFrame source frame (SegmentFrame.computed frame source.val s.ownIndex) s else s)

/-! ## Writes -/

/-- R125: the entry that is handed to the write client next, with its place in the FIFO. -/
def Inbound.nextIssue (f : Inbound) : Option (FifoEntry × Nat) := f.fifo.zipIdx.find? fun e => f.mayIssue e.1

/-- R125: an entry becomes writing: its write goes to the landing extents of its context. -/
def issueEntry (e : FifoEntry) (n : Nat) (s : State) : State :=
  let landing := ((s.ctx e.ctx).in?.map (·.landing)).getD []
  let cuts := cutPieces (piecesOf landing (segmentOffset e.chunk e.seg) e.payload.length)
  let s' := s.withInbound { s.inbound with fifo := s.inbound.fifo.modify n fun d => { d with op := some s.hme.nextOp } }
  addOp (.segWrite e.ctx) (writeBursts cuts e.payload) s'

/-- FIFO_WRITE_ISSUE (R125). -/
def execFifoWriteIssue (s : State) : Host.Outcome State Fault Refusal :=
  .next (match s.inbound.nextIssue with
    | some (e, n) => if s.running then issueEntry e n s else s
    | none => s)

/-- The write that is that operation and has ended as asked, with its context. -/
def State.segmentWrite (s : State) (op : Nat) (p : Op → Bool) : Option CtxNo :=
  (s.hme.ops.find? fun o => o.id == op && p o).bind fun o => match o.use with
    | .segWrite c => some c
    | _ => none

/-- R134: a DRAINING context with no writes in flight is done. -/
def drainCheck (c : CtxNo) (i : InCtx) (s : State) : State :=
  if s.inbound.writesInFlight c = 0 then pressureCheck (drainFree c i (i.cancel.getD .fault) s) else s

/-- R125: the entry of an ended write leaves the FIFO. -/
def writeEnded (op : Nat) (s : State) : State := fifoRemove (fun e => e.op == some op) (dropOp op s)

/-- R125, R126, R134: a completed write. -/
def writeDone (c : CtxNo) (op : Nat) (s : State) : State :=
  let s' := writeEnded op s
  match s'.ctx c with
  | .inb i => if i.state == .draining then drainCheck c i s' else ackAdvance c s'
  | _ => s'

/-- R134, R135: a failed write. -/
def writeFailed (c : CtxNo) (op : Nat) (s : State) : State :=
  let s' := writeEnded op s
  match s'.ctx c with
  | .inb i =>
    if i.state == .draining then drainCheck c i s'
    else sendCtl i.source (replyBody i.key i.version .aborted) (cancelDrain c .fault (toWaiting i.key s'))
  | _ => s'

/-- SEGMENT_WRITE_DONE (R125). -/
def execSegmentWriteDone (op : Nat) (s : State) : Host.Outcome State Fault Refusal :=
  .next (match s.segmentWrite op Op.succeeded with
    | some c => if s.running then writeDone c op s else s
    | none => s)

/-- SEGMENT_WRITE_FAIL (R135). -/
def execSegmentWriteFail (op : Nat) (s : State) : Host.Outcome State Fault Refusal :=
  .next (match s.segmentWrite op Op.failed with
    | some c => if s.running then writeFailed c op s else s
    | none => s)

/-! ## Withdrawal -/

/-- R133: the record a WITHDRAW from region X acts on. -/
def Record.withdrawable (r : Record) (x : Region) (v : Version) : Bool :=
  r.role == .remoteRole && r.version == v && r.version.origin.toNat == x.val && (r.state == .offered || r.state == .receiving || r.state == .landed)

/-- R133: the effect on a record: LANDED gives its notice in the claim, the other two cancel their context with drain. -/
def withdrawRecord (r : Record) (s : State) : State :=
  let s' := toWaiting r.key s
  match r.state, r.inbound with
  | .landed, _ => emitRecord r.key (.inCancelled r.key r.version .withdrawn) s'
  | _, some c => cancelDrain c .withdrawn s'
  | _, none => s'

/-- R133: a WITHDRAW at its owner. -/
def withdrawFrame (x : Region) (k : Key) (v : Version) (s : State) : State :=
  match s.table.find k with
  | some r => if r.withdrawable x v then withdrawRecord r s else s
  | none => s

/-- WITHDRAW (R133). -/
def execWithdraw (source : Region) (key : Key) (version : Version) (s : State) : Host.Outcome State Fault Refusal :=
  .next (if s.admits source then withdrawFrame source key version s else s)

end Sys2Proof.Machine
end

