-- ==== Sys2Proof/Machine/Lookup.lean ====
section
/-! DEFINITION. LOOKUP and LOOKUP.BATCH (R22 to R24), and the linger expiry (R10). -/

namespace Sys2Proof.Machine

/-- R22: what a lookup of a key gives at this moment. -/
def State.lookup (s : State) (k : Key) : Option LookupAnswer := (s.table.find k).map s.answerOf

/-- R22: a LOOKUP taken. -/
def takeLookup (ring : ReqRing) (tag : Word) (k : Key) (s : State) : State :=
  match s.lookup k with
  | some a => answer ring tag .lookup .ok (.lookup a) s
  | none => answer ring tag .lookup .notTracked .plain s

/-- R23: a LOOKUP.BATCH taken: its key table read is issued. -/
def takeBatch (ring : ReqRing) (q : BatchReq) (s : State) : State :=
  if q.count.toNat < 1 ∨ 64 < q.count.toNat then malformed ring q.tag ReqKind.lookupBatch.code .count s
  else
    let id := s.reqs.nextId
    addRead (.keys id) q.keyTable (16 * q.count.toNat)
      (s.withReqs { s.reqs with nextId := id + 1, batches := s.reqs.batches ++ [{ id := id, ring := ring, req := q, keys := [], done := 0 }] })

/-- R23: the key at a position is looked up and the write of its result issued. -/
def batchLookup (b : Batch) (s : State) : State :=
  match b.keys[b.done]? with
  | some k => addWrite (.result b.id) (b.req.resultTable + BitVec.ofNat 64 (32 * b.done)) (resultBytes (s.lookup k)) s
  | none => s

/-- A batch in progress by its number. -/
def State.batch (s : State) (id : Nat) : Option Batch := s.reqs.batches.find? fun b => b.id == id

/-- A batch in progress changed. -/
def modBatch (b : Batch) (s : State) : State := s.withReqs { s.reqs with batches := s.reqs.batches.map fun c => if c.id == b.id then b else c }

/-- A batch completes with a result count and a failed address (R23, R24). -/
def endBatch (b : Batch) (status : Status) (count : Nat) (addr : Addr) (s : State) : State :=
  answer b.ring b.req.tag .lookupBatch status (.memory count addr) (s.withReqs { s.reqs with batches := s.reqs.batches.filter fun c => c.id != b.id })

/-- The outcome of a batch's operation reaches the batch, the part being RUNNING. -/
def onBatch (use : OpUse) (p : Op → Bool) (request : Nat) (work : Batch → Op → State → State) (s : State) : State :=
  match s.hme.find use p, s.batch request with
  | some o, some b => if s.running then work b o (dropOp o.id s) else s
  | _, _ => s

/-- LOOKUP (R22). -/
def execLookup (ring : ReqRing) (tag : Word) (key : Key) (s : State) : Host.Outcome State Fault Refusal := .next (taking ring (takeLookup ring tag key) s)

/-- LOOKUP_BATCH (R23). -/
def execLookupBatch (ring : ReqRing) (req : BatchReq) (s : State) : Host.Outcome State Fault Refusal := .next (taking ring (takeBatch ring req) s)

/-- KEY_TABLE_READ_DONE (R23): the first key is looked up. -/
def execKeyTableReadDone (request : Nat) (s : State) : Host.Outcome State Fault Refusal :=
  .next (onBatch (.keys request) Op.succeeded request (fun b o t =>
    let b' := { b with keys := keysOf b.req.count.toNat o.data }
    batchLookup b' (modBatch b' t)) s)

/-- KEY_TABLE_READ_FAIL (R24). -/
def execKeyTableReadFail (request : Nat) (s : State) : Host.Outcome State Fault Refusal :=
  .next (onBatch (.keys request) Op.failed request (fun b o => endBatch b .hostMemoryError 0 o.failedAt) s)

/-- RESULT_WRITE_DONE (R23): the next key is looked up, or the batch completes after its last result. -/
def execResultWriteDone (request : Nat) (s : State) : Host.Outcome State Fault Refusal :=
  .next (onBatch (.result request) Op.succeeded request (fun b _ t =>
    let b' := { b with done := b.done + 1 }
    if b'.done < b.req.count.toNat then batchLookup b' (modBatch b' t) else endBatch b .ok b'.done 0 t) s)

/-- RESULT_WRITE_FAIL (R24). -/
def execResultWriteFail (request : Nat) (s : State) : Host.Outcome State Fault Refusal :=
  .next (onBatch (.result request) Op.failed request (fun b o => endBatch b .hostMemoryError b.done o.failedAt) s)

/-- LINGER_EXPIRY (R10): the record of the key is due and is retired if R11 allows it. -/
def execLingerExpiry (key : Key) (s : State) : Host.Outcome State Fault Refusal := .next (if s.running then pressureCheck (retireIfDue key s) else s)

end Sys2Proof.Machine
end

