-- ==== Sys2Proof/Machine/Regions.lean ====
section
/-! DEFINITION. The Region Unit: hearing, probing, backoff, hold and pace (R140 to R151), and REGION.SET and REGION.GET (R152 to R154). -/

namespace Sys2Proof.Machine

/-! ## Hearing and probing -/

/-- FRAME_HEARD (R140). -/
def execFrameHeard (source : Region) (s : State) : Host.Outcome State Fault Refusal := .next (if s.admits source then heardFrom source s else s)

/-- R138: the region is probed: DARK or LIVE. -/
def RegionState.probed (st : RegionState) : Bool := st == .dark || st == .live

/-- R141 step 1: a miss is counted when the region was not heard, and the heard flag is cleared. -/
def RegionEntry.countMiss (e : RegionEntry) : RegionEntry :=
  if e.state.probed then { e with miss := if e.heard then e.miss else min Config.countCap (e.miss + 1), heard := false } else e

/-- R141 step 2: a LIVE region at the miss limit becomes DARK. -/
def darkAtLimit (s : State) (x : Region) : State :=
  if (s.region x).state == .live && s.setting 7 ≤ (s.region x).miss then becomeDark x s else s

/-- R141 step 3: a region that is DARK or LIVE is sent a PROBE. -/
def sendProbe (s : State) (x : Region) : State := if (s.region x).state.probed then sendCtl x .probe s else s

/-- R141: a probe expiry. -/
def probeExpiry (s : State) : State :=
  let s1 := s.withRegions { s.regions with entry := s.regions.entry.map RegionEntry.countMiss }
  let s2 := (List.finRange 8).foldl darkAtLimit s1
  let s3 := (List.finRange 8).foldl sendProbe s2
  s3.withRegions { s3.regions with probe := some (s3.now + s3.settingTime 6) }

/-- PROBE_TIMER_EXPIRY (R141). -/
def execProbeTimerExpiry (s : State) : Host.Outcome State Fault Refusal := .next (if s.running && expired s.now s.regions.probe then probeExpiry s else s)

/-- PROBE (R142): answered with an ECHO. -/
def execProbe (source : Region) (s : State) : Host.Outcome State Fault Refusal := .next (if s.admits source then sendCtl source .echo s else s)

/-- ECHO (R142): no effect beyond being heard, which is FRAME_HEARD's. -/
def execEcho (_source : Region) (s : State) : Host.Outcome State Fault Refusal := .next s

/-! ## Backoff, hold and pace -/

/-- BACKOFF_EXPIRY (R147). -/
def execBackoffExpiry (region : Region) (s : State) : Host.Outcome State Fault Refusal :=
  .next (if s.running && expired s.now (s.region region).backoff then modRegion region (fun e => { e with backoff := none }) s else s)

/-- R148: a HOLD with a hold time of 10 to 2,000 ms; any other is discarded. R148 names 0 and above 2,000 as discarded and not 1 to 9: that these are out of range too is the
model's reading, log entry 37. -/
def holdFrame (x : Region) (time : Nat) (s : State) : State :=
  if 10 ≤ time ∧ time ≤ 2000 then handingOn x (fun t => modRegion x (fun e => { e with held := some (t.now + time * 1000) }) t) s else s

/-- R148: the hold of a region ends. -/
def endHold (x : Region) (s : State) : State := handingOn x (modRegion x fun e => { e with held := none }) s

/-- HOLD (R148). -/
def execHold (source : Region) (time : BitVec 16) (s : State) : Host.Outcome State Fault Refusal :=
  .next (if s.admits source then holdFrame source time.toNat s else s)

/-- RESUME (R148). -/
def execResume (source : Region) (s : State) : Host.Outcome State Fault Refusal := .next (if s.admits source then endHold source s else s)

/-- HOLD_EXPIRY (R148). -/
def execHoldExpiry (region : Region) (s : State) : Host.Outcome State Fault Refusal :=
  .next (if s.running && expired s.now (s.region region).held then endHold region s else s)

/-- R151: the entry at the end of its pace window. -/
def RegionEntry.windowEnds (e : RegionEntry) : RegionEntry :=
  match e.phase with
  | .a => { e with phase := .b, remaining := e.quietWindow * 1000, windowEnd := true, run := e.run && e.mode != .single }
  | .b => { e with phase := .a, remaining := e.sendWindow * 1000, windowEnd := true }

/-- PACE_WINDOW_END (R151): a pace timer that counts has come to 0. -/
def execPaceWindowEnd (region : Region) (s : State) : Host.Outcome State Fault Refusal :=
  .next (if s.running && (s.region region).counting && (s.region region).remaining == 0 then handingOn region (modRegion region RegionEntry.windowEnds) s else s)

/-! ## REGION.SET and REGION.GET -/

/-- R152 check 3. -/
def badRegionSetting (q : RegionSetReq) (ownStation : BitVec 48) : Bool :=
  (q.applyPace && ((PaceMode.ofCode q.paceMode).isNone || !windowOk q.sendWindow || !windowOk q.quietWindow)) ||
    (q.applyStation && (isGroup q.station || q.station == ownStation))

/-- R153 step 1: the enable group. -/
def applyEnable (q : RegionSetReq) (x : Region) (s : State) : State :=
  if q.applyEnable then
    match (s.region x).state, q.enable with
    | .dark, false => suspend x s
    | .live, false => suspend x s
    | .suspended, true => unsuspend x s
    | _, _ => s
  else s

/-- R153 step 3: the pace group. -/
def applyPace (q : RegionSetReq) (e : RegionEntry) : RegionEntry :=
  if q.applyPace then
    { e with mode := (PaceMode.ofCode q.paceMode).getD e.mode, sendWindow := q.sendWindow.toNat, quietWindow := q.quietWindow.toNat, phase := .a,
             remaining := q.sendWindow.toNat * 1000 }
  else e

/-- R153 steps 2 to 5 on the entry: station, pace, run, clear. -/
def applyGroups (q : RegionSetReq) (e : RegionEntry) : RegionEntry :=
  let e1 := if q.applyStation then { e with station := q.station } else e
  let e2 := applyPace q e1
  let e3 := if q.applyRun then { e2 with run := q.run } else e2
  if q.clearWindowEnd then { e3 with windowEnd := false } else e3

/-- R153: the contexts a suspend aborts. -/
def suspendCount (q : RegionSetReq) (x : Region) (s : State) : Nat := if q.applyEnable && !q.enable && (s.region x).state.probed then (s.boundTo x).length else 0

/-- R152, R153: REGION.SET taken. Its BAD_SETTING holds zero at byte 8, where 12.4 places a setting number that R152 gives a REGION.SET none of: the model's choice, log entry 33. -/
def takeRegionSet (ring : ReqRing) (q : RegionSetReq) (s : State) : State :=
  managed ring q.tag .regionSet (fun s =>
    match s.otherRegion q.index with
    | none => answer ring q.tag .regionSet .badRegion .plain s
    | some x =>
      if badRegionSetting q (s.region (regionOf (BitVec.ofNat 8 s.ownIndex))).station then answer ring q.tag .regionSet .badSetting .plain s
      else if q.applyStation && (s.region x).state != .suspended then answer ring q.tag .regionSet .wrongState .plain s
      else
        let t := handingOn x (fun t => modRegion x (applyGroups q) (applyEnable q x t)) s
        let e := t.region x
        answer ring q.tag .regionSet .ok (.regionSet (s.region x).state e.state (suspendCount q x s) e.phase e.remaining) t) s

/-- R154: what REGION.GET reports. -/
def State.regionReport (s : State) (x : Region) : RegionReport :=
  let e := s.region x
  { station := e.station, state := e.state, lastReported := e.lastReported, miss := e.miss, heard := e.heard, backoffLeft := millisLeft s.now e.backoff,
    held := e.held.isSome, heldLeft := millisLeft s.now e.held, mode := e.mode, sendWindow := e.sendWindow, quietWindow := e.quietWindow, run := e.run,
    phase := e.phase, remaining := e.remaining, windowEnd := e.windowEnd, unreported := e.unreported, workLength := (vget s.sched.work x).length,
    confirmLength := (vget s.sched.confirm x).length }

/-- R154: REGION.GET taken. -/
def takeRegionGet (ring : ReqRing) (tag : Word) (index : Byte) (s : State) : State :=
  if 7 < index.toNat then answer ring tag .regionGet .badRegion .plain s
  else answer ring tag .regionGet .ok (.regionGet (s.regionReport (regionOf index))) s

/-- REGION_SET (R153). -/
def execRegionSet (ring : ReqRing) (req : RegionSetReq) (s : State) : Host.Outcome State Fault Refusal := .next (taking ring (takeRegionSet ring req) s)

/-- REGION_GET (R154). -/
def execRegionGet (ring : ReqRing) (tag : Word) (index : Byte) (s : State) : Host.Outcome State Fault Refusal := .next (taking ring (takeRegionGet ring tag index) s)

end Sys2Proof.Machine
end

