-- ==== Sys2Proof/Machine/Settings.lean ====
section
/-! DEFINITION. SETTINGS.SET and SETTINGS.GET (R196, R197). -/

namespace Sys2Proof.Machine

/-- R196: the lowest selected setting whose value is out of its range. -/
def badSetting (mask : BitVec 16) (values : Vector Word 14) : Option (Fin 14) :=
  (List.finRange 14).find? fun i => mask.getLsbD i.val && !settingOk i (vget values i)

/-- R196: the settings after a request: each selected one takes its value. -/
def selectSettings (mask : BitVec 16) (values old : Vector Word 14) : Vector Word 14 :=
  Vector.ofFn fun i => if mask.getLsbD i.val then vget values i else vget old i

/-- R20: the comparison made when the pressure mark has changed. -/
def markCheck (before : Word) (s : State) : State := if vget s.settings 12 == before then s else pressureCheck s

/-- R196: SETTINGS.SET taken. -/
def takeSettingsSet (ring : ReqRing) (tag : Word) (mask : BitVec 16) (values : Vector Word 14) (s : State) : State :=
  if 2 ^ 14 ≤ mask.toNat then malformed ring tag ReqKind.settingsSet.code .selection s
  else managed ring tag .settingsSet (fun s =>
    match badSetting mask values with
    | some i => answer ring tag .settingsSet .badSetting (.setting i.val) s
    | none => answer ring tag .settingsSet .ok (.mask mask) (markCheck (vget s.settings 12) (s.withSettings (selectSettings mask values s.settings)))) s

/-- R197: SETTINGS.GET taken. -/
def takeSettingsGet (ring : ReqRing) (tag : Word) (first : Byte) (s : State) : State :=
  if 13 < first.toNat then malformed ring tag ReqKind.settingsGet.code .selection s
  else answer ring tag .settingsGet .ok (.values first.toNat ((s.settings.toList.drop first.toNat).take 5)) s

/-- SETTINGS_SET (R196). -/
def execSettingsSet (ring : ReqRing) (tag : Word) (mask : BitVec 16) (values : Vector Word 14) (s : State) : Host.Outcome State Fault Refusal :=
  .next (taking ring (takeSettingsSet ring tag mask values) s)

/-- SETTINGS_GET (R197). -/
def execSettingsGet (ring : ReqRing) (tag : Word) (first : Byte) (s : State) : Host.Outcome State Fault Refusal :=
  .next (taking ring (takeSettingsGet ring tag first) s)

end Sys2Proof.Machine
end

