-- ==== Sys2Proof/Machine/Requests.lean ====
section
/-! DEFINITION. REQUEST_TAKE: the claim that takes a fetched entry and hands its request to its block (R182, R183). -/

namespace Sys2Proof.Machine

/-- R183: the request of a known kind is handed to its block. -/
def route (ring : ReqRing) (kind : ReqKind) (e : List Byte) (s : State) : State :=
  let tag := entryTag e
  match kind with
  | .publish => takePublish ring (publishEntry e) s
  | .delete => takeDelete ring (deleteEntry e) s
  | .lookup => takeLookup ring tag (entryKey e) s
  | .lookupBatch => takeBatch ring (batchEntry e) s
  | .accept => takeAccept ring (acceptEntry e) s
  | .decline => takeDecline ring tag (entryKey e) (entryVersion e) (byteAt e 32) s
  | .commit => takeVerdict .commit true ring tag (entryKey e) (entryVersion e) s
  | .reject => takeVerdict .reject false ring tag (entryKey e) (entryVersion e) s
  | .abandon => takeAbandon ring tag (entryKey e) (byteAt e 32) s
  | .retry => takeRetry ring tag (entryKey e) (byteAt e 32) s
  | .settingsGet => takeSettingsGet ring tag (byteAt e 8) s
  | .regionGet => takeRegionGet ring tag (byteAt e 8) s
  | .settingsSet => takeSettingsSet ring tag (BitVec.ofNat 16 (leAt e 2 2)) (settingsEntry e) s
  | .regionSet => takeRegionSet ring (regionSetEntry e) s
  | .bucketLoad => takeBucketLoad ring (bucketLoadEntry e) s
  | .bucketDeny => takeBucketDeny ring tag (byteAt e 20) (entryBucket e) s
  | .bucketFlush => takeBucketFlush ring tag (byteAt e 24) (byteAt e 20) (entryBucket e) s
  | .defer => takeDefer ring tag (byteAt e 8) s

/-- R183: a taken entry: MALFORMED for an unknown kind, else its request. -/
def takeEntry (ring : ReqRing) (e : List Byte) (s : State) : State :=
  match ReqKind.ofCode (byteAt e 0) with
  | some kind => route ring kind e s
  | none => malformed ring (entryTag e) (byteAt e 0) .kind s

/-- R182: the consumer index advances by one. -/
def advanceConsumer (ring : ReqRing) (s : State) : State := modRing (ringName ring) (fun r => { r with cons := (r.cons + 1) % r.size.toNat }) s

/-- R182: the take of a fetched entry, or its drop when the conditions no longer hold. -/
def takeFetched (ring : ReqRing) (e : List Byte) (s : State) : State :=
  if s.takeOk ring && 0 < (s.rings.get (ringName ring)).available then takeEntry ring e (advanceConsumer ring (reserve s)) else s

/-- REQUEST_TAKE (R182): the fetch of the ring has completed. -/
def execRequestTake (ring : ReqRing) (s : State) : Host.Outcome State Fault Refusal :=
  .next (match s.fetchOp ring Op.succeeded with
    | some o => if s.running then takeFetched ring o.data (dropOp o.id s) else s
    | none => s)

end Sys2Proof.Machine
end

