-- ==== Sys2Proof/Machine/Outbound.lean ====
section
/-! DEFINITION. Outbound transfers: replies to an offer (R88 to R95), reading the chunks (R96 to R98, R107), acknowledgement (R101, R102) and the two timers (R91, R104). -/

namespace Sys2Proof.Machine

/-! ## Replies -/

/-- R88: a frame from region X acts on the context in OFFERING or SENDING that its key and version name; without one it is discarded. -/
def onOutbound (x : Region) (k : Key) (v : Version) (act : CtxNo → OutCtx → State → State) (s : State) : State :=
  match s.outboundFor x k v with
  | some c => match s.ctx c with
    | .out o => act c o s
    | _ => s
  | none => s

/-- The same, for what acts in OFFERING alone. -/
def onOffering (x : Region) (k : Key) (v : Version) (act : CtxNo → OutCtx → State → State) (s : State) : State :=
  onOutbound x k v (fun c o t => if o.state == .offering then act c o t else t) s

/-- R92: the context becomes SENDING from its resume chunk. -/
def OutCtx.startSending (o : OutCtx) (r : Nat) : OutCtx :=
  { o with state := .sending, next := r, acked := r, readChunk := r, readSeg := 0, acc := 0, burst := 0, timer := none }

/-- R92: REPLY ACCEPTED. -/
def replyAccepted (x : Region) (k : Key) (v : Version) (r : Nat) (s : State) : State :=
  onOffering x k v (fun c o t =>
    if o.chunks < r then t
    else if r < o.chunks then modSlot k x (fun sl => { sl with state := .sending }) (setCtx c (.out (o.startSending r)) t)
    else confirming k x (endOutbound c t)) s

/-- R93: REPLY PENDING. -/
def replyPending (x : Region) (k : Key) (v : Version) (s : State) : State :=
  onOffering x k v (fun c o t => setCtx c (.out { o with timer := some (t.now + t.settingTime 1) }) t) s

/-- R147: the region enters backoff. -/
def startBackoff (x : Region) (s : State) : State := modRegion x (fun e => { e with backoff := some (s.now + s.settingTime 8) }) s

/-- R93: REPLY BUSY. -/
def replyBusy (x : Region) (k : Key) (v : Version) (s : State) : State :=
  onOffering x k v (fun c _ t => startBackoff x (requeue k x (endOutbound c t))) s

/-- R93: REPLY TIMEOUT. -/
def replyTimeout (x : Region) (k : Key) (v : Version) (s : State) : State :=
  onOffering x k v (fun c _ t => startBackoff x (countRetry c k x (fun u => requeue k x (endOutbound c u)) t)) s

/-- R94: REPLY HAVE. -/
def replyHave (x : Region) (k : Key) (v : Version) (s : State) : State :=
  onOutbound x k v (fun c _ t => pressureCheck (finish k x .confirmed (endOutbound c t))) s

/-- R94: REPLY NEWER. -/
def replyNewer (x : Region) (k : Key) (v other : Version) (s : State) : State :=
  onOutbound x k v (fun c o t => if newer other o.version then pressureCheck (finish k x .overtaken (endOutbound c t)) else t) s

/-- R94: REPLY LANDED. -/
def replyLanded (x : Region) (k : Key) (v : Version) (s : State) : State := onOffering x k v (fun c _ t => confirming k x (endOutbound c t)) s

/-- R94: REPLY DECLINED. -/
def replyDeclined (x : Region) (k : Key) (v : Version) (s : State) : State := onOffering x k v (fun c _ t => failSlot k x .declined (endOutbound c t)) s

/-- R95: REPLY ABORTED. -/
def replyAborted (x : Region) (k : Key) (v : Version) (s : State) : State :=
  onOutbound x k v (fun c _ t => countRetry c k x (fun u => requeue k x (endOutbound c u)) t) s

/-- REPLY_ACCEPTED (R92). -/
def execReplyAccepted (source : Region) (key : Key) (version : Version) (resume : BitVec 16) (s : State) : Host.Outcome State Fault Refusal :=
  .next (if s.admits source then replyAccepted source key version resume.toNat s else s)

/-- REPLY_PENDING (R93). -/
def execReplyPending (source : Region) (key : Key) (version : Version) (s : State) : Host.Outcome State Fault Refusal :=
  .next (if s.admits source then replyPending source key version s else s)

/-- REPLY_BUSY (R93). -/
def execReplyBusy (source : Region) (key : Key) (version : Version) (s : State) : Host.Outcome State Fault Refusal :=
  .next (if s.admits source then replyBusy source key version s else s)

/-- REPLY_TIMEOUT (R93). -/
def execReplyTimeout (source : Region) (key : Key) (version : Version) (s : State) : Host.Outcome State Fault Refusal :=
  .next (if s.admits source then replyTimeout source key version s else s)

/-- REPLY_HAVE (R94). -/
def execReplyHave (source : Region) (key : Key) (version : Version) (s : State) : Host.Outcome State Fault Refusal :=
  .next (if s.admits source then replyHave source key version s else s)

/-- REPLY_NEWER (R94). -/
def execReplyNewer (source : Region) (key : Key) (version : Version) (other : Version) (s : State) : Host.Outcome State Fault Refusal :=
  .next (if s.admits source then replyNewer source key version other s else s)

/-- REPLY_LANDED (R94). -/
def execReplyLanded (source : Region) (key : Key) (version : Version) (s : State) : Host.Outcome State Fault Refusal :=
  .next (if s.admits source then replyLanded source key version s else s)

/-- REPLY_DECLINED (R94). -/
def execReplyDeclined (source : Region) (key : Key) (version : Version) (s : State) : Host.Outcome State Fault Refusal :=
  .next (if s.admits source then replyDeclined source key version s else s)

/-- REPLY_ABORTED (R95). -/
def execReplyAborted (source : Region) (key : Key) (version : Version) (s : State) : Host.Outcome State Fault Refusal :=
  .next (if s.admits source then replyAborted source key version s else s)

/-- REPLY_UNKNOWN_REASON (R88): discarded with no effect. -/
def execReplyUnknownReason (_source : Region) (_key : Key) (_version : Version) (_reason : Byte) (s : State) : Host.Outcome State Fault Refusal := .next s

/-! ## Reading the chunks -/

/-- R97: the reading position after a segment of an object of that size. -/
def OutCtx.advanceReading (o : OutCtx) (size : Nat) : OutCtx :=
  if o.readSeg + 1 < segmentCount size o.readChunk then { o with readSeg := o.readSeg + 1 } else { o with readChunk := o.readChunk + 1, readSeg := 0 }

/-- R97, R100, R103: the segment at the reading position goes into a buffer; segment 0 of the next chunk begins that chunk, and starts the stall timer when no chunk was begun and unacknowledged. -/
def OutCtx.readInto (o : OutCtx) (b : Fin 2) (size stallDeadline : Nat) : OutCtx :=
  let begins := o.readChunk == o.next
  let o' := { o with bufs := vset o.bufs b (.reading o.readChunk o.readSeg false), next := if begins then o.next + 1 else o.next,
                     timer := if begins && o.next == o.acked then some stallDeadline else o.timer }
  o'.advanceReading size

/-- The host addresses of a segment (R170), over an extent list. -/
def segmentCuts (extents : List Extent) (size chunk seg : Nat) : List (Addr × Nat) :=
  cutPieces (piecesOf extents (segmentOffset chunk seg) (segmentLength size chunk seg))

/-- R97: the conditions of a segment read. -/
def State.mayReadSegment (s : State) (o : OutCtx) : Bool := s.running && o.state == .sending && s.sendable o.dest && o.mayRead

/-- SEGMENT_READ_ISSUE (R97). -/
def execSegmentReadIssue (c : CtxNo) (s : State) : Host.Outcome State Fault Refusal :=
  .next (match s.ctx c with
    | .out o => match o.freeBuf, s.table.find o.key with
      | some b, some r =>
        if s.mayReadSegment o then
          addOp (.segRead c b) (readBursts (segmentCuts r.extents r.size o.readChunk o.readSeg))
            (setCtx c (.out (o.readInto b r.size (s.now + s.settingTime 0))) s)
        else s
      | _, _ => s
    | _ => s)

/-- R98: one buffer folded if its turn has come. -/
def OutCtx.foldBuf (size : Nat) (b : Fin 2) (o : OutCtx) : OutCtx :=
  match vget o.bufs b with
  | .unfolded c g bytes =>
    if o.foldable b then
      let acc := crcOver crc32cPoly (if g = 0 then crcInit else o.acc) bytes
      let check := if g + 1 = segmentCount size c then some (acc ^^^ crcInit) else none
      { o with acc := acc, bufs := vset o.bufs b (.ready c g bytes check) }
    else o
  | _ => o

/-- R98: folding in segment order, as far as it goes. -/
def OutCtx.foldAll (size : Nat) (o : OutCtx) : OutCtx := OutCtx.foldBuf size 0 (OutCtx.foldBuf size 1 (OutCtx.foldBuf size 0 o))

/-- The size of the record a context serves. -/
def State.sizeOf (s : State) (k : Key) : Nat := ((s.table.find k).map (·.size)).getD 0

/-- R87, R98: a read of an ABORTING context has ended: its buffer is free, and with no read left the context becomes FREE. -/
def abortingReadEnded (c : CtxNo) (b : Fin 2) (o : OutCtx) (s : State) : State :=
  let o' := { o with bufs := vset o.bufs b .free }
  if o'.bufs.toList.any Buf.isReading then setCtx c (.out o') s else pressureCheck (freeCtx c o.key s)

/-- R98: a read of a SENDING context has completed: its data is kept and folded in order, or discarded. -/
def readKept (c : CtxNo) (b : Fin 2) (o : OutCtx) (data : List Byte) (s : State) : State :=
  match vget o.bufs b with
  | .reading ch g discard =>
    let buf : Buf := if discard then .free else .unfolded ch g data
    setCtx c (.out (OutCtx.foldAll (s.sizeOf o.key) { o with bufs := vset o.bufs b buf })) s
  | _ => s

/-- The segment read of a context's buffer that has ended as asked, the part being RUNNING. -/
def onSegmentRead (c : CtxNo) (b : Fin 2) (p : Op → Bool) (act : OutCtx → Op → State → State) (s : State) : State :=
  match s.hme.find (.segRead c b) p, s.ctx c with
  | some op, .out o => if s.running then act o op (dropOp op.id s) else s
  | _, _ => s

/-- SEGMENT_READ_DONE (R98). -/
def execSegmentReadDone (c : CtxNo) (b : Fin 2) (s : State) : Host.Outcome State Fault Refusal :=
  .next (onSegmentRead c b Op.succeeded (fun o op t => if o.state == .aborting then abortingReadEnded c b o t else readKept c b o op.data t) s)

/-- SEGMENT_READ_FAIL (R107; R87 for an ABORTING context). -/
def execSegmentReadFail (c : CtxNo) (b : Fin 2) (s : State) : Host.Outcome State Fault Refusal :=
  .next (onSegmentRead c b Op.failed (fun o _ t =>
    if o.state == .aborting then abortingReadEnded c b o t
    else failSlot o.key o.dest .hostRead (endOutbound c (setCtx c (.out { o with bufs := vset o.bufs b .free }) t))) s)

/-! ## Acknowledgement and the timers -/

/-- R101: what a taken ACK does to a buffer. -/
def ackedBuf (e : Nat) : Buf → Buf
  | .reading c g d => if c < e then .reading c g true else .reading c g d
  | .unfolded c g bs => if c < e then .free else .unfolded c g bs
  | .ready c g bs k => if c < e then .free else .ready c g bs k
  | .free => .free

/-- R101, R103: a taken ACK below the chunk count. -/
def OutCtx.ackTo (o : OutCtx) (e : Nat) (timer : Option Nat) : OutCtx :=
  let moved := o.readChunk < e
  { o with acked := e, bufs := o.bufs.map (ackedBuf e), readChunk := if moved then o.next else o.readChunk, readSeg := if moved then 0 else o.readSeg,
           timer := timer }

/-- R101, R102: an ACK with next chunk `e`. -/
def ackFrame (x : Region) (k : Key) (v : Version) (e : Nat) (s : State) : State :=
  onOutbound x k v (fun c o t =>
    if o.state == .sending && o.acked < e && e ≤ o.next then
      if e = o.chunks then confirming k x (endOutbound c t)
      else
        let timer := if e < o.next && t.sendable x then some (t.now + t.settingTime 0) else none
        setCtx c (.out (OutCtx.foldAll (t.sizeOf k) (o.ackTo e timer))) t
    else t) s

/-- ACK (R101). -/
def execAck (source : Region) (key : Key) (version : Version) (next : BitVec 16) (s : State) : Host.Outcome State Fault Refusal :=
  .next (if s.admits source then ackFrame source key version next.toNat s else s)

/-- R104: the context goes back to its acknowledged count. -/
def OutCtx.goBack (o : OutCtx) : OutCtx :=
  { o with next := o.acked, readChunk := o.acked, readSeg := 0, acc := 0, bufs := o.bufs.map (endedBuf false), timer := none }

/-- The timer of an outbound context in a state expires: it acts once its deadline has passed, the part being RUNNING. -/
def onOutTimer (c : CtxNo) (st : OutState) (act : OutCtx → State → State) (s : State) : State :=
  match s.ctx c with
  | .out o => if s.running && o.state == st && expired s.now o.timer then act o s else s
  | _ => s

/-- R91: the OFFER is sent again and the reply timer starts in full. -/
def resendOffer (c : CtxNo) (o : OutCtx) (s : State) : State :=
  match s.table.find o.key with
  | some r => sendCtl o.dest (offerBody r) (setCtx c (.out { o with timer := some (s.now + s.settingTime 1) }) s)
  | none => s

/-- REPLY_TIMER_EXPIRY (R91). -/
def execReplyTimerExpiry (c : CtxNo) (s : State) : Host.Outcome State Fault Refusal :=
  .next (onOutTimer c .offering (fun o t => countRetry c o.key o.dest (resendOffer c o) t) s)

/-- STALL_TIMER_EXPIRY (R104). -/
def execStallTimerExpiry (c : CtxNo) (s : State) : Host.Outcome State Fault Refusal :=
  .next (onOutTimer c .sending (fun o t => countRetry c o.key o.dest (setCtx c (.out o.goBack)) t) s)

end Sys2Proof.Machine
end

