-- ==== Sys2Proof/Machine/Wan.lean ====
section
/-! DEFINITION. The WAN Port: the receive filter and dispatch (R157 to R159), the Transmit Arbiter (R161 to R165) and the carrier (R166, R167). -/

namespace Sys2Proof.Machine

/-! ## The receive filter -/

/-- R159: check 10, on the bytes before the frame check: the kind is known and the lengths agree. -/
def lengthOk (body : List Byte) : Bool :=
  match SpanKind.ofCode (byteAt body 15) with
  | none => false
  | some kind =>
    let length := beAt body 18 2
    let seg := if kind == .segment then beAt body (Config.frameHead + 22) 2 else 0
    length == kind.fixedLength + seg && Config.frameHead + length ≤ body.length && (kind != .segment || (1 ≤ seg && seg ≤ Config.segmentBytes))

/-- R157: the ten checks in their order; the source region of an admitted frame. -/
def State.filter (s : State) (bytes : List Byte) : Option Region :=
  let body := bytes.take (bytes.length - 4)
  let source := byteAt body 16
  match s.start.image with
  | none => none
  | some im =>
    if bytes.length < 4 ∨ crc32 body ≠ BitVec.ofNat 32 (leAt bytes (bytes.length - 4) 4) then none
    else if Config.maxFrame < bytes.length then none
    else if BitVec.ofNat 16 (beAt body 12 2) ≠ im.frameType then none
    else if stationAt body 0 ≠ (s.region (regionOf im.own)).station then none
    else if byteAt body 14 ≠ 1 then none
    else if im.n.toNat ≤ source.toNat ∨ source = im.own then none
    else if stationAt body 6 ≠ (s.region (regionOf source)).station then none
    else if byteAt body 17 ≠ im.own then none
    else if (s.region (regionOf source)).state == .suspended then none
    else if lengthOk body then some (regionOf source) else none

/-- R88: a REPLY at its owner, by its reason; one with an unknown reason is discarded. -/
def replyFrame (x : Region) (c : List Byte) (s : State) : State :=
  let k := spanKey c
  let v := spanVersion c
  match (byteAt c 20).toNat with
  | 1 => replyAccepted x k v (beAt c 22 2) s
  | 2 => replyPending x k v s
  | 3 => replyBusy x k v s
  | 4 => replyTimeout x k v s
  | 5 => replyNewer x k v { seq := BitVec.ofNat 48 (beAt c 24 6), origin := byteAt c 30 } s
  | 6 => replyLanded x k v s
  | 7 => replyHave x k v s
  | 8 => replyDeclined x k v s
  | 9 => replyAborted x k v s
  | _ => s

/-- R74, R202: a CONFIRM at its owner; one with an unknown outcome is discarded. -/
def confirmFrame (x : Region) (c : List Byte) (s : State) : State :=
  match (byteAt c 20).toNat with
  | 1 => confirmCommitted x (spanKey c) (spanVersion c) s
  | 2 => confirmRejected x (spanKey c) (spanVersion c) s
  | _ => s

/-- R158: the dispatch of an admitted frame, by its kind, over its bytes before the frame check. -/
def dispatch (x : Region) (body : List Byte) (s : State) : State :=
  let header := (body.drop 14).take 8
  let c := (body.drop Config.frameHead).take (beAt body 18 2)
  match SpanKind.ofCode (byteAt body 15) with
  | some .offer => offerFrame x (offerContent c) s
  | some .reply => replyFrame x c s
  | some .segment => segmentFrame x (segmentContent c) (segmentCheckOf header c) s
  | some .ack => ackFrame x (spanKey c) (spanVersion c) (beAt c 20 2) s
  | some .confirm => confirmFrame x c s
  | some .withdraw => withdrawFrame x (spanKey c) (spanVersion c) s
  | some .hold => holdFrame x (beAt c 0 2) s
  | some .resume => endHold x s
  | some .probe => sendCtl x .echo s
  | some .echo => s
  | none => s

/-- R157, R158: a frame that arrives; an admitted one is reported to the Region Unit and dispatched, in either order (R140). -/
def receiveFrame (bytes : List Byte) (dispatchFirst : Bool) (s : State) : State :=
  match s.filter bytes with
  | none => s
  | some x =>
    let body := bytes.take (bytes.length - 4)
    if dispatchFirst then heardFrom x (dispatch x body s) else dispatch x body (heardFrom x s)

/-- FRAME_RECEIVE (R157): no frame arrives unless the part is RUNNING (R156) and the carrier is up (R166). -/
def execFrameReceive (bytes : List Byte) (dispatchFirst : Bool) (s : State) : Host.Outcome State Fault Refusal :=
  .next (if s.running && s.wan.carrier then receiveFrame bytes dispatchFirst s else s)

/-! ## The Transmit Arbiter -/

/-- R161: a frame of a kind to a region, with its headers completed as the stations now stand. -/
def State.frameTo (s : State) (dest : Region) (kind : Nat) (content : List Byte) : List Byte :=
  let own := s.ownIndex
  wireFrame s.wan.frames (s.region dest).station (s.region (regionOf (BitVec.ofNat 8 own))).station ((s.start.image.map (·.frameType)).getD 0)
    (spanHeader kind own dest.val content.length) content

/-- R99, R160: the content of a SEGMENT with its segment check. -/
def State.segmentBody (s : State) (o : OutCtx) (chunk seg : Nat) (bytes : List Byte) (check : Option (BitVec 32)) : List Byte :=
  let header := spanHeader 3 s.ownIndex o.dest.val (36 + bytes.length)
  segmentContentBytes o.key o.version chunk seg bytes (segmentCheckOf header (segmentContentBytes o.key o.version chunk seg bytes 0 check)) check

/-- A frame whose transmission begins. -/
def transmit (frame : List Byte) (s : State) : State := s.withWan { s.wan with tx := some frame, frames := s.wan.frames + 1 }

/-- R165: the grant holder at its burst allowance loses the grant. -/
def burstTest (c : CtxNo) (burst : Nat) (s : State) : State := if s.setting 13 ≤ burst then loseGrant c s else s

/-- R99, R164: the grantable segment of a context is transmitted and its buffer becomes free; the last segment of a chunk counts in the burst count. -/
def sendSegment (c : CtxNo) (s : State) : State :=
  match s.ctx c with
  | .out o => match o.grantable with
    | some b => match vget o.bufs b with
      | .ready chunk seg bytes check =>
        let burst := if check.isSome then o.burst + 1 else o.burst
        let s1 := setCtx c (.out { o with bufs := vset o.bufs b .free, burst := burst }) s
        let s2 := transmit (s.frameTo o.dest 3 (s.segmentBody o chunk seg bytes check)) s1
        if check.isSome then burstTest c burst s2 else s2
      | _ => s
    | none => s
  | _ => s

/-- R164 step 3: the contexts in the order of the arbiter's search. -/
def contextOrder (last : CtxNo) : List CtxNo := (List.finRange 64).map fun i => last + 1 + i

/-- R163, R164: a context is given the grant. -/
def giveGrant (c : CtxNo) (s : State) : State :=
  modOut c (fun o => { o with burst := 0 }) (s.withWan { s.wan with holder := some c, lastGranted := c })

/-- R164 steps 2 to 4: with the Control Queue empty, the holder's segment, or that of a new one. -/
def portSegments (s : State) : State :=
  let s1 := match s.wan.holder with
    | some c => if s.candidate c then s else loseGrant c s
    | none => s
  match s1.wan.holder with
  | some c => sendSegment c s1
  | none => match (contextOrder s1.wan.lastGranted).find? s1.candidate with
    | some c => sendSegment c (giveGrant c s1)
    | none => s1.withWan { s1.wan with tx := none }

/-- R164: a port ready; the transmission that was in progress has ended. -/
def portReady (s : State) : State :=
  if !s.running then s.withWan { s.wan with tx := none }
  else if !s.wan.carrier then s
  else match s.wan.queue with
    | f :: rest => transmit (s.frameTo f.dest f.body.kind f.body.content) (s.withWan { s.wan with queue := rest })
    | [] => portSegments s

/-- PORT_READY (R164). -/
def execPortReady (s : State) : Host.Outcome State Fault Refusal := .next (portReady s)

/-! ## The carrier -/

/-- CARRIER_LOSS (R166, R156): the frame in transmission is lost; in RUNNING the Control Queue and the grant are gone too, and in no other state is there a further effect. -/
def execCarrierLoss (s : State) : Host.Outcome State Fault Refusal :=
  let down := { s.wan with carrier := false, tx := none }
  .next (s.withWan (if s.running then { down with queue := [], holder := none } else down))

/-- CARRIER_RETURN (R167): the port is ready at once, with the Control Queue empty and no grant holder, as the loss left them. -/
def execCarrierReturn (s : State) : Host.Outcome State Fault Refusal := .next (s.withWan { s.wan with carrier := true })

end Sys2Proof.Machine
end

