-- ==== Sys2Proof/Machine/Startup.lean ====
section
/-! DEFINITION. Start-up and the resets (R179, R180, R194, R195), with the values every block takes at a reset. -/

namespace Sys2Proof.Machine

/-- R155: the entry of a region index once the image is accepted. -/
def regionEntryOf (im : Image) (x : Region) : RegionEntry :=
  if x.val < im.n.toNat then
    let st : RegionState := if x.val = im.own.toNat then .own else .dark
    let p := vget im.pace x
    { station := vget im.stations x, state := st, heard := false, miss := 0, backoff := none, held := none, mode := p.mode,
      sendWindow := p.sendWindow.toNat, quietWindow := p.quietWindow.toNat, run := p.run, phase := .a, remaining := p.sendWindow.toNat * 1000,
      windowEnd := false, lastReported := st, unreported := 0, owed := false }
  else .absent

/-- R155: the Region Table of an image, the probe timer not running. -/
def regionsOf (im : Image) : RegionUnit := { entry := Vector.ofFn (regionEntryOf im), probe := none }

/-- R179, R198: a cold reset. The clock, the carrier (R168), the serial numbers and the two output views are not the part's to reset (log entries 6, 11, 28). -/
def coldReset (s : State) : State :=
  { State.reset with
    now := s.now,
    irq := { Irq.reset with sent := s.irq.sent, causeRead := s.irq.causeRead },
    reqs := { Requests.reset with nextId := s.reqs.nextId, nextLoad := s.reqs.nextLoad },
    wan := { Wan.reset with carrier := s.wan.carrier, frames := s.wan.frames },
    hme := { Hme.reset with nextOp := s.hme.nextOp },
    pending := s.pending }

/-- R179: the image is checked; the part enters LOAD_FAILED with its fault, or accepts the image and enters READY. -/
def loadImage (flash : Option (List Byte)) (s : State) : State :=
  match checkImage flash with
  | .error (why, detail) => s.withStart { s.start with state := .loadFailed, loadFault := some why, loadDetail := detail }
  | .ok im =>
    ((s.withStart { s.start with state := .ready, image := some im }).withSettings im.settings).withRegions (regionsOf im)

/-- R180: the first ring that fails its size or base check, in the order Data, Management, Completion. -/
def Rings.startFault (r : Rings) : Option (RingName × RingReason) :=
  [RingName.data, .management, .completion].findSome? fun n => (ringFaultOf n (r.get n)).map fun why => (n, why)

/-- R180: an ACTIVE ring with its indexes at 0, and no fault reason (log entry 34). -/
def Ring.started (r : Ring) : Ring := { r with state := .active, reason := none, prod := 0, cons := 0 }

/-- R180: RUN. -/
def run (s : State) : State :=
  if s.start.state == .ready then
    match s.rings.startFault with
    | some f =>
      let s' := s.withStart { s.start with startFault := some f }
      if s.ringFaultPending then s' else raise s'
    | none =>
      let s1 := s.withStart { s.start with startFault := none, state := .running }
      let s2 := s1.withRings { data := s.rings.data.started, mgmt := s.rings.mgmt.started, comp := s.rings.comp.started, writePos := 0, writePhase := true }
      s2.withRegions { s2.regions with probe := some (s.now + s.settingTime 6) }
  else s

/-- R177: an operation in the event in which the part enters RESETTING. -/
def Op.resetting (o : Op) : Op := { o with bursts := o.bursts.map dropUnissued }

/-- R194: the part enters RESETTING from READY or RUNNING. -/
def enterResetting (s : State) : State :=
  if s.start.state == .ready || s.start.state == .running then
    let s1 := s.withStart { s.start with state := .resetting }
    let s2 := s1.withIrq { s.irq with timer := none }
    let s3 := s2.withHme { s.hme with ops := (s.hme.ops.filter fun o => !o.untouched).map Op.resetting }
    let s4 := s3.withWan { s.wan with queue := [], holder := none }
    s4.withRings { s.rings with data := { s.rings.data with restart := false }, mgmt := { s.rings.mgmt with restart := false },
                                comp := { s.rings.comp with restart := false } }
  else s

/-- R201: a control write; with both positions set it is FUNCTION_RESET alone, and a position written 0 has no effect. -/
def controlWrite (word : Word) (s : State) : State := if word.getLsbD 1 then enterResetting s else if word.getLsbD 0 then run s else s

/-- R195 with R25, R42, R83, R109, R136, R155, R168, R177: every block takes its function reset values and the part returns to READY.
The vector mask stays, and a message it holds is dropped with the causes (log entry 12). -/
def functionResetValues (s : State) : State :=
  { State.reset with
    now := s.now,
    start := { s.start with state := .ready, startFault := none },
    settings := (s.start.image.map (·.settings)).getD s.settings,
    irq := { Irq.reset with masked := s.irq.masked, sent := s.irq.sent, causeRead := s.irq.causeRead },
    reqs := { Requests.reset with nextId := s.reqs.nextId, nextLoad := s.reqs.nextLoad },
    regions := (s.start.image.map regionsOf).getD .reset,
    wan := { Wan.reset with carrier := s.wan.carrier, tx := s.wan.tx, frames := s.wan.frames },
    hme := { Hme.reset with nextOp := s.hme.nextOp },
    pending := s.pending }

/-- COLD_RESET (R179). -/
def execColdReset (s : State) : Host.Outcome State Fault Refusal := .next (coldReset s)

/-- IMAGE_LOAD (R179), in LOADING. -/
def execImageLoad (flash : Option (List Byte)) (s : State) : Host.Outcome State Fault Refusal :=
  .next (if s.start.state == .loading then loadImage flash s else s)

/-- RUN (R180). -/
def execRun (word : Word) (s : State) : Host.Outcome State Fault Refusal := .next (controlWrite word s)

/-- FUNCTION_RESET (R194). -/
def execFunctionReset (word : Word) (s : State) : Host.Outcome State Fault Refusal := .next (controlWrite word s)

/-- PCIE_FUNCTION_RESET (R194). -/
def execPcieFunctionReset (s : State) : Host.Outcome State Fault Refusal := .next (enterResetting s)

/-- DRAIN_END (R195), in RESETTING once no burst is outstanding. -/
def execDrainEnd (s : State) : Host.Outcome State Fault Refusal :=
  .next (if s.start.state == .resetting && s.hme.drained then functionResetValues s else s)

end Sys2Proof.Machine
end

