-- ==== Sys2Proof/Machine/Window.lean ====
section
/-! DEFINITION. The register window (R178, R201, section 12.2): its writes, the read of CAUSE, the restart of a ring (R193, R199), and the vector mask (R190). -/

namespace Sys2Proof.Machine

/-! ## Writes -/

/-- R181: a producer index write of a request ring. -/
def writeProducer (ring : ReqRing) (v : Word) (s : State) : State :=
  let r := s.rings.get (ringName ring)
  if s.running && r.state == .active then
    if v.toNat < r.size.toNat then modRing (ringName ring) (fun r => { r with prod := v.toNat }) s else faultRing (ringName ring) .badIndex s
  else s

/-- R186: the consumer index value would not pass the producer index and is below the size. -/
def Ring.consumerOk (r : Ring) (v : Nat) : Bool :=
  v < r.size.toNat && (v + r.size.toNat - r.cons) % r.size.toNat ≤ (r.prod + r.size.toNat - r.cons) % r.size.toNat

/-- R186: a consumer index write of the Completion Ring. -/
def writeConsumer (v : Word) (s : State) : State :=
  if s.writable && s.rings.comp.state == .active then
    if s.rings.comp.consumerOk v.toNat then modRing .completion (fun r => { r with cons := v.toNat }) s else faultRing .completion .badIndex s
  else s

/-- R193, R199: a restart write. -/
def writeRestart (name : RingName) (word : Word) (s : State) : State :=
  if word.getLsbD 0 && s.running && (s.rings.get name).state == .faulted then modRing name (fun r => { r with restart := true }) s else s

/-- R190: a trigger level write. -/
def writeTrigger (v : Word) (s : State) : State :=
  if s.writable && (v == 1 || v == 4 || v == 16 || v == 64) then
    let s' := s.withIrq { s.irq with trigger := v }
    if v.toNat ≤ s.irq.unsignalled then raiseEntries s' else s'
  else s

/-- R190: a coalescing time write. -/
def writeCoalesce (v : Word) (s : State) : State :=
  if s.writable && v.toNat ≤ Config.maxCoalesce then
    s.withIrq { s.irq with coalesce := v, timer := if v = 0 then none else s.irq.timer }
  else s

/-- R175: a fault-clear write; it acts in every start-up state but LOADING (R178). -/
def writeFaultClear (word : Word) (s : State) : State :=
  if s.windowOpen && word.getLsbD 0 then s.withHme { s.hme with latch := none } else s

/-- R178: a ring's base and size may be written: in LOAD_FAILED and READY, and in RUNNING while the ring is FAULTED. -/
def State.groupWritable (s : State) (name : RingName) : Bool := s.writable && (!s.running || (s.rings.get name).state == .faulted)

/-- R201: a 64-bit register with its low or high word written. -/
def writeHalf (high : Bool) (v : Word) (base : Addr) : Addr :=
  if high then v ++ (base.extractLsb' 0 32) else (base.extractLsb' 32 32) ++ v

/-- R178: a write to the base or size of a ring. -/
def writeGroup (name : RingName) (f : Ring → Ring) (s : State) : State := if s.groupWritable name then modRing name f s else s

/-- R178, R201: a write of a ring group's register at word `field` of the group. -/
def writeRingGroup (name : RingName) (field : Nat) (v : Word) (s : State) : State :=
  match field with
  | 0 => writeGroup name (fun r => { r with base := writeHalf false v r.base }) s
  | 1 => writeGroup name (fun r => { r with base := writeHalf true v r.base }) s
  | 2 => writeGroup name (fun r => { r with size := v }) s
  | 3 => match name with
    | .data => writeProducer .data v s
    | .management => writeProducer .management v s
    | .completion => s
  | 4 => match name with
    | .completion => writeConsumer v s
    | _ => s
  | 6 => writeRestart name v s
  | _ => s

/-- R178, R201: a write of the register at offset 4 times `index`; what section 12.2 does not name, or names read-only, ignores it. -/
def writeRegister (index : BitVec 10) (v : Word) (s : State) : State :=
  let n := index.toNat
  if n = 4 then (if s.writable then controlWrite v s else s)
  else if 8 ≤ n ∧ n < 16 then writeRingGroup .data (n - 8) v s
  else if 16 ≤ n ∧ n < 24 then writeRingGroup .management (n - 16) v s
  else if 24 ≤ n ∧ n < 32 then writeRingGroup .completion (n - 24) v s
  else if n = 33 then writeTrigger v s
  else if n = 34 then writeCoalesce v s
  else if n = 40 then writeFaultClear v s
  else s

/-! ## Reads -/

/-- A code in 8 bits from bit 8 on, and a low field (section 12.2). -/
def packFields (low code : Nat) : Word := BitVec.ofNat 32 (low + 256 * code)

/-- The registers of a ring group (section 12.2). -/
def readRing (r : Ring) (field : Nat) : Word :=
  match field with
  | 0 => r.base.extractLsb' 0 32
  | 1 => r.base.extractLsb' 32 32
  | 2 => r.size
  | 3 => BitVec.ofNat 32 r.prod
  | 4 => BitVec.ofNat 32 r.cons
  | 5 => packFields r.state.code ((r.reason.map RingReason.code).getD 0)
  | _ => 0

/-- R175: the fault latch register and the two words of the fault address. -/
def readLatch (l : Latch) (field : Nat) : Word :=
  match field with
  | 0 => BitVec.ofNat 32 (1 + 2 * l.multiple.toNat + 2 ^ 8 * l.client.val + 2 ^ 16 * l.kind.code)
  | 2 => l.addr.extractLsb' 0 32
  | 3 => l.addr.extractLsb' 32 32
  | _ => 0

/-- What a read of the register at offset 4 times `index` gives (R178, R201, section 12.2). A read changes no state; the read of CAUSE that acknowledges is the command CAUSE_READ.
The write-only registers (control 0x010, restart at +0x18 of a group, fault-clear 0x0A0) have no read value in the spec: a read of one gives 0, the model's choice, log entry 36. -/
def readRegister (index : BitVec 10) (s : State) : Word :=
  let n := index.toNat
  if n = 0 then BitVec.ofNat 32 (Config.partCode.toNat + 2 ^ 16 * Config.revision.toNat)
  else if n = 1 then BitVec.ofNat 32 ((s.start.image.map fun im => im.n.toNat + 2 ^ 8 * im.own.toNat + 2 ^ 16 * im.frameType.toNat).getD 0)
  else if n = 2 then BitVec.ofNat 32 (s.start.state.code + 2 ^ 8 * ((s.start.loadFault.map LoadFault.code).getD 0) + 2 ^ 16 * s.start.loadDetail.toNat)
  else if n = 3 then (match s.start.startFault with
    | some (ring, why) => packFields (ringNameCode ring) why.code
    | none => 0)
  else if !s.windowOpen then 0
  else if 8 ≤ n ∧ n < 16 then readRing s.rings.data (n - 8)
  else if 16 ≤ n ∧ n < 24 then readRing s.rings.mgmt (n - 16)
  else if 24 ≤ n ∧ n < 32 then readRing s.rings.comp (n - 24)
  else if n = 32 then s.cause
  else if n = 33 then s.irq.trigger
  else if n = 34 then s.irq.coalesce
  else if 36 ≤ n ∧ n < 40 then (s.hme.latch.map fun l => readLatch l (n - 36)).getD 0
  else 0

/-- R191: a read of CAUSE fixes its value and acknowledges ENTRIES when the value shows it; in LOADING the register reads 0 (R178). -/
def readCause (s : State) : State :=
  if s.windowOpen then s.withIrq { s.irq with causeRead := s.cause, entries := false } else s.withIrq { s.irq with causeRead := 0 }

/-! ## Restart (R193, R199) -/

/-- R193: the ring after a restart that passes its check. Its fault reason is gone, so the field reads 0 while the ring is ACTIVE: the model's choice, log entry 34. -/
def Ring.restarted (r : Ring) : Ring := { r with state := .active, reason := none, prod := 0, cons := 0, restart := false }

/-- R193: what a restart of the Completion Ring does besides the ring's own group: writing resumes from the head of the Backlog. -/
def resumeWriting (s : State) : State :=
  let s1 := s.withRings { s.rings with writePos := 0, writePhase := true }
  let s2 := s1.withIrq { s.irq with unsignalled := 0, timer := none }
  s2.withBacklog { s.backlog with entries := s.backlog.entries.map fun e => { e with write := .waiting } }

/-- R199: the condition under which a pending restart takes effect. -/
def State.restartDue (s : State) (name : RingName) : Bool :=
  s.running && (s.rings.get name).state == .faulted && (s.rings.get name).restart && s.hme.idle (ringClient name)

/-- R193, R199: a pending restart takes effect. -/
def restartEffect (name : RingName) (s : State) : State :=
  if s.restartDue name then
    match ringFaultOf name (s.rings.get name) with
    | some why => modRing name (fun r => { r with reason := some why, restart := false }) s
    | none =>
      let s' := modRing name Ring.restarted s
      match name with
      | .completion => resumeWriting s'
      | _ => s'
  else s

/-! ## The commands -/

/-- PRODUCER_INDEX_WRITE (R181). -/
def execProducerIndexWrite (ring : ReqRing) (value : Word) (s : State) : Host.Outcome State Fault Refusal := .next (writeProducer ring value s)

/-- COMPLETION_CONSUMER_INDEX_WRITE (R186). -/
def execCompletionConsumerIndexWrite (value : Word) (s : State) : Host.Outcome State Fault Refusal := .next (writeConsumer value s)

/-- RESTART (R193). -/
def execRestart (ring : RingName) (word : Word) (s : State) : Host.Outcome State Fault Refusal := .next (writeRestart ring word s)

/-- RING_RESTART_EFFECT (R199). -/
def execRingRestartEffect (ring : RingName) (s : State) : Host.Outcome State Fault Refusal := .next (restartEffect ring s)

/-- TRIGGER_LEVEL_WRITE (R190). -/
def execTriggerLevelWrite (value : Word) (s : State) : Host.Outcome State Fault Refusal := .next (writeTrigger value s)

/-- COALESCING_TIME_WRITE (R190). -/
def execCoalescingTimeWrite (value : Word) (s : State) : Host.Outcome State Fault Refusal := .next (writeCoalesce value s)

/-- FAULT_CLEAR (R175). -/
def execFaultClear (word : Word) (s : State) : Host.Outcome State Fault Refusal := .next (writeFaultClear word s)

/-- CAUSE_READ (R191). -/
def execCauseRead (s : State) : Host.Outcome State Fault Refusal := .next (readCause s)

/-- REGISTER_WRITE (R178). -/
def execRegisterWrite (index : BitVec 10) (value : Word) (s : State) : Host.Outcome State Fault Refusal := .next (writeRegister index value s)

/-- VECTOR_UNMASK (R190): a held message is sent; in LOADING, LOAD_FAILED and RESETTING nothing is sent (log entry 12). -/
def execVectorUnmask (s : State) : Host.Outcome State Fault Refusal :=
  .next (if s.irq.held && s.mayRaise then s.withIrq { s.irq with masked := false, held := false, sent := s.irq.sent + 1 }
    else s.withIrq { s.irq with masked := false })

/-- VECTOR_MASK (R190). -/
def execVectorMask (s : State) : Host.Outcome State Fault Refusal := .next (s.withIrq { s.irq with masked := true })

end Sys2Proof.Machine
end

