-- ==== Sys2Proof/Machine/Dispatch.lean ====
section
/-! DEFINITION. The dispatch of a command to its meaning: one arm for each constructor of `Instr`, one direct call each. -/

namespace Sys2Proof.Machine

/-- The effect of a command on everything but the queue. -/
def exec (i : Instr) (s : State) : Host.Outcome State Fault Refusal :=
  match i with
  | .coldReset => Sys2Proof.Machine.execColdReset s
  | .imageLoad a => Sys2Proof.Machine.execImageLoad a s
  | .run a => Sys2Proof.Machine.execRun a s
  | .functionReset a => Sys2Proof.Machine.execFunctionReset a s
  | .pcieFunctionReset => Sys2Proof.Machine.execPcieFunctionReset s
  | .drainEnd => Sys2Proof.Machine.execDrainEnd s
  | .producerIndexWrite a b => Sys2Proof.Machine.execProducerIndexWrite a b s
  | .completionConsumerIndexWrite a => Sys2Proof.Machine.execCompletionConsumerIndexWrite a s
  | .restart a b => Sys2Proof.Machine.execRestart a b s
  | .ringRestartEffect a => Sys2Proof.Machine.execRingRestartEffect a s
  | .triggerLevelWrite a => Sys2Proof.Machine.execTriggerLevelWrite a s
  | .coalescingTimeWrite a => Sys2Proof.Machine.execCoalescingTimeWrite a s
  | .faultClear a => Sys2Proof.Machine.execFaultClear a s
  | .causeRead => Sys2Proof.Machine.execCauseRead s
  | .registerWrite a b => Sys2Proof.Machine.execRegisterWrite a b s
  | .vectorUnmask => Sys2Proof.Machine.execVectorUnmask s
  | .carrierLoss => Sys2Proof.Machine.execCarrierLoss s
  | .carrierReturn => Sys2Proof.Machine.execCarrierReturn s
  | .ringFetch a => Sys2Proof.Machine.execRingFetch a s
  | .requestTake a => Sys2Proof.Machine.execRequestTake a s
  | .ringFetchFail a => Sys2Proof.Machine.execRingFetchFail a s
  | .publish a b => Sys2Proof.Machine.execPublish a b s
  | .delete a b => Sys2Proof.Machine.execDelete a b s
  | .extentTableReadDone a => Sys2Proof.Machine.execExtentTableReadDone a s
  | .extentTableReadFail a => Sys2Proof.Machine.execExtentTableReadFail a s
  | .tableControllerApply a => Sys2Proof.Machine.execTableControllerApply a s
  | .lookup a b c => Sys2Proof.Machine.execLookup a b c s
  | .lookupBatch a b => Sys2Proof.Machine.execLookupBatch a b s
  | .keyTableReadDone a => Sys2Proof.Machine.execKeyTableReadDone a s
  | .keyTableReadFail a => Sys2Proof.Machine.execKeyTableReadFail a s
  | .resultWriteDone a => Sys2Proof.Machine.execResultWriteDone a s
  | .resultWriteFail a => Sys2Proof.Machine.execResultWriteFail a s
  | .accept a b => Sys2Proof.Machine.execAccept a b s
  | .landingTableReadDone a => Sys2Proof.Machine.execLandingTableReadDone a s
  | .landingTableReadFail a => Sys2Proof.Machine.execLandingTableReadFail a s
  | .decline a b c d e => Sys2Proof.Machine.execDecline a b c d e s
  | .commit a b c d => Sys2Proof.Machine.execCommit a b c d s
  | .reject a b c d => Sys2Proof.Machine.execReject a b c d s
  | .abandon a b c d => Sys2Proof.Machine.execAbandon a b c d s
  | .retry a b c d => Sys2Proof.Machine.execRetry a b c d s
  | .defer a b c => Sys2Proof.Machine.execDefer a b c s
  | .settingsSet a b c d => Sys2Proof.Machine.execSettingsSet a b c d s
  | .settingsGet a b c => Sys2Proof.Machine.execSettingsGet a b c s
  | .regionSet a b => Sys2Proof.Machine.execRegionSet a b s
  | .regionGet a b c => Sys2Proof.Machine.execRegionGet a b c s
  | .bucketLoad a b => Sys2Proof.Machine.execBucketLoad a b s
  | .bucketDeny a b c d => Sys2Proof.Machine.execBucketDeny a b c d s
  | .bucketFlush a b c d e => Sys2Proof.Machine.execBucketFlush a b c d e s
  | .missDeadlineExpiry a => Sys2Proof.Machine.execMissDeadlineExpiry a s
  | .grant => Sys2Proof.Machine.execGrant s
  | .replyTimerExpiry a => Sys2Proof.Machine.execReplyTimerExpiry a s
  | .frameReceive a b => Sys2Proof.Machine.execFrameReceive a b s
  | .frameHeard a => Sys2Proof.Machine.execFrameHeard a s
  | .offer a b => Sys2Proof.Machine.execOffer a b s
  | .replyAccepted a b c d => Sys2Proof.Machine.execReplyAccepted a b c d s
  | .replyPending a b c => Sys2Proof.Machine.execReplyPending a b c s
  | .replyBusy a b c => Sys2Proof.Machine.execReplyBusy a b c s
  | .replyTimeout a b c => Sys2Proof.Machine.execReplyTimeout a b c s
  | .replyHave a b c => Sys2Proof.Machine.execReplyHave a b c s
  | .replyNewer a b c d => Sys2Proof.Machine.execReplyNewer a b c d s
  | .replyLanded a b c => Sys2Proof.Machine.execReplyLanded a b c s
  | .replyDeclined a b c => Sys2Proof.Machine.execReplyDeclined a b c s
  | .replyAborted a b c => Sys2Proof.Machine.execReplyAborted a b c s
  | .replyUnknownReason a b c d => Sys2Proof.Machine.execReplyUnknownReason a b c d s
  | .segmentReadIssue a => Sys2Proof.Machine.execSegmentReadIssue a s
  | .segmentReadDone a b => Sys2Proof.Machine.execSegmentReadDone a b s
  | .segmentReadFail a b => Sys2Proof.Machine.execSegmentReadFail a b s
  | .portReady => Sys2Proof.Machine.execPortReady s
  | .ack a b c d => Sys2Proof.Machine.execAck a b c d s
  | .stallTimerExpiry a => Sys2Proof.Machine.execStallTimerExpiry a s
  | .confirmCommitted a b c => Sys2Proof.Machine.execConfirmCommitted a b c s
  | .confirmRejected a b c => Sys2Proof.Machine.execConfirmRejected a b c s
  | .confirmDeadlineExpiry a => Sys2Proof.Machine.execConfirmDeadlineExpiry a s
  | .segment a b => Sys2Proof.Machine.execSegment a b s
  | .fifoWriteIssue => Sys2Proof.Machine.execFifoWriteIssue s
  | .segmentWriteDone a => Sys2Proof.Machine.execSegmentWriteDone a s
  | .segmentWriteFail a => Sys2Proof.Machine.execSegmentWriteFail a s
  | .withdraw a b c => Sys2Proof.Machine.execWithdraw a b c s
  | .acceptTimerExpiry a => Sys2Proof.Machine.execAcceptTimerExpiry a s
  | .idleTimerExpiry a => Sys2Proof.Machine.execIdleTimerExpiry a s
  | .hold a b => Sys2Proof.Machine.execHold a b s
  | .resume a => Sys2Proof.Machine.execResume a s
  | .probe a => Sys2Proof.Machine.execProbe a s
  | .echo a => Sys2Proof.Machine.execEcho a s
  | .probeTimerExpiry => Sys2Proof.Machine.execProbeTimerExpiry s
  | .backoffExpiry a => Sys2Proof.Machine.execBackoffExpiry a s
  | .holdExpiry a => Sys2Proof.Machine.execHoldExpiry a s
  | .paceWindowEnd a => Sys2Proof.Machine.execPaceWindowEnd a s
  | .lingerExpiry a => Sys2Proof.Machine.execLingerExpiry a s
  | .completionEntryHand => Sys2Proof.Machine.execCompletionEntryHand s
  | .completionWriteDone a => Sys2Proof.Machine.execCompletionWriteDone a s
  | .completionWriteFail a => Sys2Proof.Machine.execCompletionWriteFail a s
  | .coalescingTimerExpiry => Sys2Proof.Machine.execCoalescingTimerExpiry s
  | .burstIssue => Sys2Proof.Machine.execBurstIssue s
  | .burstComplete a b => Sys2Proof.Machine.execBurstComplete a b s
  | .burstFail a b => Sys2Proof.Machine.execBurstFail a b s
  | .burstTimeout a => Sys2Proof.Machine.execBurstTimeout a s
  | .vectorMask => Sys2Proof.Machine.execVectorMask s

end Sys2Proof.Machine
end

