-- ==== Sys2Proof/Safety.lean ====
section
/-! DEFINITION. The vocabulary of the statements: what a command may touch, how a completion and a notice are seen in the Backlog, how a transfer ends, which commands need which condition, and the invariants of the machine. -/

namespace Sys2Proof.Machine

/-! ## Frames: what a command leaves as it was -/

/-- The blocks of the state, one for each field of `State`. -/
inductive Block where
  | clock
  | startUp
  | settings
  | rings
  | backlog
  | irq
  | requests
  | cache
  | table
  | lists
  | contexts
  | staging
  | regions
  | port
  | engine
  | queue
  deriving DecidableEq, Repr

/-- The block holds in `t` what it holds in `s`. -/
def Block.same (s t : State) : Block → Prop
  | .clock => t.now = s.now
  | .startUp => t.start = s.start
  | .settings => t.settings = s.settings
  | .rings => t.rings = s.rings
  | .backlog => t.backlog = s.backlog
  | .irq => t.irq = s.irq
  | .requests => t.reqs = s.reqs
  | .cache => t.bmc = s.bmc
  | .table => t.table = s.table
  | .lists => t.sched = s.sched
  | .contexts => t.pool = s.pool
  | .staging => t.inbound = s.inbound
  | .regions => t.regions = s.regions
  | .port => t.wan = s.wan
  | .engine => t.hme = s.hme
  | .queue => t.pending = s.pending

/-- Every block but the named ones is as it was. -/
def KeepsAllBut (touched : List Block) (s t : State) : Prop := ∀ b : Block, b ∉ touched → b.same s t

/-- Every record but that of the key is as it was. -/
def OtherRecords (k : Key) (s t : State) : Prop := ∀ q, q ≠ k → t.table.find q = s.table.find q

/-- Every context but one is as it was. -/
def OtherContexts (c : CtxNo) (s t : State) : Prop := ∀ d, d ≠ c → t.ctx d = s.ctx d

/-- Every region's entry but one is as it was. -/
def OtherRegions (x : Region) (s t : State) : Prop := ∀ y, y ≠ x → t.region y = s.region y

/-- The Work Queue and Confirm List of every region but one are as they were. -/
def OtherLists (x : Region) (s t : State) : Prop :=
  ∀ y, y ≠ x → vget t.sched.work y = vget s.sched.work y ∧ vget t.sched.confirm y = vget s.sched.confirm y

/-- Every ring's group but one is as it was, and so are the write position and phase. -/
def OtherRings (name : RingName) (s t : State) : Prop :=
  (∀ other, other ≠ name → t.rings.get other = s.rings.get other) ∧ t.rings.writePos = s.rings.writePos ∧ t.rings.writePhase = s.rings.writePhase

/-! ## Completions and notices as the Backlog shows them -/

/-- Entries as they stand in the Backlog before they are handed on (R186). -/
def waitingEntries (bodies : List EntryBody) : List BacklogEntry := bodies.map fun b => { body := b, write := .waiting }

/-- The state with one completion at the Backlog's tail and its reservation become that entry, for a request taken and completed in one claim (R185):
the reservation added at the take is the one the completion uses, so the count stands. -/
def State.answered (s : State) (ring : ReqRing) (tag : Word) (kind : Nat) (status : Status) (body : CompBody) : State :=
  let entry : EntryBody := .completion { ring := ring, tag := tag, kind := BitVec.ofNat 8 kind, status := status, body := body }
  s.withBacklog { s.backlog with entries := s.backlog.entries ++ waitingEntries [entry] }

/-- The completion stands at the tail of `t`'s Backlog, after the entries `s` held and those the claim itself placed before it (R58). -/
def CompletedLast (ring : ReqRing) (tag : Word) (kind : Nat) (status : Status) (body : CompBody) (s t : State) : Prop :=
  ∃ between, t.backlog.entries = s.backlog.entries ++ between ++
    waitingEntries [.completion { ring := ring, tag := tag, kind := BitVec.ofNat 8 kind, status := status, body := body }]

/-- The completion of a request in flight is the only change of the Backlog: it takes the tail and its reservation is gone (R185). -/
def Completed (ring : ReqRing) (tag : Word) (kind : Nat) (status : Status) (body : CompBody) (s t : State) : Prop :=
  t.backlog = { s.backlog with
    entries := s.backlog.entries ++
      waitingEntries [.completion { ring := ring, tag := tag, kind := BitVec.ofNat 8 kind, status := status, body := body }],
    reservations := s.backlog.reservations - 1 }

/-- A request in flight completes as the first of the entries that the claim adds. -/
def CompletedFirst (ring : ReqRing) (tag : Word) (kind : Nat) (status : Status) (body : CompBody) (s t : State) : Prop :=
  ∃ more, t.backlog.entries = s.backlog.entries ++
    waitingEntries [.completion { ring := ring, tag := tag, kind := BitVec.ofNat 8 kind, status := status, body := body }] ++ more

/-- R20, R21: the pressure state, the last reported one and the owed pressure flag are as they were. -/
def PressureKept (s t : State) : Prop :=
  t.table.rising = s.table.rising ∧ t.table.lastReported = s.table.lastReported ∧ t.backlog.owedPressure = s.backlog.owedPressure

/-- The Linger List and the pressure state are as they were. -/
def TableRestKept (s t : State) : Prop := t.table.linger = s.table.linger ∧ PressureKept s t

/-- R20: the pressure state after the record count was compared with the mark. -/
def pressureAfter (rising : Bool) (mark count : Nat) : Bool := if rising = true then decide (mark - 8192 ≤ count) else decide (mark ≤ count)

/-- R20, R21: the record count is compared with the pressure mark in force once the claim is complete. A change of the pressure state is reported by `es`, the entry of one PRESSURE
notice, when there is room for it, and is left owed otherwise. -/
def PressureCompared (room : Prop) (es : List BacklogEntry) (s t : State) : Prop :=
  let count := t.table.records.length
  t.table.rising = pressureAfter s.table.rising (t.setting 12) count ∧
  (t.table.rising = s.table.rising → es = [] ∧ PressureKept s t) ∧
  (t.table.rising ≠ s.table.rising →
    (room → es = waitingEntries [.notice (.pressure t.table.rising count) false] ∧ t.table.lastReported = t.table.rising ∧
      t.backlog.owedPressure = s.backlog.owedPressure) ∧
    (¬ room → es = [] ∧ t.table.lastReported = s.table.lastReported ∧ t.backlog.owedPressure = true))

/-- R187: no notice is owed and `n` places are free. -/
def State.hasRoom (s : State) (n : Nat) : Prop := s.fits n = true

/-- The entries of several notices, one notice after the other. -/
def entriesOf (ns : List Notice) : List EntryBody := ns.flatMap Notice.bodies

/-- The Owed List with the record on it. -/
def owedWith (k : Key) (owed : List Key) : List Key := if k ∈ owed then owed else owed ++ [k]

/-- The cancel that a record keeps owed (R187). -/
def State.owedCancel (s : State) (k : Key) : Option (Version × CancelReason) := (s.table.find k).bind (·.owedCancel)

/-- R187: the cancel a record keeps owed once a notice on it could not be placed: that of an IN_CANCELLED, or the one it had. -/
def cancelOwed (had : Option (Version × CancelReason)) (n : Notice) : Option (Version × CancelReason) := match n with
  | .inCancelled _ v why => some (v, why)
  | _ => had

/-- The record of the key, where it still stands, is owed as it was. -/
def OwedKept (k : Key) (s t : State) : Prop :=
  ∀ q, t.table.find k = some q → q.owedCancel = s.owedCancel k ∧ ∀ r, s.table.find k = some r → q.owed = r.owed

/-- R187, R19: the notices that one claim gives on a record, in their order. Those that fit stand at the Backlog's tail, up to the first that does not fit; from that one on none is
placed, the record is owed and on the Owed List, and keeps the cancel of an IN_CANCELLED among them. `es` and the entries of `tail` follow. -/
def NoticesGiven (room : Nat → Prop) (k : Key) (ns : List Notice) (es : List BacklogEntry) (tail : List EntryBody) (s t : State) : Prop :=
  ∃ placed left, ns = placed ++ left ∧
    t.backlog.entries = s.backlog.entries ++ waitingEntries (entriesOf placed) ++ es ++ waitingEntries tail ∧
    (placed ≠ [] → room (entriesOf placed).length) ∧
    (left = [] → t.backlog.owedList = s.backlog.owedList ∧ OwedKept k s t) ∧
    (∀ n rest, left = n :: rest → ¬ room ((entriesOf placed).length + n.bodies.length) ∧ es = [] ∧ t.backlog.owedList = owedWith k s.backlog.owedList ∧
      ∃ r, t.table.find k = some r ∧ r.owed = true ∧ r.owedCancel = left.foldl cancelOwed (s.owedCancel k))

/-- R187: the notices of a claim that leaves the record count alone. -/
def RecordNotices (room : Nat → Prop) (k : Key) (ns : List Notice) (tail : List EntryBody) (s t : State) : Prop := NoticesGiven room k ns [] tail s t ∧ PressureKept s t

/-- R187, R20, R21: the notices of a claim that compares the record count with the pressure mark. A PRESSURE notice fits behind them when all of them do and one place more is free. -/
def RecordNoticesCompared (room : Nat → Prop) (k : Key) (ns : List Notice) (tail : List EntryBody) (s t : State) : Prop :=
  ∃ es, NoticesGiven room k ns es tail s t ∧ PressureCompared (room ((entriesOf ns).length + 1)) es s t

/-- The room a request leaves once it is taken under the conditions of R182, its own reservation counted (R185). -/
def State.roomOnceTaken (s : State) (n : Nat) : Prop := s.backlog.entries.length + s.backlog.reservations + 1 + n ≤ 64

/-- R162: a control frame presented to the port stands at the queue's tail, or is dropped: to a SUSPENDED region, without carrier, or with 128 frames waiting. -/
def FrameSent (x : Region) (body : CtlBody) (s t : State) : Prop :=
  if (s.region x).state = .suspended ∨ s.wan.carrier = false ∨ 128 ≤ s.wan.queue.length then t.wan.queue = s.wan.queue
  else t.wan.queue = s.wan.queue ++ [{ dest := x, body := body }]

/-- R162: control frames presented to the port one after the other, each placed at the queue's tail or dropped. -/
def FramesSent (frames : List CtlFrame) (s t : State) : Prop :=
  t.wan.queue = frames.foldl (fun queue f =>
    if (s.region f.dest).state = .suspended ∨ s.wan.carrier = false ∨ 128 ≤ queue.length then queue else queue ++ [f]) s.wan.queue

/-! ## The interrupt and the engine -/

/-- R190: one message sent, or held while the vector is masked. -/
def MessageRaised (before after : Irq) : Prop :=
  after = if before.masked = true then { before with held := true } else { before with sent := before.sent + 1 }

/-- R192, R190: the ring has become FAULTED with the reason, every other ring is as it was, and a message is raised unless RING_FAULT was pending before. -/
def RingFaulted (name : RingName) (why : RingReason) (s t : State) : Prop :=
  t.rings.get name = { s.rings.get name with state := .faulted, reason := some why } ∧ OtherRings name s t ∧
  (s.ringFaultPending = true → t.irq = s.irq) ∧ (s.ringFaultPending = false → MessageRaised s.irq t.irq)

/-- R169: one operation has joined the tail of its client's queue, with its bursts not issued; the engine is else as it was. -/
def OperationAdded (use : OpUse) (bursts : List Burst) (before after : Hme) : Prop :=
  after = { before with ops := before.ops ++ [{ id := before.nextOp, use := use, bursts := bursts, failure := none }], nextOp := before.nextOp + 1 }

/-- The engine without the operation of that number. -/
def Hme.without (h : Hme) (id : Nat) : Hme := { h with ops := h.ops.filter fun op => op.id != id }

/-! ## The end of an outbound context (R87) -/

/-- A read of the context is in flight that R176 does not drop: one of its buffers is reading, and the read of that buffer is not an operation with no burst issued. -/
def ReadsLeft (c : CtxNo) (o : OutCtx) (s : State) : Prop :=
  ∃ b : Fin 2, (vget o.bufs b).isReading = true ∧ ¬ ∃ op ∈ s.hme.ops, op.use = .segRead c b ∧ op.untouched = true

/-- R87: the context is FREE, or ABORTING without a timer while reads are left. -/
def ContextEnded (c : CtxNo) (o : OutCtx) (s t : State) : Prop :=
  (¬ ReadsLeft c o s → t.ctx c = .free) ∧
  (ReadsLeft c o s → ∃ e, t.ctx c = .out e ∧ e.state = .aborting ∧ e.timer = none ∧ e.key = o.key ∧ e.version = o.version ∧ e.dest = o.dest ∧
    ∀ b : Fin 2, (∀ ch g d, vget o.bufs b = .reading ch g d → vget e.bufs b = .free ∨ vget e.bufs b = .reading ch g true) ∧
      ((vget o.bufs b).isReading = false → vget e.bufs b = .free))

/-- R87, R165, R176: the context has ended; it has no grant; its reads with no burst issued are dropped; no other context changes. -/
def OutboundEnded (c : CtxNo) (o : OutCtx) (s t : State) : Prop :=
  ContextEnded c o s t ∧ OtherContexts c s t ∧ t.wan.holder ≠ some c ∧ (s.wan.holder ≠ some c → t.wan.holder = s.wan.holder) ∧
  (∀ op, op ∈ t.hme.ops ↔ op ∈ s.hme.ops ∧ ¬ (op.use.readsFor c = true ∧ op.untouched = true))

/-- The outbound context that a frame from its region names (R88), and the LOCAL OPEN record it serves. -/
def Serves (s : State) (c : CtxNo) (o : OutCtx) (r : Record) : Prop :=
  s.outboundFor o.dest o.key o.version = some c ∧ s.ctx c = .out o ∧ s.table.find o.key = some r ∧ r.role = .localRole ∧ r.state = .opened

/-- A slot with the given state, its retry count kept, bound to no context and with no failure reason (R61). -/
def Slot.moved (sl : Slot) (st : SlotState) : Slot := { state := st, retries := sl.retries, ctx := none, reason := none }

/-- The record with one slot replaced. -/
def Record.withSlot (r : Record) (x : Region) (sl : Slot) : Record := { r with slots := vset r.slots x sl }

/-- A record's fields but for its owed mark and owed cancel. -/
def Record.sameBody (r q : Record) : Prop := { q with owed := r.owed, owedCancel := r.owedCancel } = r

/-- R10, R11: the record, as it stands in the claim, is due, SETTLED and not owed, nothing on it is left owed by the claim itself, and no context holds its key any more. -/
def Retires (unowed : Prop) (r : Record) (s t : State) : Prop :=
  unowed ∧ r.state = .settled ∧ (∃ d, r.linger = some d ∧ d ≤ s.now) ∧ r.owed = false ∧ ∀ c, (t.ctx c).key ≠ some r.key

/-- R12: the record is gone from its place and from the Linger List. -/
def Retired (k : Key) (s t : State) : Prop := t.table.find k = none ∧ t.table.linger = s.table.linger.filter fun q => q != k

/-- R10, R12: the record stands as given, but for what is owed of it, or is retired as it may be. -/
def StandsOrRetires (unowed : Prop) (r : Record) (s t : State) : Prop :=
  (Retires unowed r s t → Retired r.key s t) ∧
  (¬ Retires unowed r s t → (∃ q, t.table.find r.key = some q ∧ Record.sameBody r q) ∧ t.table.linger = s.table.linger)

/-- R9: the record joins the Linger List behind every record whose deadline is not later. -/
def JoinsLinger (k : Key) (s t : State) : Prop :=
  ∃ before after, s.table.linger = before ++ after ∧ t.table.linger = before ++ k :: after ∧
    (∀ q ∈ before, ∀ r d, s.table.find q = some r → r.linger = some d → d ≤ s.now + s.settingTime 10) ∧
    (∀ q, after.head? = some q → ∃ r d, s.table.find q = some r ∧ r.linger = some d ∧ s.now + s.settingTime 10 < d)

/-- The record as it settles (R9). -/
def Record.settledAs (r : Record) (o : Settle) (s : State) : Record :=
  { r with state := .settled, outcome := some o, linger := some (s.now + s.settingTime 10) }

/-- R9, R10, R12: a record has settled with the outcome and joined the Linger List, or, due at once, is already retired. -/
def SettledOrRetired (unowed : Prop) (r : Record) (o : Settle) (s t : State) : Prop :=
  let settled := r.settledAs o s
  (Retires unowed settled s t → Retired r.key s t) ∧
  (¬ Retires unowed settled s t → (∃ q, t.table.find r.key = some q ∧ Record.sameBody settled q) ∧ JoinsLinger r.key s t)

/-- R6, R9, R76, R77, R20: what becomes of a LOCAL OPEN record, given as it stands once one of its slots has become final. With an open slot left it stays so. Otherwise it settles
CONVERGED with its SETTLED notice, and is retired if it is due at once. Either way the record count is compared with the pressure mark. -/
def SettledWhenLast (room : Nat → Prop) (r : Record) (tail : List EntryBody) (s t : State) : Prop :=
  if r.allFinal = true then
    SettledOrRetired (room (settledNotice r).bodies.length) r .converged s t ∧ RecordNoticesCompared room r.key [settledNotice r] tail s t
  else t.table.find r.key = some r ∧ t.table.linger = s.table.linger ∧ RecordNoticesCompared room r.key [] tail s t

/-- R63: the record joins the tail of a region's Work Queue; no other list changes. -/
def JoinsWork (x : Region) (k : Key) (s t : State) : Prop := t.sched = { s.sched with work := vset s.sched.work x (vget s.sched.work x ++ [k]) }

/-- R65: the record leaves a region's Work Queue; no other list changes. -/
def LeavesWork (x : Region) (k : Key) (s t : State) : Prop :=
  t.sched = { s.sched with work := vset s.sched.work x ((vget s.sched.work x).filter fun q => q != k) }

/-- R66: the record joins a region's Confirm List with its deadline, behind every entry whose deadline is not later; no other list changes. -/
def JoinsConfirm (x : Region) (k : Key) (s t : State) : Prop :=
  ∃ before after, vget s.sched.confirm x = before ++ after ∧ (∀ e ∈ before, e.deadline ≤ s.now + s.settingTime 5) ∧
    (∀ e, after.head? = some e → s.now + s.settingTime 5 < e.deadline) ∧
    t.sched = { s.sched with confirm := vset s.sched.confirm x (before ++ { key := k, deadline := s.now + s.settingTime 5 } :: after) }

/-- R67: the record leaves a region's Confirm List; no other list changes. -/
def LeavesConfirm (x : Region) (k : Key) (s t : State) : Prop :=
  t.sched = { s.sched with confirm := vset s.sched.confirm x ((vget s.sched.confirm x).filter fun e => e.key != k) }

/-- R105, R143, R145: the claim ends every outbound context in OFFERING or SENDING to the regions named. Each slot becomes PENDING with its retry count kept, and its record joins the tail
of the region's Work Queue in the order in which the contexts were bound; nothing is sent for it. A SETTLED record with such a context is left out: no slot of a SETTLED record is bound (R61). -/
def TransfersCalledOff (named : Region → Prop) (s t : State) : Prop :=
  let bound := fun (c : CtxNo) (o : OutCtx) => s.ctx c = .out o ∧ o.state ≠ .aborting ∧ named o.dest
  let boundFor := fun (k : Key) (x : Region) => named x ∧ ∃ c o, bound c o ∧ o.dest = x ∧ o.key = k
  (∀ c o, bound c o → ContextEnded c o s t ∧ t.wan.holder ≠ some c) ∧ (∀ c, (∀ o, ¬ bound c o) → t.ctx c = s.ctx c) ∧ t.pool.nextOrder = s.pool.nextOrder ∧
  ((∀ c o, bound c o → s.wan.holder ≠ some c) → t.wan.holder = s.wan.holder) ∧ t.wan = { s.wan with queue := t.wan.queue, holder := t.wan.holder } ∧
  (∀ op, op ∈ t.hme.ops ↔ op ∈ s.hme.ops ∧ ¬ ∃ c o, bound c o ∧ op.use.readsFor c = true ∧ op.untouched = true) ∧
  t.hme = { s.hme with ops := t.hme.ops } ∧
  t.sched = { s.sched with work := t.sched.work } ∧ (∀ x, ¬ named x → vget t.sched.work x = vget s.sched.work x) ∧
  (∀ (x : Region) (ps : List (CtxNo × OutCtx)), named x → (∀ p, p ∈ ps ↔ bound p.1 p.2 ∧ p.2.dest = x) → (ps.Pairwise fun a b => a.2.order < b.2.order) →
    vget t.sched.work x = vget s.sched.work x ++ ps.map fun p => p.2.key) ∧
  (∀ k r, s.table.find k = some r → r.state ≠ .settled → ∃ q, t.table.find k = some q ∧ { q with slots := r.slots } = r ∧
    ∀ x, (boundFor k x → vget q.slots x = (vget r.slots x).moved .pending) ∧ (¬ boundFor k x → vget q.slots x = vget r.slots x)) ∧
  (∀ k, (∀ x, ¬ boundFor k x) → t.table.find k = s.table.find k) ∧
  ((∀ k r, s.table.find k = some r → r.state = .settled → ∀ x, ¬ boundFor k x) → TableRestKept s t)

/-- R78: a slot of the record has become FAILED with the reason and retry count, bound to no context, and SLOT_FAILED is given. -/
def SlotFails (r : Record) (x : Region) (why : FailReason) (retries : Nat) (s t : State) : Prop :=
  (∃ q, t.table.find r.key = some q ∧ Record.sameBody (r.withSlot x { state := .failed, retries := retries, ctx := none, reason := some why }) q) ∧
  RecordNotices s.hasRoom r.key [.slotFailed r.key r.version x why retries] [] s t

/-- R89: a counted retry of the slot that context `c` serves. At the limit the slot fails with reason RETRIES and the context ends; below it, `move` holds of the new count. -/
def RetryCounted (c : CtxNo) (o : OutCtx) (r : Record) (s t : State) (move : Nat → Prop) : Prop :=
  let n := (vget r.slots o.dest).retries + 1
  (n < s.setting 2 → move n) ∧
  (s.setting 2 ≤ n → SlotFails r o.dest .retries n s t ∧ OutboundEnded c o s t ∧ t.sched = s.sched)

/-- R103, R149: what a change of a region's sendability does to the contexts SENDING to it: their stall timer starts in full, or stops; nothing else of the pool changes. -/
def SendabilityHandedOn (x : Region) (s t : State) : Prop :=
  (t.sendable x = s.sendable x → t.pool = s.pool) ∧
  (t.sendable x ≠ s.sendable x → t.pool.nextOrder = s.pool.nextOrder ∧
    ∀ c, t.ctx c = match s.ctx c with
      | .out o =>
        if o.state = .sending ∧ o.dest = x then
          .out { o with timer := if t.sendable x = true ∧ o.acked < o.next then some (s.now + s.settingTime 0) else none }
        else .out o
      | other => other)

/-! ## Publishing (R28 to R50) -/

/-- The code of a PUBLISH or DELETE (section 12.3). -/
def Pub.code (p : Pub) : Nat := match p.kind with
  | .content => 0x01
  | .tombstone => 0x02

/-- An entry of that bucket key stands at the position, and none at a lower one (R26 allows one for each key). -/
def HitAt (s : State) (key : Key) (i : Fin 32) (e : BucketEntry) : Prop :=
  vget s.bmc.entries i = some e ∧ e.tenant = key.tenant ∧ e.bucket = key.bucket ∧
    ∀ j f, j < i → vget s.bmc.entries j = some f → ¬ (f.tenant = key.tenant ∧ f.bucket = key.bucket)

/-- No entry has that bucket key. -/
def MissFor (s : State) (key : Key) : Prop := ∀ i e, vget s.bmc.entries i = some e → ¬ (e.tenant = key.tenant ∧ e.bucket = key.bucket)

/-- Some place of the Miss Hold other than `n` holds a request of that bucket key. -/
def ParkedElsewhere (s : State) (n : Fin 4) (key : Key) : Prop :=
  ∃ m p, m ≠ n ∧ vget s.bmc.hold m = some p ∧ p.pub.key.tenant = key.tenant ∧ p.pub.key.bucket = key.bucket

/-- The lowest-numbered free place of the Miss Hold. -/
def LowestFreePlace (s : State) (n : Fin 4) : Prop := vget s.bmc.hold n = none ∧ ∀ m, m < n → vget s.bmc.hold m ≠ none

/-- R48: the detail and index of a table that is not good: those of the first extent that fails a condition, or SUM. -/
def TableFails (xs : List Extent) (size : Nat) (d : ExtentDetail) (i : Nat) : Prop :=
  let fits := fun e : Extent => e.len ≠ 0 ∧ e.addr.toNat + e.len.toNat ≤ 2 ^ 64
  (∃ e, xs[i]? = some e ∧ (∀ j f, j < i → xs[j]? = some f → fits f) ∧
    ((d = .zeroLength ∧ e.len = 0) ∨ (d = .wrap ∧ e.len ≠ 0 ∧ 2 ^ 64 < e.addr.toNat + e.len.toNat))) ∨
  ((∀ e ∈ xs, fits e) ∧ d = .sum ∧ i = 0 ∧ (xs.map fun e => e.len.toNat).sum ≠ size)

/-- R48: every extent is non-empty and below the top of the address space, and the lengths sum to the size. -/
def TableGood (xs : List Extent) (size : Nat) : Prop :=
  (∀ e ∈ xs, e.len ≠ 0 ∧ e.addr.toNat + e.len.toNat ≤ 2 ^ 64) ∧ (xs.map fun e => e.len.toNat).sum = size

/-- R31: the place is free; its owed flag, if set, stands at the lowest-numbered other place of the bucket key, if there is one; nothing else of the cache changes. -/
def PlaceFreed (n : Fin 4) (p : Parked) (s t : State) : Prop :=
  vget t.bmc.hold n = none ∧
  (∀ m, m ≠ n → vget s.bmc.hold m = none → vget t.bmc.hold m = none) ∧
  (∀ m q, m ≠ n → vget s.bmc.hold m = some q →
    let inherits := p.owed = true ∧ q.bucket = p.bucket ∧ ∀ l u, l < m → l ≠ n → vget s.bmc.hold l = some u → u.bucket ≠ p.bucket
    (inherits → vget t.bmc.hold m = some { q with owed := true }) ∧ (¬ inherits → vget t.bmc.hold m = some q)) ∧
  t.bmc.entries = s.bmc.entries ∧ t.bmc.pointer = s.bmc.pointer ∧ t.bmc.recent = s.bmc.recent ∧ t.bmc.nextOrder = s.bmc.nextOrder

/-- R29, R50: how a resumed request with a good table ends at its turn, when its placement refuses it. -/
def Pub.refusal (p : Pub) : Option (Status × CompBody) :=
  match p.stage with
  | .placed pl _ => if pl.readOnly = true then some (.readOnly, .plain) else if pl.maxSize.toNat < p.size then some (.tooLarge, .maxSize pl.maxSize.toNat) else none
  | _ => none

/-- R50: a resumed request handed to the Table Controller. -/
def Pub.turned (p : Pub) : Pub :=
  match p.stage with
  | .placed pl _ => { p with stage := .ready pl }
  | _ => p

/-- The completion of a PUBLISH or DELETE as an entry of the Backlog. -/
def Pub.completion (p : Pub) (status : Status) (body : CompBody) : EntryBody :=
  .completion { ring := p.ring, tag := p.tag, kind := BitVec.ofNat 8 p.code, status := status, body := body }

/-- R38: the requests of a load whose turn has come: in park order, up to the first whose extent table is still being read. -/
def turnsOf (load : Nat) (pubs : List Pub) : List Pub := (pubs.filter (Pub.waitsIn load)).takeWhile fun p => p.extents != .reading

/-- R38: the requests in flight `pubs` but that those of `turn` have had theirs: the refused ones are gone, their completions behind the entries `first`, and the others are ready. -/
def HandedOn (first : List EntryBody) (turn : List Pub) (last : List EntryBody) (pubs : List Pub) (s t : State) : Prop :=
  let done := first ++ turn.filterMap fun p => p.refusal.map fun x => p.completion x.1 x.2
  t.backlog = { s.backlog with entries := s.backlog.entries ++ waitingEntries (done ++ last), reservations := s.backlog.reservations - done.length } ∧
  t.reqs.pubs = pubs.filterMap fun w => match turn.find? fun v => v.id == w.id with
    | none => some w
    | some v => if v.refusal.isSome = true then none else some v.turned

/-! ## Inbound transfers (R110 to R135) -/

/-- R119: the record stands OFFERED at the version, with its bound context. -/
def OfferStands (s : State) (k : Key) (v : Version) (r : Record) (c : CtxNo) : Prop :=
  s.table.find k = some r ∧ r.role = .remoteRole ∧ r.version = v ∧ r.state = .offered ∧ r.inbound = some c

/-- R119 step 3: no offer stands; the status and the fields of the refusal. -/
def NoOfferStands (s : State) (k : Key) (v : Version) (status : Status) (body : CompBody) : Prop :=
  (s.table.find k = none ∧ status = .noOffer ∧ body = .plain) ∨
  ∃ r, s.table.find k = some r ∧ body = .versionState r.version r.state ∧
    ((r.role = .remoteRole ∧ r.version = v ∧ r.state = .waiting ∧ status = .lapsed) ∨
     (¬ (r.role = .remoteRole ∧ r.version = v ∧ (r.state = .waiting ∨ r.state = .offered)) ∧ status = .noOffer))

/-- R119 steps 3 and 4: an ACCEPT with its landing table is refused, with its status and fields. -/
def AcceptRefused (s : State) (q : AcceptReq) (xs : List Extent) (status : Status) (body : CompBody) : Prop :=
  NoOfferStands s q.key q.version status body ∨
  ∃ r c, OfferStands s q.key q.version r c ∧ status = .badExtents ∧
    ((16 < q.extentCount.toNat ∧ body = .extents .count 0) ∨
     (q.extentCount.toNat ≤ 16 ∧ ∃ d i, TableFails xs r.size d i ∧ body = .extents d i))

/-- R119 steps 3 and 4: an ACCEPT with its landing table passes. -/
def AcceptPasses (s : State) (q : AcceptReq) (xs : List Extent) (r : Record) (c : CtxNo) : Prop :=
  OfferStands s q.key q.version r c ∧ q.extentCount.toNat ≤ 16 ∧ TableGood xs r.size

/-- R120: the effect of an ACCEPT that passes, but for its completion: RECEIVING with the idle timer, or for size 0 LANDED with the context FREE; REPLY ACCEPTED either way. -/
def AcceptApplied (r : Record) (c : CtxNo) (i : InCtx) (xs : List Extent) (s t : State) : Prop :=
  OtherRecords r.key s t ∧ OtherContexts c s t ∧ FrameSent (regionOf r.version.origin) (.reply r.key r.version .accepted 0 none) s t ∧
  TableRestKept s t ∧
  (0 < r.size → t.table.find r.key = some { r with state := .receiving } ∧
    t.ctx c = .inb { i with state := .receiving, landing := xs, expected := 0, acked := 0, received := Vector.replicate 32 none,
                            timer := some (s.now + s.settingTime 4) }) ∧
  (r.size = 0 → (∃ q, t.table.find r.key = some q ∧ Record.sameBody { r with state := .landed, inbound := none } q) ∧ t.ctx c = .free)

/-- R9, R121, R132: a REMOTE record has settled with the outcome, owed as it was; or, due at once, it is already retired. -/
def RemoteSettled (r : Record) (o : Settle) (s t : State) : Prop := SettledOrRetired True r o s t ∧ OwedKept r.key s t

/-- R134: an entry of the context stays in the FIFO through a cancel: its write is out, with a burst issued. -/
def WriteStays (s : State) (c : CtxNo) (e : FifoEntry) : Prop :=
  e.ctx ≠ c ∨ ∃ id, e.op = some id ∧ ¬ ∃ o ∈ s.hme.ops, o.id = id ∧ o.untouched = true

/-- R134: the waiting entries of an inbound context and its writes with no burst issued are gone from the Staging FIFO and the engine. -/
def StagingCancelled (c : CtxNo) (s t : State) : Prop :=
  (∀ e, e ∈ t.inbound.fifo ↔ e ∈ s.inbound.fifo ∧ WriteStays s c e) ∧
  (∀ o, o ∈ t.hme.ops ↔ o ∈ s.hme.ops ∧ ¬ (o.use = .segWrite c ∧ o.untouched = true))

/-- R134: a cancel with drain of the context leaves it no writes: it becomes FREE at once. -/
def DrainedAtOnce (s : State) (c : CtxNo) : Prop := ∀ e ∈ s.inbound.fifo, e.ctx = c → ¬ WriteStays s c e

/-- R134: the context as it drains. -/
def InCtx.drainingFor (i : InCtx) (why : CancelReason) : InCtx :=
  { i with state := .draining, timer := none, received := Vector.replicate 32 none, carried := none, cancel := some why }

/-- R134: cancel with drain of an inbound context: its staging is cancelled; with writes left it is DRAINING with the reason, and otherwise FREE. -/
def CancelledWithDrain (c : CtxNo) (i : InCtx) (why : CancelReason) (s t : State) : Prop :=
  StagingCancelled c s t ∧ OtherContexts c s t ∧
  ((∃ e ∈ t.inbound.fifo, e.ctx = c) → t.ctx c = .inb (i.drainingFor why)) ∧
  ((∀ e ∈ t.inbound.fifo, e.ctx ≠ c) → t.ctx c = .free)

/-- R7, R134: the record after a cancel with drain of its context, and its IN_CANCELLED notice, given at once when no write is left. -/
def CancelledRecord (r : Record) (c : CtxNo) (version : Version) (why : CancelReason) (s t : State) : Prop :=
  ((∃ e ∈ t.inbound.fifo, e.ctx = c) → t.table.find r.key = some { r with state := .waiting } ∧ t.backlog = s.backlog ∧
    PressureKept s t) ∧
  ((∀ e ∈ t.inbound.fifo, e.ctx ≠ c) →
    (∃ q, t.table.find r.key = some q ∧ Record.sameBody { r with state := .waiting, inbound := none } q) ∧
    RecordNotices s.hasRoom r.key [.inCancelled r.key version why] [] s t)

/-- R130: while holding, a segment from the region draws a HOLD: none was sent to it, or one longer ago than half the hold time. -/
def HoldDue (x : Region) (s : State) : Prop :=
  s.inbound.holding = true ∧ ∀ at_, vget s.inbound.holdSent x = some at_ → s.settingTime 9 < 2 * (s.now - at_)

/-- R131: holding has ended when the occupancy of the Staging FIFO is down to 16, with every hold-sent flag cleared; else both are as they were. -/
def HoldingFollows (s t : State) : Prop :=
  let ends := s.inbound.holding = true ∧ t.inbound.fifo.length ≤ 16
  (ends → t.inbound.holding = false ∧ ∀ x, vget t.inbound.holdSent x = none) ∧
  (¬ ends → t.inbound.holding = s.inbound.holding ∧ t.inbound.holdSent = s.inbound.holdSent)

/-- R131: the RESUME frames that a fall of the occupancy to `n` entries calls for: one to every region whose hold-sent flag is set, in rising order (log entry 17). -/
def State.resumesAt (s : State) (n : Nat) : List CtlFrame :=
  if s.inbound.holding = true ∧ n ≤ 16 then ((List.finRange 8).filter fun x => (vget s.inbound.holdSent x).isSome).map fun x => { dest := x, body := .resume } else []

/-! ## Supersede (R16 to R19) -/

/-- R16 step 1: the outbound contexts bound to the record's slots. -/
def BoundOut (s : State) (r : Record) (c : CtxNo) (o : OutCtx) : Prop := (∃ x, (vget r.slots x).ctx = some c) ∧ s.ctx c = .out o

/-- R16 step 2: the inbound context bound to the record of that key, in AWAIT_HOST or RECEIVING, and no slot bound, as R1 has it of a REMOTE record. -/
def BoundIn (s : State) (r : Record) (c : CtxNo) (i : InCtx) : Prop :=
  r.inbound = some c ∧ s.ctx c = .inb i ∧ i.state ≠ .draining ∧ i.key = r.key ∧ i.version = r.version ∧ ∀ x, (vget r.slots x).ctx = none

/-- R16 step 2: the inbound context bound to the record drains already. -/
def DrainsAlready (s : State) (r : Record) : Prop := ∃ c i, r.inbound = some c ∧ s.ctx c = .inb i ∧ i.state = .draining

/-- R19: the notices a supersede of the record by the version gives in its claim, by the row of the table: SUPERSEDED, or IN_CANCELLED with reason SUPERSEDED, or none. -/
def SupersedeGives (r : Record) (v : Version) (role : Role) (s : State) (given : List Notice) : Prop :=
  let cancelled : Notice := .inCancelled r.key r.version .superseded
  (r.role = .localRole ∧ (r.inbound = none ∨ DrainsAlready s r) ∧ given = if role = .remoteRole then [.superseded r.key r.version v] else []) ∨
  (r.role = .remoteRole ∧
    ((r.inbound = none ∧ r.state ∈ [RecState.waiting, .landed] ∧ given = [cancelled]) ∨
     (r.inbound = none ∧ r.state = .settled ∧ given = []) ∨
     (DrainsAlready s r ∧ r.state ∈ [RecState.waiting, .settled] ∧ given = []) ∨
     (DrainsAlready s r ∧ r.state = .landed ∧ given = [cancelled]) ∨
     (∃ c i, BoundIn s r c i ∧ r.state ∈ [RecState.offered, .receiving] ∧
       ((DrainedAtOnce s c ∧ given = [cancelled]) ∨ (¬ DrainedAtOnce s c ∧ given = [])))))

/-! ## Owed notices (R188) -/

/-- The state once `n` owed items have been served one after the other. -/
def served : Nat → State → Option State
  | 0, s => some s
  | n + 1, s => (serveOne s).bind (served n)

/-- R188: `t` is `s` with owed items served from the start of the order, again and again, up to the first that does not fit. -/
def AllServed (s t : State) : Prop := serveOne t = none ∧ ∃ n, served n s = some t

/-! ## Folding (R98) -/

/-- R98: the chunk check accumulator once the bytes of a segment have been folded into it; segment 0 starts it afresh. -/
def foldedAcc (seg : Nat) (acc : BitVec 32) (bytes : List Byte) : BitVec 32 := crcOver crc32cPoly (if seg = 0 then 0xFFFFFFFF else acc) bytes

/-- R98: the buffer of a folded segment: ready, with the completed chunk check on the last segment of its chunk; `acc` is the accumulator with it folded in. -/
def foldedBuf (size chunk seg : Nat) (acc : BitVec 32) (bytes : List Byte) : Buf :=
  .ready chunk seg bytes (if seg + 1 = segmentCount size chunk then some (acc ^^^ 0xFFFFFFFF) else none)

/-! ## REGION.SET (R152, R153) -/

/-- R152 checks 2 and 3: the pace group or the station group of the request is out of range. -/
def RegionSetReq.badSetting (q : RegionSetReq) (s : State) : Prop :=
  let window := fun w : BitVec 32 => 1 ≤ w.toNat ∧ w.toNat ≤ 86400
  let own := (s.region (regionOf (BitVec.ofNat 8 s.ownIndex))).station
  (q.applyPace = true ∧ ¬ (q.paceMode.toNat ≤ 2 ∧ window q.sendWindow ∧ window q.quietWindow)) ∨
    (q.applyStation = true ∧ (q.station.getLsbD 40 = true ∨ q.station = own))

/-- R153 steps 2 to 5: the entry with the station, pace, run and window end groups of the request written. -/
def RegionSetReq.written (q : RegionSetReq) (e : RegionEntry) : RegionEntry :=
  let pick := fun (β : Type) (c : Bool) (a b : β) => if c = true then a else b
  let mode : PaceMode := if q.paceMode.toNat = 0 then .off else if q.paceMode.toNat = 1 then .alternate else .single
  { e with station := pick _ q.applyStation q.station e.station, mode := pick _ q.applyPace mode e.mode,
           sendWindow := pick _ q.applyPace q.sendWindow.toNat e.sendWindow, quietWindow := pick _ q.applyPace q.quietWindow.toNat e.quietWindow,
           phase := pick _ q.applyPace .a e.phase, remaining := pick _ q.applyPace (q.sendWindow.toNat * 1000) e.remaining,
           run := pick _ q.applyRun q.run e.run, windowEnd := e.windowEnd && !q.clearWindowEnd }

/-- R155: the fields of a Region Table entry that are the same for every index at a reset. -/
def RegionEntry.fresh (e : RegionEntry) : Prop :=
  e.heard = false ∧ e.miss = 0 ∧ e.backoff = none ∧ e.held = none ∧ e.phase = .a ∧ e.windowEnd = false ∧ e.owed = false ∧ e.unreported = 0 ∧
    e.lastReported = e.state ∧ e.remaining = e.sendWindow * 1000

/-- R155: the entry of an index of N and above. -/
def RegionEntry.outside (e : RegionEntry) : Prop := e.state = .absent ∧ e.mode = .off ∧ e.run = false ∧ e.sendWindow = 1 ∧ e.quietWindow = 1

/-! ## Which condition a command needs -/

/-- The ring a request command is taken from (R182). -/
def requestRing : Instr → Option ReqRing
  | .publish ring _ => some ring
  | .delete ring _ => some ring
  | .lookup ring _ _ => some ring
  | .lookupBatch ring _ => some ring
  | .accept ring _ => some ring
  | .decline ring _ _ _ _ => some ring
  | .commit ring _ _ _ => some ring
  | .reject ring _ _ _ => some ring
  | .abandon ring _ _ _ => some ring
  | .retry ring _ _ _ => some ring
  | .defer ring _ _ => some ring
  | .settingsSet ring _ _ _ => some ring
  | .settingsGet ring _ _ => some ring
  | .regionSet ring _ => some ring
  | .regionGet ring _ _ => some ring
  | .bucketLoad ring _ => some ring
  | .bucketDeny ring _ _ _ => some ring
  | .bucketFlush ring _ _ _ _ => some ring
  | _ => none

/-- The region a frame command comes from (R158). -/
def frameSource : Instr → Option Region
  | .frameHeard x => some x
  | .offer x _ => some x
  | .replyAccepted x _ _ _ => some x
  | .replyPending x _ _ => some x
  | .replyBusy x _ _ => some x
  | .replyTimeout x _ _ => some x
  | .replyHave x _ _ => some x
  | .replyNewer x _ _ _ => some x
  | .replyLanded x _ _ => some x
  | .replyDeclined x _ _ => some x
  | .replyAborted x _ _ => some x
  | .replyUnknownReason x _ _ _ => some x
  | .ack x _ _ _ => some x
  | .confirmCommitted x _ _ => some x
  | .confirmRejected x _ _ => some x
  | .segment x _ => some x
  | .withdraw x _ _ => some x
  | .hold x _ => some x
  | .resume x => some x
  | .probe x => some x
  | .echo x => some x
  | _ => none

/-- The commands that act outside RUNNING too: resets and start-up, the register window, the vector, the carrier, the port's end of a transmission and the bursts. -/
def actsOutsideRunning : Instr → Bool
  | .coldReset => true
  | .imageLoad _ => true
  | .run _ => true
  | .functionReset _ => true
  | .pcieFunctionReset => true
  | .drainEnd => true
  | .completionConsumerIndexWrite _ => true
  | .triggerLevelWrite _ => true
  | .coalescingTimeWrite _ => true
  | .faultClear _ => true
  | .causeRead => true
  | .registerWrite _ _ => true
  | .vectorUnmask => true
  | .vectorMask => true
  | .carrierLoss => true
  | .carrierReturn => true
  | .portReady => true
  | .burstIssue => true
  | .burstComplete _ _ => true
  | .burstFail _ _ => true
  | .burstTimeout _ => true
  | _ => false

/-- The request command that a fetched entry of a known kind spells (R183, section 12.3). -/
def commandOfEntry (ring : ReqRing) (e : List Byte) : Option Instr :=
  match (byteAt e 0).toNat with
  | 0x01 => some (.publish ring (publishEntry e))
  | 0x02 => some (.delete ring (deleteEntry e))
  | 0x03 => some (.lookup ring (entryTag e) (entryKey e))
  | 0x04 => some (.lookupBatch ring (batchEntry e))
  | 0x05 => some (.accept ring (acceptEntry e))
  | 0x06 => some (.decline ring (entryTag e) (entryKey e) (entryVersion e) (byteAt e 32))
  | 0x07 => some (.commit ring (entryTag e) (entryKey e) (entryVersion e))
  | 0x08 => some (.reject ring (entryTag e) (entryKey e) (entryVersion e))
  | 0x09 => some (.abandon ring (entryTag e) (entryKey e) (byteAt e 32))
  | 0x0A => some (.retry ring (entryTag e) (entryKey e) (byteAt e 32))
  | 0x10 => some (.settingsGet ring (entryTag e) (byteAt e 8))
  | 0x11 => some (.regionGet ring (entryTag e) (byteAt e 8))
  | 0x20 => some (.settingsSet ring (entryTag e) (BitVec.ofNat 16 (leAt e 2 2)) (settingsEntry e))
  | 0x21 => some (.regionSet ring (regionSetEntry e))
  | 0x22 => some (.bucketLoad ring (bucketLoadEntry e))
  | 0x23 => some (.bucketDeny ring (entryTag e) (byteAt e 20) (entryBucket e))
  | 0x24 => some (.bucketFlush ring (entryTag e) (byteAt e 24) (byteAt e 20) (entryBucket e))
  | 0x25 => some (.defer ring (entryTag e) (byteAt e 8))
  | _ => none

/-- The row of a REPLY's reason (R160, section 12.8). -/
def replyCommand (x : Region) (c : List Byte) : Instr :=
  let k := spanKey c
  let v := spanVersion c
  match (byteAt c 20).toNat with
  | 1 => .replyAccepted x k v (BitVec.ofNat 16 (beAt c 22 2))
  | 2 => .replyPending x k v
  | 3 => .replyBusy x k v
  | 4 => .replyTimeout x k v
  | 5 => .replyNewer x k v { seq := BitVec.ofNat 48 (beAt c 24 6), origin := byteAt c 30 }
  | 6 => .replyLanded x k v
  | 7 => .replyHave x k v
  | 8 => .replyDeclined x k v
  | 9 => .replyAborted x k v
  | _ => .replyUnknownReason x k v (byteAt c 20)

/-- The row that an admitted frame of a region is, by its kind and content (R158, section 12.6); none for a CONFIRM of an unknown outcome, which R202 discards. -/
def commandOfFrame (x : Region) (kind : Byte) (c : List Byte) : Option Instr :=
  match kind.toNat, (byteAt c 20).toNat with
  | 1, _ => some (.offer x (offerContent c))
  | 2, _ => some (replyCommand x c)
  | 3, _ => some (.segment x (segmentContent c))
  | 4, _ => some (.ack x (spanKey c) (spanVersion c) (BitVec.ofNat 16 (beAt c 20 2)))
  | 5, 1 => some (.confirmCommitted x (spanKey c) (spanVersion c))
  | 5, 2 => some (.confirmRejected x (spanKey c) (spanVersion c))
  | 6, _ => some (.withdraw x (spanKey c) (spanVersion c))
  | 7, _ => some (.hold x (BitVec.ofNat 16 (beAt c 0 2)))
  | 8, _ => some (.resume x)
  | 9, _ => some (.probe x)
  | 10, _ => some (.echo x)
  | _, _ => none

/-- The eight checks of R179 on the bytes of an image, at the places section 12.7 gives. -/
def ImageGood (bs : List Byte) : Prop :=
  let n := (byteAt bs 0).toNat
  208 ≤ bs.length ∧ crc32c (bs.take 204) = BitVec.ofNat 32 (leAt bs 204 4) ∧ 2 ≤ n ∧ n ≤ 8 ∧ (byteAt bs 1).toNat < n ∧ 0x0600 ≤ leAt bs 2 2 ∧
  (∀ i, i < n → (byteAt bs (4 + 6 * i)).getLsbD 0 = false) ∧
  (∀ i j, i < n → j < n → i ≠ j → byteField bs (4 + 6 * i) 6 ≠ byteField bs (4 + 6 * j) 6) ∧
  (∀ i : Fin 14, (vget Config.settingRange i).1 ≤ leAt bs (52 + 4 * i.val) 4 ∧ leAt bs (52 + 4 * i.val) 4 ≤ (vget Config.settingRange i).2) ∧
  ∀ i, i < n → (byteAt bs (108 + 12 * i)).toNat ≤ 2 ∧ 1 ≤ leAt bs (112 + 12 * i) 4 ∧ leAt bs (112 + 12 * i) 4 ≤ 86400 ∧
    1 ≤ leAt bs (116 + 12 * i) 4 ∧ leAt bs (116 + 12 * i) 4 ≤ 86400

/-! ## Invariants -/

/-- R162: at most 128 frames in the Control Queue. -/
def ControlQueueBounded (s : State) : Prop := s.wan.queue.length ≤ 128

/-- R125: at most 64 entries in the Staging FIFO. -/
def StagingBounded (s : State) : Prop := s.inbound.fifo.length ≤ 64

/-- R178, R190: the trigger level is 1, 4, 16 or 64 and the coalescing time at most 1,000 µs. -/
def InterruptLegal (s : State) : Prop := (s.irq.trigger = 1 ∨ s.irq.trigger = 4 ∨ s.irq.trigger = 16 ∨ s.irq.trigger = 64) ∧ s.irq.coalesce.toNat ≤ 1000

/-- R3, R4 (the list form is log entry 20): the records rise strictly by key number, and no set holds more than 8. -/
def TableLegal (s : State) : Prop := (s.table.records.map fun r => keyNumber r.key).Pairwise (· < ·) ∧ ∀ n, (s.table.inSet n).length ≤ 8

/-- Log entry 6: every request in flight bears a number below the next one. -/
def NumbersFresh (s : State) : Prop :=
  (∀ p ∈ s.reqs.pubs, p.id < s.reqs.nextId) ∧ (∀ n p, vget s.bmc.hold n = some p → p.pub.id < s.reqs.nextId) ∧
  (∀ a ∈ s.reqs.accepts, a.id < s.reqs.nextId) ∧ ∀ b ∈ s.reqs.batches, b.id < s.reqs.nextId

/-- Log entry 6: every request that waits for its turn bears a load number below the next one. -/
def LoadsFresh (s : State) : Prop := ∀ p ∈ s.reqs.pubs, ∀ pl load, p.stage = .placed pl (some load) → load < s.reqs.nextLoad

/-- R84: at most 48 contexts outbound and at most 32 inbound. -/
def ContextsBounded (s : State) : Prop := s.pool.outCount ≤ 48 ∧ s.pool.inCount ≤ 32

/-- The requests taken whose completions have not been placed (R59): in flight, parked, waiting for a landing table, or a batch in progress. -/
def State.inFlight (s : State) : Nat :=
  s.reqs.pubs.length + (s.bmc.hold.toList.filter Option.isSome).length + s.reqs.accepts.length + s.reqs.batches.length

/-- R185: every request in flight has its reservation, at most 48 reservations stand, and with the entries they are at most 64. -/
def BacklogBounded (s : State) : Prop :=
  s.inFlight ≤ s.backlog.reservations ∧ s.backlog.reservations ≤ 48 ∧ s.backlog.entries.length + s.backlog.reservations ≤ 64

/-- R138: once an image is accepted the own region's entry is SELF, those of N and above are ABSENT, and every other is SUSPENDED, DARK or LIVE; before, all are ABSENT. -/
def RegionsLegal (s : State) : Prop :=
  ∀ x : Region, match s.start.image with
    | none => (s.region x).state = .absent
    | some im =>
      if x.val = im.own.toNat ∧ x.val < im.n.toNat then (s.region x).state = .own
      else if im.n.toNat ≤ x.val then (s.region x).state = .absent
      else (s.region x).state = .suspended ∨ (s.region x).state = .dark ∨ (s.region x).state = .live

end Sys2Proof.Machine
end

