-- ==== Sys2Proof/Certificates/Slice0/Obligations.lean ====
section
/-! DEFINITION. The statements for the provers, from the numbered rules of the spec: the step and its invariants, then family by family what each command does and leaves as it was. -/

section Slice0Statements

open Sys2Proof Sys2Proof.Machine

/-! ## The step and the invariants -/

/-- A step runs the command at the front of the queue on the state with the queue's rest. -/
def Obligations.StepRunsTheFrontCommand : Prop :=
  ∀ (c : Instr) (rest : List Instr) (s : State), s.pending = c :: rest → step s = exec c { s with pending := rest }

/-- The model's choice of log entry 2: on an empty queue one microsecond passes. At each whole millisecond, in RUNNING, the pace timers that R150 lets count lose one millisecond. -/
def Obligations.EmptyQueuePassesTime : Prop :=
  ∀ s : State, s.pending = [] → ∃ t, step s = .next t ∧ t.now = s.now + 1 ∧ KeepsAllBut [.clock, .regions] s t ∧ t.regions.probe = s.regions.probe ∧
    ∀ x, t.region x =
      if s.running = true ∧ (s.now + 1) % 1000 = 0 ∧ (s.region x).run = true ∧
          ((s.region x).mode = .alternate ∨ ((s.region x).mode = .single ∧ (s.region x).phase = .a))
      then { s.region x with remaining := (s.region x).remaining - 1 } else s.region x

/-- The values the reset tables give (R25, R42, R83, R109, R136, R155, R168, R177, R198), as `State.reset` holds them. One is none of theirs: the load fault detail, which no rule gives a
value at a cold reset, is 0 by the model's choice (log entry 34). -/
def Obligations.ResetHoldsTheGivenValues : Prop :=
  let s := State.reset
  s.start = { state := .loading, loadFault := none, loadDetail := 0, startFault := none, image := none } ∧
  (∀ n, s.rings.get n = { base := 0, size := 0, prod := 0, cons := 0, state := .stopped, reason := none, restart := false }) ∧
  s.backlog = { entries := [], reservations := 0, owedList := [], owedPressure := false } ∧
  s.irq.entries = false ∧ s.irq.trigger = 1 ∧ s.irq.coalesce = 0 ∧ s.cause = 0 ∧
  s.table = { records := [], linger := [], rising := false, lastReported := false } ∧
  (∀ i, vget s.bmc.entries i = none) ∧ s.bmc.pointer = 0 ∧ s.bmc.recent = none ∧ (∀ n, vget s.bmc.hold n = none) ∧
  (∀ x, vget s.sched.work x = [] ∧ vget s.sched.confirm x = []) ∧ s.sched.lastServed = 7 ∧ (∀ c, s.ctx c = .free) ∧
  s.inbound = { fifo := [], holding := false, holdSent := Vector.replicate 8 none } ∧
  (∀ x, (s.region x).state = .absent) ∧ s.regions.probe = none ∧
  s.wan.queue = [] ∧ s.wan.holder = none ∧ s.wan.lastGranted = 63 ∧
  s.hme.ops = [] ∧ s.hme.lastClient = 6 ∧ s.hme.latch = none ∧ s.pending = []

/-- Every invariant stated below holds after reset: the bounds of R4, R84, R125, R162 and R185, the legal register values of R178 and the region states of R138. That request and
load numbers are fresh (NumbersFresh, LoadsFresh) is the model's own, log entry 6. -/
def Obligations.ResetMeetsTheInvariants : Prop :=
  ControlQueueBounded State.reset ∧ StagingBounded State.reset ∧ InterruptLegal State.reset ∧ NumbersFresh State.reset ∧ LoadsFresh State.reset ∧ BacklogBounded State.reset ∧
  TableLegal State.reset ∧ ContextsBounded State.reset ∧ RegionsLegal State.reset

/-- Every step keeps the bounds of the Control Queue (R162) and the Staging FIFO (R125), the legal trigger level and coalescing time (R178), and fresh request and load numbers
(the model's own, log entry 6). R84: at every step at most 48 contexts are outbound and at most 32 inbound. -/
def Obligations.StepKeepsQueuesRegistersAndContextsLegal : Prop :=
  (∀ s t : State, step s = .next t →
    (ControlQueueBounded s → ControlQueueBounded t) ∧ (StagingBounded s → StagingBounded t) ∧ (InterruptLegal s → InterruptLegal t) ∧
    (NumbersFresh s → NumbersFresh t) ∧ (LoadsFresh s → LoadsFresh t)) ∧
  (∀ s t : State, ContextsBounded s → step s = .next t → ContextsBounded t)

/-- R185: at every step the entries and reservations of the Backlog stay within 64, the reservations within 48, and every request in flight keeps its reservation. -/
def Obligations.StepKeepsTheBacklogBounded : Prop := ∀ s t : State, BacklogBounded s → step s = .next t → BacklogBounded t

/-- R4: at every step no two records share a key and no set holds more than 8. -/
def Obligations.StepKeepsTheReplicaTableLegal : Prop := ∀ s t : State, TableLegal s → step s = .next t → TableLegal t

/-- R138: at every step the own region is SELF, indices from N on are ABSENT, and the others are SUSPENDED, DARK or LIVE. -/
def Obligations.StepKeepsRegionStatesLegal : Prop := ∀ s t : State, RegionsLegal s → step s = .next t → RegionsLegal t

/-- Commands that find no claim to make change nothing: outside RUNNING, every command but the resets, the window's, the carrier's and the bursts'; a request
whose ring may not be taken from (log entry 3); a frame of a region that checks 6 and 9 of R157 do not admit (log entry 4). -/
def Obligations.CommandsWithoutTheirClaimChangeNothing : Prop :=
  (∀ (c : Instr) (s : State), actsOutsideRunning c = false → s.running = false → exec c s = .next s) ∧
  (∀ (c : Instr) (ring : ReqRing) (s : State), requestRing c = some ring → s.takeOk ring = false → exec c s = .next s) ∧
  (∀ (c : Instr) (x : Region) (s : State), frameSource c = some x → s.admits x = false → exec c s = .next s)

/-- R183: MALFORMED for each out-of-range field with its detail, and PRIVILEGED for each management kind on the Data Ring; nothing but the completion changes. -/
def Obligations.RefusedRequestsOnlyComplete : Prop :=
  ∀ (s : State) (ring : ReqRing) (tag : Word), s.takeOk ring = true →
    (∀ q : BatchReq, q.tag = tag → (q.count.toNat < 1 ∨ 64 < q.count.toNat) →
      exec (.lookupBatch ring q) s = .next (s.answered ring tag 0x04 .malformed (.malformed 0x04 .count))) ∧
    (∀ (scope tenant : Byte) (bucket : BitVec 32), scope.toNat ∉ [1, 2, 3] →
      exec (.bucketFlush ring tag scope tenant bucket) s = .next (s.answered ring tag 0x24 .malformed (.malformed 0x24 .scope))) ∧
    (∀ (k : Key) (v : Version) (reason : Byte), reason.toNat ∉ [1, 2] →
      exec (.decline ring tag k v reason) s = .next (s.answered ring tag 0x06 .malformed (.malformed 0x06 .reason))) ∧
    (∀ (mask : BitVec 16) (values : Vector Word 14), (mask.getLsbD 14 = true ∨ mask.getLsbD 15 = true) →
      exec (.settingsSet ring tag mask values) s = .next (s.answered ring tag 0x20 .malformed (.malformed 0x20 .selection))) ∧
    (∀ first : Byte, 13 < first.toNat →
      exec (.settingsGet ring tag first) s = .next (s.answered ring tag 0x10 .malformed (.malformed 0x10 .selection))) ∧
    (ring = .data →
      (∀ (mask : BitVec 16) (values : Vector Word 14), mask.getLsbD 14 = false → mask.getLsbD 15 = false →
        exec (.settingsSet ring tag mask values) s = .next (s.answered ring tag 0x20 .privileged .plain)) ∧
      (∀ q : RegionSetReq, q.tag = tag → exec (.regionSet ring q) s = .next (s.answered ring tag 0x21 .privileged .plain)) ∧
      (∀ q : BucketLoadReq, q.tag = tag → exec (.bucketLoad ring q) s = .next (s.answered ring tag 0x22 .privileged .plain)) ∧
      (∀ (tenant : Byte) (bucket : BitVec 32), exec (.bucketDeny ring tag tenant bucket) s = .next (s.answered ring tag 0x23 .privileged .plain)) ∧
      (∀ (scope tenant : Byte) (bucket : BitVec 32), scope.toNat ∈ [1, 2, 3] →
        exec (.bucketFlush ring tag scope tenant bucket) s = .next (s.answered ring tag 0x24 .privileged .plain)) ∧
      (∀ region : Byte, exec (.defer ring tag region) s = .next (s.answered ring tag 0x25 .privileged .plain)))

/-! ## Start-up and resets -/

/-- R179: COLD_RESET puts the part in LOADING with every block at its reset values; the clock, the carrier and the queue are not its to change. IMAGE_LOAD, in
LOADING, accepts an image that passes the eight checks and enters READY, and enters LOAD_FAILED with a fault for any other; the first four faults are given with
their conditions, each behind the checks before it. R155: an accepted image gives each index below N its station, pace mode, run flag and windows, in phase A with its send window to
run, and each index from N on the ABSENT entry. That a fault without a detail stores the detail 0 is the model's choice (log entry 34). -/
def Obligations.ColdResetAndImageLoad : Prop :=
  (∀ s : State, ∃ t, exec .coldReset s = .next t ∧ t.start = StartUp.reset ∧ t.rings = Rings.reset ∧ t.backlog = Backlog.reset ∧ t.bmc = Bmc.reset ∧
    t.table = Table.reset ∧ t.sched = Sched.reset ∧ t.pool = Pool.reset ∧ t.inbound = Inbound.reset ∧ t.regions = RegionUnit.reset ∧
    t.wan.queue = [] ∧ t.wan.holder = none ∧ t.wan.lastGranted = 63 ∧ t.wan.carrier = s.wan.carrier ∧
    t.hme.ops = [] ∧ t.hme.reissue = [] ∧ t.hme.lastClient = 6 ∧ t.hme.latch = none ∧
    t.irq.entries = false ∧ t.irq.trigger = 1 ∧ t.irq.coalesce = 0 ∧ t.reqs.pubs = [] ∧ t.reqs.accepts = [] ∧ t.reqs.batches = [] ∧
    t.now = s.now ∧ t.pending = s.pending) ∧
  (∀ (flash : Option (List Byte)) (s : State), s.start.state ≠ .loading → exec (.imageLoad flash) s = .next s) ∧
  (∀ (flash : Option (List Byte)) (s : State), s.start.state = .loading → (∀ bs, flash = some bs → ¬ ImageGood bs) →
    ∃ fault detail, exec (.imageLoad flash) s =
      .next (s.withStart { s.start with state := .loadFailed, loadFault := some fault, loadDetail := detail })) ∧
  (∀ (bs : List Byte) (s : State), s.start.state = .loading → ImageGood bs →
    ∃ t, exec (.imageLoad (some bs)) s = .next t ∧ KeepsAllBut [.startUp, .settings, .regions] s t ∧
      (∃ im, t.start = { s.start with state := .ready, image := some im } ∧ im.n = byteAt bs 0 ∧ im.own = byteAt bs 1 ∧
        im.frameType.toNat = leAt bs 2 2 ∧ t.settings = im.settings ∧
        ∀ x : Region, x.val < (byteAt bs 0).toNat → (t.region x).station = vget im.stations x ∧ (t.region x).mode = (vget im.pace x).mode ∧
          (t.region x).run = (vget im.pace x).run ∧ (t.region x).sendWindow = (vget im.pace x).sendWindow.toNat ∧
          (t.region x).quietWindow = (vget im.pace x).quietWindow.toNat) ∧
      (∀ i : Fin 14, (vget t.settings i).toNat = leAt bs (52 + 4 * i.val) 4) ∧ t.regions.probe = none ∧
      (∀ x : Region, (t.region x).fresh ∧ (t.region x).state =
        if x.val = (byteAt bs 1).toNat then .own else if x.val < (byteAt bs 0).toNat then .dark else .absent) ∧
      (∀ x : Region, x.val < (byteAt bs 0).toNat →
        let e := t.region x
        e.station = stationAt bs (4 + 6 * x.val) ∧ e.mode.code = (byteAt bs (108 + 12 * x.val)).toNat ∧
        (byteAt bs (109 + 12 * x.val) = 0 → e.run = false) ∧ (byteAt bs (109 + 12 * x.val) = 1 → e.run = true) ∧
        e.sendWindow = leAt bs (112 + 12 * x.val) 4 ∧ e.quietWindow = leAt bs (116 + 12 * x.val) 4) ∧
      ∀ x : Region, (byteAt bs 0).toNat ≤ x.val → (t.region x).outside) ∧
  (∀ (bs : List Byte) (s : State), s.start.state = .loading →
    let failed := fun fault => s.withStart { s.start with state := .loadFailed, loadFault := some fault, loadDetail := 0 }
    let checked := crc32c (bs.take 204) = BitVec.ofNat 32 (leAt bs 204 4)
    exec (.imageLoad none) s = .next (failed .flash) ∧
    (bs.length < 208 → exec (.imageLoad (some bs)) s = .next (failed .flash)) ∧
    (208 ≤ bs.length → ¬ checked → exec (.imageLoad (some bs)) s = .next (failed .check)) ∧
    (208 ≤ bs.length → checked → (byteAt bs 0).toNat < 2 ∨ 8 < (byteAt bs 0).toNat → exec (.imageLoad (some bs)) s = .next (failed .regions)) ∧
    (208 ≤ bs.length → checked → 2 ≤ (byteAt bs 0).toNat → (byteAt bs 0).toNat ≤ 8 → byteAt bs 0 ≤ byteAt bs 1 →
      exec (.imageLoad (some bs)) s = .next (failed .ownIndex)))

/-- R180: RUN in READY starts every ring when every size is a power of two in its range and every base a multiple of 64; else the first that fails stands in the
start fault record and the part stays READY. In any other start-up state RUN changes nothing. That a ring started by RUN shows no fault reason is the model's choice (log entry 34). -/
def Obligations.RunStartsTheRingsOrRecordsAFault : Prop :=
  ∀ (word : Word) (s : State), word.getLsbD 0 = true → word.getLsbD 1 = false →
    (s.start.state ≠ .ready → exec (.run word) s = .next s) ∧
    (s.start.state = .ready →
      let sizeFits := fun (name : RingName) => (∃ e, (s.rings.get name).size.toNat = 2 ^ e) ∧ (sizeRange name).1 ≤ (s.rings.get name).size.toNat ∧
        (s.rings.get name).size.toNat ≤ (sizeRange name).2
      let baseFits := fun (name : RingName) => (s.rings.get name).base.toNat % 64 = 0
      ((∀ n, sizeFits n ∧ baseFits n) → ∃ t, exec (.run word) s = .next t ∧ KeepsAllBut [.startUp, .rings, .regions] s t ∧
        t.start = { s.start with state := .running, startFault := none } ∧
        (∀ n, t.rings.get n = { s.rings.get n with state := .active, reason := none, prod := 0, cons := 0 }) ∧
        t.rings.writePos = 0 ∧ t.rings.writePhase = true ∧
        t.regions = { s.regions with probe := some (s.now + s.settingTime 6) }) ∧
      (∀ n, (∀ m ∈ [RingName.data, .management, .completion].takeWhile (· != n), sizeFits m ∧ baseFits m) → ¬ (sizeFits n ∧ baseFits n) →
        ∃ t why, exec (.run word) s = .next t ∧ KeepsAllBut [.startUp, .irq] s t ∧ t.start = { s.start with startFault := some (n, why) } ∧
          (sizeFits n → why = .badBase) ∧ (¬ sizeFits n → why = .badSize) ∧ t.ringFaultPending = true))

/-- R194, R177, R168: FUNCTION_RESET and a PCIe function reset, in READY or RUNNING, enter RESETTING: the Control Queue and the grant are gone, the coalescing timer
and pending restarts with them, and the HME keeps only what has a burst issued, without its bursts not issued. In every other start-up state they change nothing.
R195 with R25, R42, R83, R109, R136, R155, R168, R177: DRAIN_END, in RESETTING with no burst out, returns the part to READY with every block at its function
reset values and the settings, stations, pace modes, windows and run flags at the image's; with a burst still out, or in another start-up state, it changes nothing. -/
def Obligations.FunctionResetDrainsAndReturnsToReady : Prop :=
  (∀ (word : Word) (s : State), word.getLsbD 1 = true →
    exec (.functionReset word) s = exec .pcieFunctionReset s ∧
    (s.start.state ∉ [StartState.ready, .running] → exec .pcieFunctionReset s = .next s) ∧
    (s.start.state ∈ [StartState.ready, .running] →
      ∃ t, exec .pcieFunctionReset s = .next t ∧ KeepsAllBut [.startUp, .irq, .engine, .port, .rings] s t ∧
        t.start = { s.start with state := .resetting } ∧ t.irq = { s.irq with timer := none } ∧
        t.wan = { s.wan with queue := [], holder := none } ∧
        (∀ n, t.rings.get n = { s.rings.get n with restart := false }) ∧ t.rings.writePos = s.rings.writePos ∧ t.rings.writePhase = s.rings.writePhase ∧
        t.hme = { s.hme with ops := (s.hme.ops.filter fun op => op.bursts.any fun b => b.state != .unissued).map fun op =>
          { op with bursts := op.bursts.map fun b => if b.state = .unissued then { b with state := .dropped } else b } })) ∧
  (∀ s : State,
    let out := ∃ op ∈ s.hme.ops, ∃ b ∈ op.bursts, b.state = .awaiting ∨ ∃ reissue deadline, b.state = .issued reissue deadline
    (s.start.state ≠ .resetting ∨ out → exec .drainEnd s = .next s) ∧
    (∀ im, s.start.state = .resetting → ¬ out → s.start.image = some im → ∃ t, exec .drainEnd s = .next t ∧
      t.start = { s.start with state := .ready, startFault := none } ∧ t.settings = im.settings ∧ t.rings = Rings.reset ∧ t.backlog = Backlog.reset ∧
      t.bmc = Bmc.reset ∧ t.table = Table.reset ∧ t.sched = Sched.reset ∧ t.pool = Pool.reset ∧ t.inbound = Inbound.reset ∧
      t.reqs.pubs = [] ∧ t.reqs.accepts = [] ∧ t.reqs.batches = [] ∧ t.cause = 0 ∧ t.irq.trigger = 1 ∧ t.irq.coalesce = 0 ∧ t.irq.unsignalled = 0 ∧
      t.irq.timer = none ∧ t.hme.ops = [] ∧ t.hme.reissue = [] ∧ t.hme.lastClient = 6 ∧ t.hme.latch = none ∧
      t.wan.queue = [] ∧ t.wan.holder = none ∧ t.wan.lastGranted = 63 ∧ t.wan.carrier = s.wan.carrier ∧ t.regions.probe = none ∧
      (∀ x : Region, let e := t.region x
        e.fresh ∧
        (x.val < im.n.toNat → e.station = vget im.stations x ∧ e.state = (if x.val = im.own.toNat then .own else .dark) ∧
          e.mode = (vget im.pace x).mode ∧ e.run = (vget im.pace x).run ∧ e.sendWindow = (vget im.pace x).sendWindow.toNat ∧
          e.quietWindow = (vget im.pace x).quietWindow.toNat) ∧
        (im.n.toNat ≤ x.val → e.outside)) ∧
      t.now = s.now ∧ t.pending = s.pending))

/-! ## The register window -/

/-- R181, R186, R192: an index write is stored while the ring is ACTIVE and the value in range; out of range, or past the producer index, it makes the ring FAULTED
with BAD_INDEX; at any other time it changes nothing. -/
def Obligations.IndexWrites : Prop :=
  (∀ (ring : ReqRing) (v : Word) (s : State),
    let r := s.rings.get (ringName ring)
    (s.running = false ∨ r.state ≠ .active → exec (.producerIndexWrite ring v) s = .next s) ∧
    (s.running = true → r.state = .active → v.toNat < r.size.toNat →
      ∃ t, exec (.producerIndexWrite ring v) s = .next t ∧ KeepsAllBut [.rings] s t ∧ OtherRings (ringName ring) s t ∧
        t.rings.get (ringName ring) = { r with prod := v.toNat }) ∧
    (s.running = true → r.state = .active → r.size.toNat ≤ v.toNat →
      ∃ t, exec (.producerIndexWrite ring v) s = .next t ∧ KeepsAllBut [.rings, .irq] s t ∧ RingFaulted (ringName ring) .badIndex s t)) ∧
  (∀ (v : Word) (s : State),
    let r := s.rings.comp
    let inRange := v.toNat < r.size.toNat ∧ (v.toNat + r.size.toNat - r.cons) % r.size.toNat ≤ (r.prod + r.size.toNat - r.cons) % r.size.toNat
    (r.state ≠ .active ∨ s.start.state ∈ [StartState.loading, .resetting] → exec (.completionConsumerIndexWrite v) s = .next s) ∧
    (s.running = true → r.state = .active → inRange →
      ∃ t, exec (.completionConsumerIndexWrite v) s = .next t ∧ KeepsAllBut [.rings] s t ∧ OtherRings .completion s t ∧
        t.rings.comp = { r with cons := v.toNat }) ∧
    (s.running = true → r.state = .active → ¬ inRange →
      ∃ t, exec (.completionConsumerIndexWrite v) s = .next t ∧ KeepsAllBut [.rings, .irq] s t ∧ RingFaulted .completion .badIndex s t))

/-- R193, R199: a restart write of a FAULTED ring in RUNNING stays pending; it takes effect once the ring's client has no operation, with the size and base checked
as they then stand. For the Completion Ring the writing resumes from the head of the Backlog. That an operation that has ended but has not been taken still counts as
outstanding is the model's choice (log entry 32, with log entry 5), and so is that the fault reason is gone once the ring is ACTIVE (log entry 34). -/
def Obligations.RestartTakesEffectWhenTheClientIsIdle : Prop :=
  (∀ (name : RingName) (word : Word) (s : State), word.getLsbD 0 = true →
    (s.running = false ∨ (s.rings.get name).state ≠ .faulted → exec (.restart name word) s = .next s) ∧
    (s.running = true → (s.rings.get name).state = .faulted →
      ∃ t, exec (.restart name word) s = .next t ∧ KeepsAllBut [.rings] s t ∧ OtherRings name s t ∧
        t.rings.get name = { s.rings.get name with restart := true })) ∧
  (∀ (name : RingName) (s : State),
    let r := s.rings.get name
    let due := s.running = true ∧ r.state = .faulted ∧ r.restart = true ∧ ∀ op ∈ s.hme.ops, op.use.client ≠ ringClient name
    (¬ due → exec (.ringRestartEffect name) s = .next s) ∧
    (due → sizeOk name r.size = true → r.base.toNat % 64 = 0 →
      ∃ t, exec (.ringRestartEffect name) s = .next t ∧
        t.rings.get name = { r with state := .active, reason := none, prod := 0, cons := 0, restart := false } ∧
        (name ≠ .completion → KeepsAllBut [.rings] s t ∧ OtherRings name s t) ∧
        (name = .completion → KeepsAllBut [.rings, .irq, .backlog] s t ∧ t.rings.data = s.rings.data ∧ t.rings.mgmt = s.rings.mgmt ∧
          t.rings.writePos = 0 ∧ t.rings.writePhase = true ∧ t.irq = { s.irq with unsignalled := 0, timer := none } ∧
          t.backlog = { s.backlog with entries := waitingEntries (s.backlog.entries.map (·.body)) })) ∧
    (due → ¬ (sizeOk name r.size = true ∧ r.base.toNat % 64 = 0) →
      ∃ t, exec (.ringRestartEffect name) s = .next t ∧ KeepsAllBut [.rings] s t ∧ OtherRings name s t ∧
        t.rings.get name = { r with reason := some (if sizeOk name r.size = true then .badBase else .badSize), restart := false }))

/-- R178, R190, R191, R175: the trigger level, coalescing time, fault-clear, the acknowledging read of CAUSE, and the mask of the vector. -/
def Obligations.InterruptControls : Prop :=
  (∀ (v : Word) (s : State),
    (s.writable = false ∨ v.toNat ∉ [1, 4, 16, 64] → exec (.triggerLevelWrite v) s = .next s) ∧
    (s.writable = true → v.toNat ∈ [1, 4, 16, 64] → ∃ t, exec (.triggerLevelWrite v) s = .next t ∧ KeepsAllBut [.irq] s t ∧
      (s.irq.unsignalled < v.toNat → t.irq = { s.irq with trigger := v }) ∧
      (v.toNat ≤ s.irq.unsignalled → s.mayRaise = true →
        MessageRaised { s.irq with trigger := v, entries := true, unsignalled := 0, timer := none } t.irq))) ∧
  (∀ (v : Word) (s : State),
    (s.writable = false ∨ 1000 < v.toNat → exec (.coalescingTimeWrite v) s = .next s) ∧
    (s.writable = true → v.toNat ≤ 1000 → ∃ t, exec (.coalescingTimeWrite v) s = .next t ∧ KeepsAllBut [.irq] s t ∧
      t.irq = { s.irq with coalesce := v, timer := if v.toNat = 0 then none else s.irq.timer })) ∧
  (∀ (word : Word) (s : State), word.getLsbD 0 = true →
    (s.start.state = .loading → exec (.faultClear word) s = .next s) ∧
    (s.start.state ≠ .loading → ∃ t, exec (.faultClear word) s = .next t ∧ KeepsAllBut [.engine] s t ∧ t.hme = { s.hme with latch := none } ∧
      t.deviceFaultPending = false)) ∧
  (∀ s : State, ∃ t, exec .causeRead s = .next t ∧ KeepsAllBut [.irq] s t ∧
    (s.start.state = .loading → t.irq = { s.irq with causeRead := 0 }) ∧
    (s.start.state ≠ .loading → t.irq = { s.irq with causeRead := s.cause, entries := false }) ∧
    (let ringFault := (∃ n, (s.rings.get n).state = .faulted) ∨ s.start.startFault ≠ none
     (s.cause.getLsbD 0 = true ↔ s.irq.entries = true) ∧ (s.cause.getLsbD 1 = true ↔ ringFault) ∧ (s.cause.getLsbD 2 = true ↔ s.hme.latch ≠ none) ∧
     (s.hme.latch ≠ none → (s.cause.extractLsb' 8 2).toNat = 3) ∧ (s.hme.latch = none → ringFault → (s.cause.extractLsb' 8 2).toNat = 2) ∧
     (s.hme.latch = none → ¬ ringFault → (s.cause.extractLsb' 8 2).toNat = if s.irq.entries = true then 1 else 0))) ∧
  (∀ s : State, exec .vectorMask s = .next (s.withIrq { s.irq with masked := true })) ∧
  (∀ s : State, (s.irq.held = true → s.mayRaise = true →
      exec .vectorUnmask s = .next (s.withIrq { s.irq with masked := false, held := false, sent := s.irq.sent + 1 })) ∧
    (s.irq.held = false → exec .vectorUnmask s = .next (s.withIrq { s.irq with masked := false })))

/-- R178, R201, section 12.2: a register write acts at its offset (4 times the index). A base or size is written in LOAD_FAILED and READY, and in RUNNING while its ring is
FAULTED; the other offsets carry the commands of their own rows, and what is read-only or not named ignores the write.
R178, R175, R191, R201, sections 12.2 and 12.8: a register read gives the named fields at their places and in their codes. In LOADING only the identification and start-up groups are shown and
every other register reads 0, and so does what is not named. That a fault code field with no fault to show reads 0 (load fault, start fault reason, ring fault reason) is the model's choice (log
entry 34); nothing is said of the write-only registers outside LOADING. -/
def Obligations.RegisterWritesActAtTheirOffsets : Prop :=
  (∀ (v : Word) (s : State),
    (∀ (name : RingName) (first : Nat), (name, first) ∈ [(RingName.data, 8), (.management, 16), (.completion, 24)] →
      let r := s.rings.get name
      let open_ := s.start.state ∈ [StartState.loadFailed, .ready] ∨ (s.running = true ∧ r.state = .faulted)
      (¬ open_ → ∀ j, j < 3 → exec (.registerWrite (BitVec.ofNat 10 (first + j)) v) s = .next s) ∧
      (open_ → ∀ j, j < 3 → ∃ t, exec (.registerWrite (BitVec.ofNat 10 (first + j)) v) s = .next t ∧ KeepsAllBut [.rings] s t ∧ OtherRings name s t ∧
        t.rings.get name = if j = 0 then { r with base := r.base.extractLsb' 32 32 ++ v } else if j = 1 then { r with base := v ++ r.base.extractLsb' 0 32 }
          else { r with size := v }) ∧
      exec (.registerWrite (BitVec.ofNat 10 (first + 6)) v) s = exec (.restart name v) s) ∧
    exec (.registerWrite 4 v) s = (if v.getLsbD 1 then exec (.functionReset v) s else if v.getLsbD 0 then exec (.run v) s else .next s) ∧
    exec (.registerWrite 11 v) s = exec (.producerIndexWrite .data v) s ∧ exec (.registerWrite 19 v) s = exec (.producerIndexWrite .management v) s ∧
    exec (.registerWrite 28 v) s = exec (.completionConsumerIndexWrite v) s ∧ exec (.registerWrite 33 v) s = exec (.triggerLevelWrite v) s ∧
    exec (.registerWrite 34 v) s = exec (.coalescingTimeWrite v) s ∧ exec (.registerWrite 40 v) s = exec (.faultClear v) s ∧
    (∀ index : BitVec 10, index.toNat ∉ [4, 8, 9, 10, 11, 14, 16, 17, 18, 19, 22, 24, 25, 26, 28, 30, 33, 34, 40] →
      exec (.registerWrite index v) s = .next s)) ∧
  (∀ s : State,
    let reg := fun n : Nat => readRegister (BitVec.ofNat 10 n) s
    let loadFault := match s.start.loadFault with
      | none => 0 | some .flash => 1 | some .check => 2 | some .regions => 3 | some .ownIndex => 4 | some .frameType => 5 | some .station => 6
      | some .setting => 7 | some .pace => 8
    let reason := fun r : Option RingReason => match r with
      | none => 0 | some .fetchError => 1 | some .writeError => 2 | some .badIndex => 3 | some .badSize => 4 | some .badBase => 5
    let ringCode := fun n : RingName => match n with
      | .data => 1 | .management => 2 | .completion => 3
    let stateCode := match s.start.state with
      | .loading => 0 | .loadFailed => 1 | .ready => 2 | .running => 3 | .resetting => 4
    let ringState := fun r : Ring => match r.state with
      | .stopped => 0 | .active => 1 | .faulted => 2
    let failKind := fun k : FailKind => match k with
      | .abort => 0 | .unsupported => 1 | .poisoned => 2 | .timeout => 3
    (reg 0).extractLsb' 0 16 = 0x0840 ∧
    (∀ im, s.start.image = some im → (reg 1).toNat = im.n.toNat + 2 ^ 8 * im.own.toNat + 2 ^ 16 * im.frameType.toNat) ∧ (s.start.image = none → reg 1 = 0) ∧
    (reg 2).toNat = stateCode + 2 ^ 8 * loadFault + 2 ^ 16 * s.start.loadDetail.toNat ∧
    (∀ n why, s.start.startFault = some (n, why) → (reg 3).toNat = ringCode n + 2 ^ 8 * reason (some why)) ∧ (s.start.startFault = none → reg 3 = 0) ∧
    (s.start.state = .loading → ∀ n, 4 ≤ n → n < 1024 → reg n = 0) ∧
    (∀ n, n < 1024 → n ∉ [0, 1, 2, 3, 4, 8, 9, 10, 11, 12, 13, 14, 16, 17, 18, 19, 20, 21, 22, 24, 25, 26, 27, 28, 29, 30, 32, 33, 34, 36, 38, 39, 40] → reg n = 0) ∧
    (s.start.state ≠ .loading →
      (∀ (name : RingName) (first : Nat), (name, first) ∈ [(RingName.data, 8), (.management, 16), (.completion, 24)] →
        let r := s.rings.get name
        reg first = r.base.extractLsb' 0 32 ∧ reg (first + 1) = r.base.extractLsb' 32 32 ∧ reg (first + 2) = r.size ∧
        (r.prod < 2 ^ 32 → (reg (first + 3)).toNat = r.prod) ∧ (r.cons < 2 ^ 32 → (reg (first + 4)).toNat = r.cons) ∧
        (reg (first + 5)).toNat = ringState r + 2 ^ 8 * reason r.reason) ∧
      reg 32 = s.cause ∧ reg 33 = s.irq.trigger ∧ reg 34 = s.irq.coalesce ∧
      (∀ l, s.hme.latch = some l → (reg 36).toNat = 1 + 2 * (if l.multiple = true then 1 else 0) + 2 ^ 8 * l.client.val + 2 ^ 16 * failKind l.kind ∧
        reg 38 = l.addr.extractLsb' 0 32 ∧ reg 39 = l.addr.extractLsb' 32 32) ∧
      (s.hme.latch = none → reg 36 = 0 ∧ reg 38 = 0 ∧ reg 39 = 0)))

/-! ## The rings -/

/-- R182: RING_FETCH issues one 64-byte read of the entry at the consumer index when every condition holds, and changes nothing when one fails. That a fetch which has ended and
has not been taken yet still stands in the way of a new one is the model's choice (log entry 5).
R192: a failed fetch makes its request ring FAULTED with FETCH_ERROR, and a failed completion write the Completion Ring with WRITE_ERROR, its entry staying in
the Backlog; a ring already FAULTED keeps its first reason. -/
def Obligations.RingFetchesReadTheNextEntryAndFailuresFaultTheRing : Prop :=
  (∀ (ring : ReqRing) (s : State),
    let r := s.rings.get (ringName ring)
    let conditions := s.running = true ∧ r.state = .active ∧ 0 < (r.prod + r.size.toNat - r.cons) % r.size.toNat ∧
      (∀ op ∈ s.hme.ops, op.use ≠ .fetch ring) ∧ s.backlog.entries.length + s.backlog.reservations < 64 ∧ s.backlog.reservations < 48 ∧
      (s.backlog.owedPressure = false ∧ (∀ x, (s.region x).owed = false) ∧ (∀ n p, vget s.bmc.hold n = some p → p.owed = false) ∧ s.backlog.owedList = []) ∧
      (ring = .data → ∃ n, vget s.bmc.hold n = none)
    let addr := r.base + BitVec.ofNat 64 (64 * r.cons)
    (¬ conditions → exec (.ringFetch ring) s = .next s) ∧
    (conditions → ∃ t, exec (.ringFetch ring) s = .next t ∧ KeepsAllBut [.engine] s t ∧
      OperationAdded (.fetch ring) (readBursts (cutPieces [(addr, 64)])) s.hme t.hme ∧
      (r.base.toNat % 64 = 0 → readBursts (cutPieces [(addr, 64)]) = [{ addr := addr, len := 64, bytes := [], state := .unissued }]))) ∧
  ((∀ (ring : ReqRing) (s : State) (op : Op), s.hme.find (.fetch ring) Op.failed = some op → s.running = true →
    ∃ t, exec (.ringFetchFail ring) s = .next t ∧ KeepsAllBut [.rings, .irq, .engine] s t ∧ t.hme = s.hme.without op.id ∧
      ((s.rings.get (ringName ring)).state ≠ .faulted → RingFaulted (ringName ring) .fetchError s t) ∧
      ((s.rings.get (ringName ring)).state = .faulted → t.rings = s.rings ∧ t.irq = s.irq)) ∧
  (∀ (id : Nat) (s : State), (∃ op ∈ s.hme.ops, op.id = id ∧ op.use = .completion ∧ op.failed = true) → s.running = true →
    ∃ t, exec (.completionWriteFail id) s = .next t ∧ KeepsAllBut [.rings, .irq, .engine, .backlog] s t ∧ t.hme = s.hme.without id ∧
      t.backlog = { s.backlog with entries := s.backlog.entries.map fun e => if e.write = .writing id then { e with write := .failed } else e } ∧
      (s.rings.comp.state ≠ .faulted → RingFaulted .completion .writeError s t) ∧
      (s.rings.comp.state = .faulted → t.rings = s.rings ∧ t.irq = s.irq)))

/-- R182, R183: REQUEST_TAKE of a completed fetch drops the entry when the conditions no longer hold; else the consumer index advances by one and the request of the
entry's kind is taken, as its own command takes it, or an unknown kind completes MALFORMED. -/
def Obligations.RequestTakeRunsTheCommandOfTheEntry : Prop :=
  ∀ (ring : ReqRing) (s : State),
    (s.hme.find (.fetch ring) Op.succeeded = none ∨ s.running = false → exec (.requestTake ring) s = .next s) ∧
    (∀ op, s.hme.find (.fetch ring) Op.succeeded = some op → s.running = true →
      let r := s.rings.get (ringName ring)
      let dropped := s.withHme (s.hme.without op.id)
      let advanced := modRing (ringName ring) (fun r => { r with cons := (r.cons + 1) % r.size.toNat }) dropped
      (s.takeOk ring = false ∨ r.available = 0 → exec (.requestTake ring) s = .next dropped) ∧
      (s.takeOk ring = true → 0 < r.available →
        (∀ c, commandOfEntry ring op.data = some c → exec (.requestTake ring) s = exec c advanced) ∧
        (commandOfEntry ring op.data = none → exec (.requestTake ring) s =
          .next (advanced.answered ring (entryTag op.data) (byteAt op.data 0).toNat .malformed (.malformed (byteAt op.data 0) .kind)))))

/-- R186: COMPLETION_ENTRY_HAND hands the first entry not yet handed on, as one 32-byte write at the write position with the write phase, when the ring is ACTIVE and has
room; the position advances and the phase is inverted at the wrap. Otherwise it changes nothing.
R186, R190: a completed completion write marks its entry; the entries written at the head leave the Backlog, the producer index advances over them, and they are
counted for the interrupt, which is raised at the trigger level or when the coalescing timer expires. R188: owed notices are then served, one after the other from the start of the order (O21), up
to the first that does not fit. That they leave, and the producer index advances, on a FAULTED ring
too is the model's choice (log entry 26), and so is the size it then wraps at (log entry 35). -/
def Obligations.CompletionEntriesAreWrittenInOrderAndSignalled : Prop :=
  (∀ s : State,
    let r := s.rings.comp
    let room := (s.rings.writePos + r.size.toNat - r.cons) % r.size.toNat + 1 < r.size.toNat
    ((s.running = false ∨ r.state ≠ .active ∨ ¬ room ∨ ∀ e ∈ s.backlog.entries, e.write ≠ .waiting) → exec .completionEntryHand s = .next s) ∧
    (∀ before body after, s.running = true → r.state = .active → room →
      s.backlog.entries = before ++ { body := body, write := .waiting } :: after → (∀ e ∈ before, e.write ≠ .waiting) →
      ∃ t, exec .completionEntryHand s = .next t ∧ KeepsAllBut [.backlog, .rings, .engine] s t ∧
        t.backlog = { s.backlog with entries := before ++ { body := body, write := .writing s.hme.nextOp } :: after } ∧
        (∀ n, t.rings.get n = s.rings.get n) ∧
        (s.rings.writePos + 1 < r.size.toNat → t.rings.writePos = s.rings.writePos + 1 ∧ t.rings.writePhase = s.rings.writePhase) ∧
        (r.size.toNat ≤ s.rings.writePos + 1 → t.rings.writePos = 0 ∧ t.rings.writePhase = !s.rings.writePhase) ∧
        (body.bytes s.rings.writePhase).length = 32 ∧ ((byteAt (body.bytes s.rings.writePhase) 0).getLsbD 0 = s.rings.writePhase) ∧
        OperationAdded .completion (writeBursts (cutPieces [(r.base + BitVec.ofNat 64 (32 * s.rings.writePos), 32)]) (body.bytes s.rings.writePhase)) s.hme t.hme)) ∧
  ((∀ (id : Nat) (s : State), (∃ op ∈ s.hme.ops, op.id = id ∧ op.use = .completion ∧ op.succeeded = true) → s.running = true →
    let marked := s.backlog.entries.map fun e => if e.write = .writing id then { e with write := .written } else e
    let n := (marked.takeWhile fun e => e.write == .written).length
    let count := s.irq.unsignalled + n
    let timer := if s.irq.unsignalled = 0 ∧ s.irq.coalesce ≠ 0 then some (s.now + s.irq.coalesce.toNat) else s.irq.timer
    ∃ t, exec (.completionWriteDone id) s = .next t ∧ t.hme = s.hme.without id ∧
      (n = 0 → KeepsAllBut [.backlog, .engine] s t ∧ t.backlog = { s.backlog with entries := marked }) ∧
      (0 < n → t.rings = { s.rings with comp := { s.rings.comp with prod := (s.rings.comp.prod + n) % s.rings.comp.size.toNat } } ∧
        (∃ served, t.backlog.entries = marked.drop n ++ served ∧ (s.anyOwed = false → served = [] ∧ KeepsAllBut [.backlog, .engine, .rings, .irq] s t)) ∧
        t.backlog.reservations = s.backlog.reservations ∧ KeepsAllBut [.backlog, .engine, .rings, .irq, .table, .regions, .cache] s t ∧
        AllServed ((((s.withHme (s.hme.without id)).withBacklog { s.backlog with entries := marked.drop n }).withRings t.rings).withIrq t.irq) t ∧
        (count < s.irq.trigger.toNat → t.irq = { s.irq with unsignalled := count, timer := timer }) ∧
        (s.irq.trigger.toNat ≤ count → MessageRaised { s.irq with entries := true, unsignalled := 0, timer := none } t.irq))) ∧
  (∀ (s : State) (deadline : Nat), s.running = true → s.irq.timer = some deadline →
    (s.now < deadline → exec .coalescingTimerExpiry s = .next s) ∧
    (deadline ≤ s.now → ∃ t, exec .coalescingTimerExpiry s = .next t ∧ KeepsAllBut [.irq] s t ∧
      MessageRaised { s.irq with entries := true, unsignalled := 0, timer := none } t.irq)))

/-- R188, R189, R146, R31, R21: what the Notice Unit serves next: the pressure flag, then the lowest region owed, then the lowest place owed, then the head of the Owed
List, whose owed IN_CANCELLED goes before its RECORD_STATE; each only when its entries fit, and nothing behind one that does not. A pressure flag whose state has been reported is
cleared and passed. R10, R20, R21: a record that is due is retired once its notice is placed, and the record count is compared with the pressure mark.
That a PRESSURE notice stands behind the other notices of its claim is the model's choice (log entry 17). -/
def Obligations.NoticesAreServedInOrder : Prop :=
  ∀ s : State,
    (s.backlog.owedPressure = true → s.table.rising = s.table.lastReported →
      serveOne s = some (s.withBacklog { s.backlog with owedPressure := false })) ∧
    (s.backlog.owedPressure = true → s.table.rising ≠ s.table.lastReported → s.backlog.free = 0 → serveOne s = none) ∧
    (s.backlog.owedPressure = true → s.table.rising ≠ s.table.lastReported → 0 < s.backlog.free → ∃ t, serveOne s = some t ∧
      KeepsAllBut [.backlog, .table] s t ∧ t.table = { s.table with lastReported := s.table.rising } ∧
      t.backlog.owedPressure = false ∧ t.backlog.owedList = s.backlog.owedList ∧ t.backlog.reservations = s.backlog.reservations ∧
      t.backlog.entries = s.backlog.entries ++ waitingEntries [.notice (.pressure s.table.rising s.table.records.length) false]) ∧
    (∀ x : Region, s.backlog.owedPressure = false → (s.region x).owed = true → (∀ y, y < x → (s.region y).owed = false) →
      (s.backlog.free = 0 → serveOne s = none) ∧
      (0 < s.backlog.free → ∃ t, serveOne s = some t ∧ KeepsAllBut [.backlog, .regions] s t ∧ OtherRegions x s t ∧ t.regions.probe = s.regions.probe ∧
        t.region x = { s.region x with owed := false, lastReported := (s.region x).state, unreported := 0 } ∧
        t.backlog.owedPressure = false ∧ t.backlog.owedList = s.backlog.owedList ∧ t.backlog.reservations = s.backlog.reservations ∧
        t.backlog.entries = s.backlog.entries ++
          waitingEntries [.notice (.regionState x (s.region x).state (s.region x).lastReported (s.region x).miss (s.region x).unreported) false])) ∧
    (∀ (n : Fin 4) (p : Parked), s.backlog.owedPressure = false → (∀ x, (s.region x).owed = false) → vget s.bmc.hold n = some p → p.owed = true →
      (∀ m q, m < n → vget s.bmc.hold m = some q → q.owed = false) →
      (s.backlog.free = 0 → serveOne s = none) ∧
      (0 < s.backlog.free → ∃ t, serveOne s = some t ∧ KeepsAllBut [.backlog, .cache] s t ∧ vget t.bmc.hold n = some { p with owed := false } ∧
        (∀ m, m ≠ n → vget t.bmc.hold m = vget s.bmc.hold m) ∧ t.bmc.entries = s.bmc.entries ∧
        t.backlog = { s.backlog with entries := s.backlog.entries ++ waitingEntries [.notice (.bucketMiss p.pub.key.tenant p.pub.key.bucket n.val) false] })) ∧
    (∀ (k : Key) (rest : List Key) (r : Record), s.backlog.owedPressure = false → (∀ x, (s.region x).owed = false) →
      (∀ n p, vget s.bmc.hold n = some p → p.owed = false) → s.backlog.owedList = k :: rest → s.table.find k = some r →
      let state : Notice := .recordState k r.version r.kind r.size r.contentTag r.role r.state r.outcome (r.slots.map fun sl => (sl.state, sl.reason))
      let bodies : List EntryBody := (match r.owedCancel with
        | some (v, why) => [.notice (.inCancelled k v why) false]
        | none => []) ++ [.notice state false, .notice state true]
      (s.backlog.free < bodies.length → serveOne s = none) ∧
      (bodies.length ≤ s.backlog.free → ∃ t es, serveOne s = some t ∧ KeepsAllBut [.backlog, .table] s t ∧ OtherRecords k s t ∧
        PressureCompared (rest = [] ∧ bodies.length + 1 ≤ s.backlog.free) es s t ∧
        t.backlog.entries = s.backlog.entries ++ waitingEntries bodies ++ es ∧ t.backlog.owedList = rest ∧ t.backlog.reservations = s.backlog.reservations ∧
        StandsOrRetires True { r with owed := false, owedCancel := none } s t ∧ ∀ q, t.table.find k = some q → q.owed = false ∧ q.owedCancel = none)) ∧
    (s.anyOwed = false → serveOne s = none)

/-! ## Lookups -/

/-- R22: LOOKUP completes NOT_TRACKED for a key without a record, and else OK with the record's fields and the three masks; nothing but the completion changes. -/
def Obligations.LookupAnswersFromTheRecord : Prop :=
  ∀ (ring : ReqRing) (tag : Word) (k : Key) (s : State), s.takeOk ring = true →
    (s.table.find k = none → exec (.lookup ring tag k) s = .next (s.answered ring tag 0x03 .notTracked .plain)) ∧
    (∀ r, s.table.find k = some r → ∃ a, exec (.lookup ring tag k) s = .next (s.answered ring tag 0x03 .ok (.lookup a)) ∧
      a.version = r.version ∧ a.kind = r.kind ∧ a.size = r.size ∧ a.state = r.state ∧ a.outcome = r.outcome ∧
      ∀ x : Region,
        (a.holders.getLsbD x.val = true ↔ (x.val = s.ownIndex ∧ (r.role = .localRole ∨ r.outcome = some .committed)) ∨
          (x.val = r.version.origin.toNat ∧ r.role = .remoteRole) ∨ (vget r.slots x).state = .confirmed) ∧
        (a.pending.getLsbD x.val = true ↔ (vget r.slots x).state ∈ [SlotState.pending, .offering, .sending, .confirming]) ∧
        (a.failed.getLsbD x.val = true ↔ (vget r.slots x).state = .failed))

/-- R23, R24: a batch of 1 to 64 keys reads its whole key table, then looks up key after key, each result's write issued in the claim of its lookup; it completes OK after
the last write, and HOST_MEMORY_ERROR with the results written when its read or a write fails. That the failed address of an OK and a result not found hold zero is the model's choice (log
entry 38), and so are the value of the found flag when set (log entry 39) and the zeros in bytes 18 to 31 of a result found (log entry 40). -/
def Obligations.BatchLooksUpInTableOrder : Prop :=
  (∀ (ring : ReqRing) (q : BatchReq) (s : State), s.takeOk ring = true → 1 ≤ q.count.toNat → q.count.toNat ≤ 64 →
    ∃ t, exec (.lookupBatch ring q) s = .next t ∧ KeepsAllBut [.backlog, .requests, .engine] s t ∧
      t.backlog = { s.backlog with reservations := s.backlog.reservations + 1 } ∧
      t.reqs = { s.reqs with nextId := s.reqs.nextId + 1,
                             batches := s.reqs.batches ++ [{ id := s.reqs.nextId, ring := ring, req := q, keys := [], done := 0 }] } ∧
      OperationAdded (.keys s.reqs.nextId) (readBursts (cutPieces [(q.keyTable, 16 * q.count.toNat)])) s.hme t.hme) ∧
  (∀ (id : Nat) (s : State) (op : Op) (b : Batch), s.running = true → s.batch id = some b →
    let issues := fun (done : Nat) (k : Key) (t : State) =>
      OperationAdded (.result id) (writeBursts (cutPieces [(b.req.resultTable + BitVec.ofNat 64 (32 * done), 32)]) (resultBytes (s.lookup k)))
        (s.hme.without op.id) t.hme
    (s.hme.find (.keys id) Op.succeeded = some op → b.done = 0 → ∀ k, (keysOf b.req.count.toNat op.data)[0]? = some k →
      ∃ t, exec (.keyTableReadDone id) s = .next t ∧ KeepsAllBut [.requests, .engine] s t ∧
        t.batch id = some { b with keys := keysOf b.req.count.toNat op.data } ∧ issues 0 k t) ∧
    (s.hme.find (.keys id) Op.failed = some op → ∀ kind addr, op.failure = some (kind, addr) →
      ∃ t, exec (.keyTableReadFail id) s = .next t ∧ KeepsAllBut [.requests, .engine, .backlog] s t ∧ t.batch id = none ∧ t.hme = s.hme.without op.id ∧
        Completed b.ring b.req.tag 0x04 .hostMemoryError (.memory 0 addr) s t) ∧
    (s.hme.find (.result id) Op.succeeded = some op →
      (∀ k, b.done + 1 < b.req.count.toNat → b.keys[b.done + 1]? = some k →
        ∃ t, exec (.resultWriteDone id) s = .next t ∧ KeepsAllBut [.requests, .engine] s t ∧ t.batch id = some { b with done := b.done + 1 } ∧
          issues (b.done + 1) k t) ∧
      (b.req.count.toNat ≤ b.done + 1 →
        ∃ t, exec (.resultWriteDone id) s = .next t ∧ KeepsAllBut [.requests, .engine, .backlog] s t ∧ t.batch id = none ∧ t.hme = s.hme.without op.id ∧
          Completed b.ring b.req.tag 0x04 .ok (.memory (b.done + 1) 0) s t)) ∧
    (s.hme.find (.result id) Op.failed = some op → ∀ kind addr, op.failure = some (kind, addr) →
      ∃ t, exec (.resultWriteFail id) s = .next t ∧ KeepsAllBut [.requests, .engine, .backlog] s t ∧ t.batch id = none ∧ t.hme = s.hme.without op.id ∧
        Completed b.ring b.req.tag 0x04 .hostMemoryError (.memory b.done addr) s t))

/-! ## Settings -/

/-- R196, R20: SETTINGS.SET names the lowest selected setting out of its range and changes nothing, or gives each selected setting its value; a changed pressure mark is compared with the
record count at once, and a change of the pressure state is reported by a PRESSURE notice or left owed (R21). That a PRESSURE notice stands before the completion is the model's choice (log
entry 17). -/
def Obligations.SettingsSetTakesTheSelectedValues : Prop :=
  ∀ (tag : Word) (mask : BitVec 16) (values : Vector Word 14) (s : State), s.takeOk .management = true → mask.getLsbD 14 = false → mask.getLsbD 15 = false →
    let inRange := fun i : Fin 14 => (vget Config.settingRange i).1 ≤ (vget values i).toNat ∧ (vget values i).toNat ≤ (vget Config.settingRange i).2
    (∀ i : Fin 14, mask.getLsbD i.val = true → ¬ inRange i → (∀ j, j < i → mask.getLsbD j.val = true → inRange j) →
      exec (.settingsSet .management tag mask values) s = .next (s.answered .management tag 0x20 .badSetting (.setting i.val))) ∧
    ((∀ i : Fin 14, mask.getLsbD i.val = true → inRange i) → ∃ t es, exec (.settingsSet .management tag mask values) s = .next t ∧
      KeepsAllBut [.backlog, .settings, .table] s t ∧ (∀ i, vget t.settings i = if mask.getLsbD i.val = true then vget values i else vget s.settings i) ∧
      t.backlog.entries = s.backlog.entries ++ es ++
        waitingEntries [.completion { ring := .management, tag := tag, kind := 0x20, status := .ok, body := .mask mask }] ∧
      t.backlog.reservations = s.backlog.reservations ∧ t.backlog.owedList = s.backlog.owedList ∧
      t.table.records = s.table.records ∧ t.table.linger = s.table.linger ∧
      (vget t.settings 12 = vget s.settings 12 → es = [] ∧ PressureKept s t) ∧
      (vget t.settings 12 ≠ vget s.settings 12 → PressureCompared (s.roomOnceTaken 1) es s t))

/-- R197: SETTINGS.GET gives, from either ring, the values in force from its first number on, up to five and ending at setting 13; it changes nothing; the first numbers
0, 5 and 10 reach every setting. -/
def Obligations.SettingsGetReadsUpToFive : Prop :=
  (∀ (ring : ReqRing) (tag : Word) (first : Byte) (s : State), s.takeOk ring = true → first.toNat ≤ 13 →
    ∃ values : List Word, exec (.settingsGet ring tag first) s = .next (s.answered ring tag 0x10 .ok (.values first.toNat values)) ∧
      values.length = (if first.toNat ≤ 9 then 5 else 14 - first.toNat) ∧
      ∀ (j : Nat) (i : Fin 14), i.val = first.toNat + j → j < values.length → values[j]? = some (vget s.settings i)) ∧
  (∀ i : Fin 14, ∃ first, first ∈ [0, 5, 10] ∧ first ≤ i.val ∧ i.val < first + if first ≤ 9 then 5 else 14 - first)

/-! ## The Bucket Map Cache -/

/-- R35 to R38: BUCKET.LOAD is refused BAD_REGION or BAD_SETTING, changing nothing; else its entry takes the position of its key, the lowest free one, or that of the replacement pointer (the
next one when the pointer names the entry hit last), the requests parked on its key leave their places and have their turns in park order, up to the first whose table is still being read,
and it completes OK, behind the requests it resumes that end with it (log entry 17). That no request yet bears the load's number is the model's own invariant LoadsFresh (log entry 6); the
zero at byte 8 of BAD_SETTING is log entry 33. -/
def Obligations.BucketLoadInstallsAndResumes : Prop :=
  ∀ (q : BucketLoadReq) (s : State), s.takeOk .management = true → LoadsFresh s →
    let n := s.regionCount
    let regionsGood := q.home.toNat < n ∧ q.allowFirst.toNat < n ∧ q.allowLast.toNat < n ∧ ∀ p, q.template.getLsbD p = true → p < n
    let sizeGood := 1 ≤ q.maxSize.toNat ∧ q.maxSize.toNat ≤ 67108864
    let pl : Placement := { template := q.template, home := q.home, allowFirst := q.allowFirst, allowLast := q.allowLast, maxSize := q.maxSize, readOnly := q.readOnly }
    let e : BucketEntry := { tenant := q.tenant, bucket := q.bucket, isGlobal := q.isGlobal, placement := pl }
    let key : Key := { tenant := q.tenant, bucket := q.bucket, object := 0 }
    let parked := fun m => ∃ p, vget s.bmc.hold m = some p ∧ p.pub.key.tenant = q.tenant ∧ p.pub.key.bucket = q.bucket
    (¬ regionsGood → exec (.bucketLoad .management q) s = .next (s.answered .management q.tag 0x22 .badRegion .plain)) ∧
    (regionsGood → ¬ sizeGood → exec (.bucketLoad .management q) s = .next (s.answered .management q.tag 0x22 .badSetting .plain)) ∧
    (regionsGood → sizeGood → ∃ t i resumed, exec (.bucketLoad .management q) s = .next t ∧ KeepsAllBut [.backlog, .cache, .requests] s t ∧
      CompletedLast .management q.tag 0x22 .ok (.position i.val resumed) s t ∧
      vget t.bmc.entries i = some e ∧ (∀ j, j ≠ i → vget t.bmc.entries j = vget s.bmc.entries j) ∧ t.bmc.recent = s.bmc.recent ∧
      (∀ j f, HitAt s key j f → i = j ∧ t.bmc.pointer = s.bmc.pointer) ∧
      (MissFor s key → ∀ j, vget s.bmc.entries j = none → (∀ l, l < j → vget s.bmc.entries l ≠ none) → i = j ∧ t.bmc.pointer = s.bmc.pointer) ∧
      (MissFor s key → (∀ j, vget s.bmc.entries j ≠ none) →
        i = (if s.bmc.recent = some s.bmc.pointer then s.bmc.pointer + 1 else s.bmc.pointer) ∧ t.bmc.pointer = i + 1) ∧
      resumed = ((List.finRange 4).filter fun m => (vget s.bmc.hold m).any fun p => p.pub.key.tenant == q.tenant && p.pub.key.bucket == q.bucket).length ∧
      (∀ m, parked m → vget t.bmc.hold m = none) ∧ (∀ m, ¬ parked m → vget t.bmc.hold m = vget s.bmc.hold m) ∧
      ((∀ m, ¬ parked m) → t.reqs.pubs = s.reqs.pubs ∧ t.backlog = (s.answered .management q.tag 0x22 .ok (.position i.val 0)).backlog) ∧
      (∀ m p xs, vget s.bmc.hold m = some p → parked m → (∀ l, parked l → l = m) → s.reqs.pubs = [] → p.pub.extents = .good xs →
        q.readOnly = false → p.pub.size ≤ q.maxSize.toNat → t.reqs.pubs = [{ p.pub with stage := .ready pl }]) ∧
      (∀ ps : List (Fin 4 × Parked), (∀ m p, (m, p) ∈ ps ↔ vget s.bmc.hold m = some p ∧ parked m) → (ps.Pairwise fun a b => a.2.order < b.2.order) →
        let pubs := s.reqs.pubs ++ ps.map fun x => { x.2.pub with stage := .placed pl (some s.reqs.nextLoad) }
        (pubs.map (·.id)).Nodup → HandedOn [] (turnsOf s.reqs.nextLoad pubs)
          [.completion { ring := .management, tag := q.tag, kind := 0x22, status := .ok, body := .position i.val resumed }] pubs s t))

/-- R39, R34, R33: BUCKET.DENY and the deadline of a place end the wait of parked requests: NO_BUCKET or MISS_TIMEOUT when the extents are known, and else the outcome is
held while the request waits for its table. The requests of a BUCKET.DENY end in park order, and every other request in flight stands; the places are freed; the cache's entries stand. That the
completion of the BUCKET.DENY stands behind the NO_BUCKET completions of its claim is no rule's but the model's (log entry 17). -/
def Obligations.DenyAndDeadlineEndTheWait : Prop :=
  (∀ (tag : Word) (tenant : Byte) (bucket : BitVec 32) (s : State), s.takeOk .management = true →
    let on := fun m => (vget s.bmc.hold m).any fun p => p.pub.key.tenant == tenant && p.pub.key.bucket == bucket
    let count := ((List.finRange 4).filter on).length
    ∃ t, exec (.bucketDeny .management tag tenant bucket) s = .next t ∧ KeepsAllBut [.backlog, .cache, .requests] s t ∧
      CompletedLast .management tag 0x23 .ok (.count count) s t ∧ t.bmc.entries = s.bmc.entries ∧ t.bmc.pointer = s.bmc.pointer ∧ t.bmc.recent = s.bmc.recent ∧
      (∀ m, on m = true → vget t.bmc.hold m = none) ∧ (∀ m, on m = false → vget t.bmc.hold m = vget s.bmc.hold m) ∧
      (∀ m p, on m = true → vget s.bmc.hold m = some p →
        (∀ xs, p.pub.extents = .good xs → ∃ e ∈ t.backlog.entries, e.body =
          .completion { ring := p.pub.ring, tag := p.pub.tag, kind := BitVec.ofNat 8 p.pub.code, status := .noBucket, body := .plain }) ∧
        (p.pub.extents = .reading → { p.pub with stage := .doomed true } ∈ t.reqs.pubs)) ∧
      ∀ ps : List (Fin 4 × Parked), (∀ m p, (m, p) ∈ ps ↔ on m = true ∧ vget s.bmc.hold m = some p) → (ps.Pairwise fun a b => a.2.order < b.2.order) →
        let waits := fun x : Fin 4 × Parked => x.2.pub.extents == .reading
        let refused := (ps.filter fun x => !waits x).map fun x => x.2.pub.completion .noBucket .plain
        t.backlog = { s.backlog with
          entries := s.backlog.entries ++ waitingEntries (refused ++
            [.completion { ring := .management, tag := tag, kind := 0x23, status := .ok, body := .count count }]),
          reservations := s.backlog.reservations - refused.length } ∧
        t.reqs = { s.reqs with pubs := s.reqs.pubs ++ (ps.filter waits).map fun x => { x.2.pub with stage := .doomed true } } ∧
        t.bmc = { s.bmc with hold := t.bmc.hold }) ∧
  (∀ (n : Fin 4) (p : Parked) (s : State), s.running = true → vget s.bmc.hold n = some p →
    (s.now < p.deadline → exec (.missDeadlineExpiry n) s = .next s) ∧
    (p.deadline ≤ s.now → ∃ t, exec (.missDeadlineExpiry n) s = .next t ∧ PlaceFreed n p s t ∧
      (∀ xs, p.pub.extents = .good xs → KeepsAllBut [.backlog, .cache] s t ∧ Completed p.pub.ring p.pub.tag p.pub.code .missTimeout .plain s t) ∧
      (p.pub.extents = .reading → KeepsAllBut [.cache, .requests] s t ∧
        t.reqs = { s.reqs with pubs := s.reqs.pubs ++ [{ p.pub with stage := .doomed false }] })))

/-- R40: BUCKET.FLUSH removes the entries of its scope, frees their positions, clears the mark of the most recently hit entry if that one goes, keeps the pointer, and completes
OK with the number removed; a scope that is none of the three completes MALFORMED and removes nothing. -/
def Obligations.BucketFlushRemovesItsScope : Prop :=
  ∀ (tag : Word) (scope tenant : Byte) (bucket : BitVec 32) (s : State), s.takeOk .management = true →
    let goes := fun e : BucketEntry =>
      scope.toNat = 1 ∨ (scope.toNat = 2 ∧ e.tenant = tenant ∧ e.isGlobal = false) ∨ (scope.toNat = 3 ∧ e.tenant = tenant ∧ e.bucket = bucket)
    (scope.toNat ∉ [1, 2, 3] → exec (.bucketFlush .management tag scope tenant bucket) s =
      .next (s.answered .management tag 0x24 .malformed (.malformed 0x24 .scope))) ∧
    (scope.toNat ∈ [1, 2, 3] → ∃ (t : State) (removed : List (Fin 32)), exec (.bucketFlush .management tag scope tenant bucket) s = .next t ∧ KeepsAllBut [.backlog, .cache] s t ∧
      t.backlog = (s.answered .management tag 0x24 .ok (.count removed.length)).backlog ∧
      t.bmc.pointer = s.bmc.pointer ∧ t.bmc.hold = s.bmc.hold ∧ removed.Nodup ∧
      (∀ i, i ∈ removed ↔ ∃ e, vget s.bmc.entries i = some e ∧ goes e) ∧
      (∀ i, i ∈ removed → vget t.bmc.entries i = none) ∧ (∀ i, i ∉ removed → vget t.bmc.entries i = vget s.bmc.entries i) ∧
      (∀ i, s.bmc.recent = some i → i ∈ removed → t.bmc.recent = none) ∧ (∀ i, s.bmc.recent = some i → i ∉ removed → t.bmc.recent = some i) ∧
      (s.bmc.recent = none → t.bmc.recent = none))

/-! ## Publishing and deleting -/

/-- R28, R29, R44, R47, R50: a PUBLISH or DELETE whose bucket is cached copies the placement and marks the entry most recently hit. A DELETE and an empty PUBLISH are checked
for READ_ONLY at once; a PUBLISH that fails on its entry completes BAD_EXTENTS; any other reads its extent table. -/
def Obligations.PublishAndDeleteThatHit : Prop :=
  ∀ (ring : ReqRing) (i : Fin 32) (e : BucketEntry) (s : State), s.takeOk ring = true → NumbersFresh s →
    let hit := fun t : State => t.bmc = { s.bmc with recent := some i } ∧ t.reqs.nextId = s.reqs.nextId + 1 ∧
      t.reqs.accepts = s.reqs.accepts ∧ t.reqs.batches = s.reqs.batches
    let reserved := { s.backlog with reservations := s.backlog.reservations + 1 }
    (∀ q : DeleteReq, HitAt s q.key i e →
      let p : Pub := { id := s.reqs.nextId, ring := ring, tag := q.tag, kind := .tombstone, key := q.key, seq := q.seq, contentTag := q.contentTag, size := 0,
                       extents := .good [], stage := .ready e.placement }
      (e.placement.readOnly = true → ∃ t, exec (.delete ring q) s = .next t ∧ KeepsAllBut [.backlog, .cache, .requests] s t ∧ hit t ∧
        t.backlog = (s.answered ring q.tag 0x02 .readOnly .plain).backlog ∧ t.reqs.pubs = s.reqs.pubs) ∧
      (e.placement.readOnly = false → ∃ t, exec (.delete ring q) s = .next t ∧ KeepsAllBut [.backlog, .cache, .requests] s t ∧ hit t ∧
        t.backlog = reserved ∧ t.reqs.pubs = s.reqs.pubs ++ [p])) ∧
    (∀ q : PublishReq, HitAt s q.key i e →
      let p : Pub := { id := s.reqs.nextId, ring := ring, tag := q.tag, kind := .content, key := q.key, seq := q.seq, contentTag := q.contentTag,
                       size := q.size.toNat, extents := .reading, stage := .placed e.placement none }
      let bad := fun d => ∃ t, exec (.publish ring q) s = .next t ∧ KeepsAllBut [.backlog, .cache, .requests] s t ∧ hit t ∧
        t.backlog = (s.answered ring q.tag 0x01 .badExtents (.extents d 0)).backlog ∧ t.reqs.pubs = s.reqs.pubs
      (16 < q.extentCount.toNat → bad .count) ∧
      (q.extentCount.toNat ≤ 16 → 67108864 < q.size.toNat → bad .size) ∧
      (q.extentCount.toNat = 0 → 0 < q.size.toNat → q.size.toNat ≤ 67108864 → bad .empty) ∧
      (q.extentCount.toNat = 0 → q.size.toNat = 0 → e.placement.readOnly = true →
        ∃ t, exec (.publish ring q) s = .next t ∧ KeepsAllBut [.backlog, .cache, .requests] s t ∧ hit t ∧
          t.backlog = (s.answered ring q.tag 0x01 .readOnly .plain).backlog ∧ t.reqs.pubs = s.reqs.pubs) ∧
      (q.extentCount.toNat = 0 → q.size.toNat = 0 → e.placement.readOnly = false →
        ∃ t, exec (.publish ring q) s = .next t ∧ KeepsAllBut [.backlog, .cache, .requests] s t ∧ hit t ∧ t.backlog = reserved ∧
          t.reqs.pubs = s.reqs.pubs ++ [{ p with extents := .good [], stage := .ready e.placement }]) ∧
      (1 ≤ q.extentCount.toNat → q.extentCount.toNat ≤ 16 → q.size.toNat ≤ 67108864 →
        ∃ t, exec (.publish ring q) s = .next t ∧ KeepsAllBut [.backlog, .cache, .requests, .engine] s t ∧ hit t ∧ t.backlog = reserved ∧
          t.reqs.pubs = s.reqs.pubs ++ [p] ∧
          OperationAdded (.extents s.reqs.nextId) (readBursts (cutPieces [(q.table, 16 * q.extentCount.toNat)])) s.hme t.hme))

/-- R30 to R32, R47: a PUBLISH or DELETE whose bucket is not cached is parked in the lowest free place, with BUCKET_MISS for a newly parked bucket key, its table read going on;
with the Miss Hold full (from the Management Ring) it completes MISS_TIMEOUT, a PUBLISH with a table to read once that read has ended. A PUBLISH that fails on its entry completes
BAD_EXTENTS at once, parked or not. -/
def Obligations.PublishAndDeleteThatMiss : Prop :=
  ∀ (ring : ReqRing) (s : State), s.takeOk ring = true →
    let numbered := fun t : State => t.reqs.nextId = s.reqs.nextId + 1 ∧ t.reqs.accepts = s.reqs.accepts ∧ t.reqs.batches = s.reqs.batches ∧
      t.bmc.entries = s.bmc.entries ∧ t.bmc.pointer = s.bmc.pointer ∧ t.bmc.recent = s.bmc.recent
    let room := s.backlog.entries.length + s.backlog.reservations + 1 < 64
    let missNotice := fun (n : Fin 4) (k : Key) => waitingEntries [.notice (.bucketMiss k.tenant k.bucket n.val) false]
    let parks := fun (n : Fin 4) (p : Pub) (t : State) =>
      (∃ w : Parked, vget t.bmc.hold n = some w ∧ w.pub = p ∧ w.order = s.bmc.nextOrder ∧ w.deadline = s.now + s.settingTime 11 ∧
        (w.owed = true ↔ ¬ ParkedElsewhere s n p.key ∧ ¬ room)) ∧
      t.bmc.nextOrder = s.bmc.nextOrder + 1 ∧ (∀ m, m ≠ n → vget t.bmc.hold m = vget s.bmc.hold m) ∧ t.reqs.pubs = s.reqs.pubs ∧
      t.backlog.reservations = s.backlog.reservations + 1 ∧ t.backlog.owedList = s.backlog.owedList ∧
      (¬ ParkedElsewhere s n p.key → room → t.backlog.entries = s.backlog.entries ++ missNotice n p.key) ∧
      (ParkedElsewhere s n p.key ∨ ¬ room → t.backlog.entries = s.backlog.entries)
    (∀ q : DeleteReq, MissFor s q.key →
      let p : Pub := { id := s.reqs.nextId, ring := ring, tag := q.tag, kind := .tombstone, key := q.key, seq := q.seq, contentTag := q.contentTag, size := 0,
                       extents := .good [], stage := .parked }
      (∀ n, LowestFreePlace s n → ∃ t, exec (.delete ring q) s = .next t ∧ KeepsAllBut [.backlog, .cache, .requests] s t ∧ numbered t ∧ parks n p t) ∧
      ((∀ n, vget s.bmc.hold n ≠ none) → ∃ t, exec (.delete ring q) s = .next t ∧ KeepsAllBut [.backlog, .requests] s t ∧ numbered t ∧
        t.reqs.pubs = s.reqs.pubs ∧ t.backlog = (s.answered ring q.tag 0x02 .missTimeout .plain).backlog)) ∧
    (∀ q : PublishReq, MissFor s q.key →
      let p : Pub := { id := s.reqs.nextId, ring := ring, tag := q.tag, kind := .content, key := q.key, seq := q.seq, contentTag := q.contentTag,
                       size := q.size.toNat, extents := .reading, stage := .parked }
      let good := q.extentCount.toNat ≤ 16 ∧ q.size.toNat ≤ 67108864
      let reads := fun t : State => OperationAdded (.extents s.reqs.nextId) (readBursts (cutPieces [(q.table, 16 * q.extentCount.toNat)])) s.hme t.hme
      (∀ n, LowestFreePlace s n → good → 1 ≤ q.extentCount.toNat →
        ∃ t, exec (.publish ring q) s = .next t ∧ KeepsAllBut [.backlog, .cache, .requests, .engine] s t ∧ numbered t ∧ parks n p t ∧ reads t) ∧
      (∀ n, LowestFreePlace s n → q.extentCount.toNat = 0 → q.size.toNat = 0 →
        ∃ t, exec (.publish ring q) s = .next t ∧ KeepsAllBut [.backlog, .cache, .requests] s t ∧ numbered t ∧ parks n { p with extents := .good [] } t) ∧
      (∀ n, LowestFreePlace s n → (¬ good ∨ (q.extentCount.toNat = 0 ∧ 0 < q.size.toNat)) →
        ∃ t d, exec (.publish ring q) s = .next t ∧ KeepsAllBut [.backlog, .cache, .requests] s t ∧ numbered t ∧ t.reqs.pubs = s.reqs.pubs ∧
          vget t.bmc.hold n = none ∧ CompletedLast ring q.tag 0x01 .badExtents (.extents d 0) s t ∧
          d = (if 16 < q.extentCount.toNat then .count else if 67108864 < q.size.toNat then .size else .empty)) ∧
      ((∀ n, vget s.bmc.hold n ≠ none) →
        (good → 1 ≤ q.extentCount.toNat → ∃ t, exec (.publish ring q) s = .next t ∧ KeepsAllBut [.backlog, .requests, .engine] s t ∧ numbered t ∧ reads t ∧
          t.reqs.pubs = s.reqs.pubs ++ [{ p with stage := .doomed false }] ∧ t.backlog = { s.backlog with reservations := s.backlog.reservations + 1 }) ∧
        (q.extentCount.toNat = 0 → q.size.toNat = 0 → ∃ t, exec (.publish ring q) s = .next t ∧ KeepsAllBut [.backlog, .requests] s t ∧ numbered t ∧
          t.reqs.pubs = s.reqs.pubs ∧ t.backlog = (s.answered ring q.tag 0x01 .missTimeout .plain).backlog) ∧
        (¬ good ∨ (q.extentCount.toNat = 0 ∧ 0 < q.size.toNat) → ∃ t d, exec (.publish ring q) s = .next t ∧ KeepsAllBut [.backlog, .requests] s t ∧
          numbered t ∧ t.reqs.pubs = s.reqs.pubs ∧ t.backlog = (s.answered ring q.tag 0x01 .badExtents (.extents d 0)).backlog ∧
          d = (if 16 < q.extentCount.toNat then .count else if 67108864 < q.size.toNat then .size else .empty))))

/-- R33, R38, R48, R49, R50: the end of a PUBLISH's extent table read. A failed read completes HOST_MEMORY_ERROR and a bad table BAD_EXTENTS, whatever the request waits for; a good one
is recorded for a parked request, and else the request goes on: its held refusal, READ_ONLY, TOO_LARGE, or ready for the Table Controller. A resumed request has its turn once
those before it in its load have had theirs, and the ones behind it have theirs at once, up to the first whose table is still being read. -/
def Obligations.ExtentTableReadEnds : Prop :=
  ∀ (id : Nat) (op : Op) (s : State), s.running = true →
    let xs := extentsOf (op.data.length / 16) op.data
    (s.hme.find (.extents id) Op.succeeded = some op →
      (∀ n p, s.bmc.heldAt id = some (n, p) →
        (∀ d i, TableFails xs p.pub.size d i → ∃ t, exec (.extentTableReadDone id) s = .next t ∧ KeepsAllBut [.backlog, .cache, .engine] s t ∧
          t.hme = s.hme.without op.id ∧ PlaceFreed n p s t ∧ Completed p.pub.ring p.pub.tag p.pub.code .badExtents (.extents d i) s t) ∧
        (TableGood xs p.pub.size → ∃ t, exec (.extentTableReadDone id) s = .next t ∧ KeepsAllBut [.cache, .engine] s t ∧ t.hme = s.hme.without op.id ∧
          vget t.bmc.hold n = some { p with pub := { p.pub with extents := .good xs } } ∧ (∀ m, m ≠ n → vget t.bmc.hold m = vget s.bmc.hold m) ∧
          t.bmc.entries = s.bmc.entries)) ∧
      (∀ p, s.bmc.heldAt id = none → (s.reqs.pubs.find? fun p => p.id == id) = some p →
        let gone := s.reqs.pubs.filter fun u => u.id != id
        let ends := fun status body => ∃ t, exec (.extentTableReadDone id) s = .next t ∧ KeepsAllBut [.backlog, .requests, .engine] s t ∧
          t.hme = s.hme.without op.id ∧ t.reqs.pubs = gone ∧ Completed p.ring p.tag p.code status body s t
        (∀ d i, TableFails xs p.size d i → ∃ t, exec (.extentTableReadDone id) s = .next t ∧ KeepsAllBut [.backlog, .requests, .engine] s t ∧
          t.hme = s.hme.without op.id ∧ CompletedFirst p.ring p.tag p.code .badExtents (.extents d i) s t ∧ (∀ u ∈ t.reqs.pubs, u.id ≠ id) ∧
          ∀ pl load, p.stage = .placed pl (some load) → (gone.map (·.id)).Nodup →
            HandedOn [p.completion .badExtents (.extents d i)] (turnsOf load gone) [] gone s t) ∧
        (TableGood xs p.size →
          (p.stage = .doomed true → ends .noBucket .plain) ∧ (p.stage = .doomed false → ends .missTimeout .plain) ∧
          (∀ pl, p.stage = .placed pl none →
            (pl.readOnly = true → ends .readOnly .plain) ∧
            (pl.readOnly = false → pl.maxSize.toNat < p.size → ends .tooLarge (.maxSize pl.maxSize.toNat)) ∧
            (pl.readOnly = false → p.size ≤ pl.maxSize.toNat → ∃ t, exec (.extentTableReadDone id) s = .next t ∧ KeepsAllBut [.requests, .engine] s t ∧
              t.hme = s.hme.without op.id ∧ t.reqs.pubs = s.reqs.pubs.map fun u => if u.id = id then { p with extents := .good xs, stage := .ready pl } else u)) ∧
          (∀ pl load u, p.stage = .placed pl (some load) → s.reqs.pubs.find? (Pub.waitsIn load) = some u → u.id ≠ id → u.extents = .reading →
            ∃ t, exec (.extentTableReadDone id) s = .next t ∧ KeepsAllBut [.requests, .engine] s t ∧ t.hme = s.hme.without op.id ∧
              t.reqs.pubs = s.reqs.pubs.map fun w => if w.id = id then { p with extents := .good xs } else w) ∧
          (∀ pl load, p.stage = .placed pl (some load) → (s.reqs.pubs.map (·.id)).Nodup →
            let pubs := s.reqs.pubs.map fun w => if w.id = id then { p with extents := .good xs } else w
            ∃ t, exec (.extentTableReadDone id) s = .next t ∧ KeepsAllBut [.backlog, .requests, .engine] s t ∧ t.hme = s.hme.without op.id ∧
              HandedOn [] (turnsOf load pubs) [] pubs s t)))) ∧
    (∀ kind addr, s.hme.find (.extents id) Op.failed = some op → op.failure = some (kind, addr) →
      (∀ n p, s.bmc.heldAt id = some (n, p) → ∃ t, exec (.extentTableReadFail id) s = .next t ∧ KeepsAllBut [.backlog, .cache, .engine] s t ∧
        t.hme = s.hme.without op.id ∧ PlaceFreed n p s t ∧ Completed p.pub.ring p.pub.tag p.pub.code .hostMemoryError (.memory 0 addr) s t) ∧
      (∀ p, s.bmc.heldAt id = none → (s.reqs.pubs.find? fun p => p.id == id) = some p →
        let gone := s.reqs.pubs.filter fun u => u.id != id
        ∃ t, exec (.extentTableReadFail id) s = .next t ∧ KeepsAllBut [.backlog, .requests, .engine] s t ∧ t.hme = s.hme.without op.id ∧
          CompletedFirst p.ring p.tag p.code .hostMemoryError (.memory 0 addr) s t ∧ (∀ u ∈ t.reqs.pubs, u.id ≠ id) ∧
          ∀ pl load, p.stage = .placed pl (some load) → (gone.map (·.id)).Nodup →
            HandedOn [p.completion .hostMemoryError (.memory 0 addr)] (turnsOf load gone) [] gone s t))

/-- R51: the target set is the template rotated by the home region modulo N, within the allow range (wrapping when its first is above its last), without the own region;
the five worked examples of section 3.5 among them. -/
def Obligations.TargetSetIsRotatedLimitedAndForeign : Prop :=
  (∀ (pl : Placement) (n own : Nat) (x : Region), n ≤ 8 →
    (x ∈ targetSet pl n own ↔ x.val < n ∧ x.val ≠ own ∧ (∃ p, p < 8 ∧ pl.template.getLsbD p = true ∧ (p + pl.home.toNat) % n = x.val) ∧
      (if pl.allowFirst.toNat ≤ pl.allowLast.toNat then pl.allowFirst.toNat ≤ x.val ∧ x.val ≤ pl.allowLast.toNat
       else pl.allowFirst.toNat ≤ x.val ∨ x.val ≤ pl.allowLast.toNat))) ∧
  (∀ (pl : Placement) (n own : Nat), (targetSet pl n own).Pairwise (· < ·)) ∧
  (let at_ := fun (template home first last : Byte) (n own : Nat) =>
     (targetSet { template := template, home := home, allowFirst := first, allowLast := last, maxSize := 1, readOnly := false } n own).map Fin.val
   at_ 0b111 1 0 4 5 0 = [1, 2, 3] ∧ at_ 0b111 3 4 1 5 0 = [4] ∧ at_ 0b1010101 6 2 6 8 5 = [2, 4, 6] ∧ at_ 0b1 2 0 3 4 2 = [] ∧ at_ 0b111 0 2 2 3 1 = [2])

/-- R54, R13, R14, R15, R58: the claim on a key without a record. SET_FULL with the set number when the set can take none; NO_TARGETS with an empty target set; else a LOCAL OPEN record with
its target slots PENDING at their Work Queue tails, the evictable record of a full set retired for it; the record count is compared with the pressure mark (R20, R21). That a PRESSURE notice
stands before the completion is the model's choice (log entry 17). -/
def Obligations.ApplyCreatesARecord : Prop :=
  ∀ (id : Nat) (p : Pub) (pl : Placement) (s : State), s.running = true → (s.reqs.pubs.find? fun p => p.id == id) = some p → p.stage = .ready pl →
    s.table.find p.key = none →
    let v : Version := { seq := p.seq, origin := BitVec.ofNat 8 s.ownIndex }
    let targets := targetSet pl s.regionCount s.ownIndex
    let n := setOf p.key
    let gone := s.reqs.pubs.filter fun u => u.id != id
    let slot := fun x : Region => ({ state := if x ∈ targets then .pending else .notTarget, retries := 0, ctx := none, reason := none } : Slot)
    let created := fun (t : State) (evicted : Bool) =>
      (∃ r, t.table.find p.key = some r ∧ r.key = p.key ∧ r.version = v ∧ r.kind = p.kind ∧ r.size = p.size ∧ r.chunks = (p.size + 262143) / 262144 ∧
        r.contentTag = p.contentTag ∧ r.role = .localRole ∧ r.state = .opened ∧ r.outcome = none ∧ (∀ x, vget r.slots x = slot x) ∧
        (∀ xs, p.extents = .good xs → r.extents = xs) ∧ r.inbound = none ∧ r.linger = none ∧ r.owed = false) ∧
      (∀ x, vget t.sched.work x = if x ∈ targets then vget s.sched.work x ++ [p.key] else vget s.sched.work x) ∧
      t.sched.confirm = s.sched.confirm ∧ t.sched.lastServed = s.sched.lastServed ∧ t.reqs.pubs = gone ∧
      let answered : Completion := { ring := p.ring, tag := p.tag, kind := BitVec.ofNat 8 p.code, status := .ok,
                                     body := .stored v .opened (regionMask targets) true false evicted none }
      t.backlog.reservations = s.backlog.reservations - 1 ∧ t.backlog.owedList = s.backlog.owedList ∧
      (∃ es, PressureCompared (s.hasRoom 1) es s t ∧ t.backlog.entries = s.backlog.entries ++ es ++ waitingEntries [.completion answered])
    let kept := fun t : State => KeepsAllBut [.backlog, .requests, .table, .lists] s t
    ((s.table.inSet n).length < 8 → targets ≠ [] → ∃ t, exec (.tableControllerApply id) s = .next t ∧ kept t ∧ created t false ∧ OtherRecords p.key s t ∧
      t.table.linger = s.table.linger) ∧
    (∀ k, 8 ≤ (s.table.inSet n).length → s.evictable n = some k → targets ≠ [] →
      ∃ t, exec (.tableControllerApply id) s = .next t ∧ kept t ∧ created t true ∧ Retired k s t ∧
        ∀ q, q ≠ p.key → q ≠ k → t.table.find q = s.table.find q) ∧
    (8 ≤ (s.table.inSet n).length → s.evictable n = none → ∃ t, exec (.tableControllerApply id) s = .next t ∧ KeepsAllBut [.backlog, .requests] s t ∧
      t.reqs.pubs = gone ∧ Completed p.ring p.tag p.code .setFull (.setNumber n) s t) ∧
    ((s.table.inSet n).length < 8 ∨ s.evictable n ≠ none → targets = [] → ∃ t, exec (.tableControllerApply id) s = .next t ∧
      KeepsAllBut [.backlog, .requests] s t ∧ t.reqs.pubs = gone ∧ Completed p.ring p.tag p.code .noTargets (.stored v .opened 0 false false false none) s t)

/-- R53, R55, R56, R16 to R19, R106, R134: the claim on a key with a record. STALE when the version is not newer; NO_TARGETS leaves the record; else the supersede stores the new version:
LOCAL, OPEN, target slots PENDING, off every other list, WITHDRAW to each region with a bound context, REPLY NEWER to the origin of an unsettled REMOTE version. Each outbound context bound
to a slot ends, an inbound one in AWAIT_HOST or RECEIVING is cancelled with drain and one that drains goes on; the notice of R19 stands before the completion (log entry 17). That STALE
carries no record state is the model's reading (log entry 10). -/
def Obligations.ApplySupersedesAnOlderVersion : Prop :=
  ∀ (id : Nat) (p : Pub) (pl : Placement) (r : Record) (s : State), s.running = true → (s.reqs.pubs.find? fun p => p.id == id) = some p → p.stage = .ready pl →
    s.table.find p.key = some r →
    let v : Version := { seq := p.seq, origin := BitVec.ofNat 8 s.ownIndex }
    let targets := targetSet pl s.regionCount s.ownIndex
    let older := r.version.seq.toNat < v.seq.toNat ∨ (r.version.seq = v.seq ∧ r.version.origin.toNat < v.origin.toNat)
    let gone := s.reqs.pubs.filter fun u => u.id != id
    let slot := fun x : Region => ({ state := if x ∈ targets then .pending else .notTarget, retries := 0, ctx := none, reason := none } : Slot)
    let heard := fun x : Region => (s.region x).state ≠ .suspended ∧ s.wan.carrier = true ∧ s.wan.queue.length ≤ 100
    let settledAtRest := r.state = .settled → (∀ x, (vget r.slots x).ctx = none) ∧ ∀ c i, r.inbound = some c → s.ctx c = .inb i → i.state = .draining
    (¬ older → ∃ t, exec (.tableControllerApply id) s = .next t ∧ KeepsAllBut [.backlog, .requests] s t ∧ t.reqs.pubs = gone ∧
      Completed p.ring p.tag p.code .stale (.version r.version) s t) ∧
    (older → targets = [] → ∃ t, exec (.tableControllerApply id) s = .next t ∧ KeepsAllBut [.backlog, .requests] s t ∧ t.reqs.pubs = gone ∧
      Completed p.ring p.tag p.code .noTargets (.stored v .opened 0 false false false none) s t) ∧
    (older → targets ≠ [] → settledAtRest → ∃ t, exec (.tableControllerApply id) s = .next t ∧
      KeepsAllBut [.backlog, .requests, .table, .lists, .contexts, .staging, .port, .engine] s t ∧ t.reqs.pubs = gone ∧
      CompletedLast p.ring p.tag p.code .ok (.stored v .opened (regionMask targets) false true false (some r.version)) s t ∧
      (∃ q, t.table.find p.key = some q ∧ q.version = v ∧ q.kind = p.kind ∧ q.size = p.size ∧ q.chunks = (p.size + 262143) / 262144 ∧
        q.contentTag = p.contentTag ∧ q.role = .localRole ∧ q.state = .opened ∧ q.outcome = none ∧ q.linger = none ∧ (∀ x, vget q.slots x = slot x) ∧
        (∀ xs, p.extents = .good xs → q.extents = xs) ∧ (r.owed = true → q.owed = true)) ∧
      p.key ∉ t.table.linger ∧
      (∀ x, vget t.sched.work x = ((vget s.sched.work x).filter fun k => k != p.key) ++ if x ∈ targets then [p.key] else []) ∧
      (∀ x, vget t.sched.confirm x = (vget s.sched.confirm x).filter fun e => e.key != p.key) ∧
      (∀ x c, (vget r.slots x).ctx = some c → heard x → { dest := x, body := .withdraw p.key r.version } ∈ t.wan.queue) ∧
      (r.role = .remoteRole → r.state ≠ .settled → heard (regionOf r.version.origin) →
        { dest := regionOf r.version.origin, body := .reply p.key r.version .newer 0 (some v) } ∈ t.wan.queue) ∧
      (∀ c o, BoundOut s r c o → ContextEnded c o s t ∧ t.wan.holder ≠ some c) ∧ ((∀ c o, BoundOut s r c o → s.wan.holder ≠ some c) → t.wan.holder = s.wan.holder) ∧
      (∀ c, (∀ o, ¬ BoundOut s r c o) → r.inbound ≠ some c → t.ctx c = s.ctx c) ∧
      (r.inbound = none ∨ DrainsAlready s r → t.inbound = s.inbound ∧ (∀ c, r.inbound = some c → t.ctx c = s.ctx c) ∧
        (∀ q, t.table.find p.key = some q → q.inbound = r.inbound) ∧
        ∀ op, op ∈ t.hme.ops ↔ op ∈ s.hme.ops ∧ ¬ ∃ c o, BoundOut s r c o ∧ op.use.readsFor c = true ∧ op.untouched = true) ∧
      (∀ c i, BoundIn s r c i → CancelledWithDrain c i .superseded s t ∧ HoldingFollows s t ∧
        ∀ q, t.table.find p.key = some q → (DrainedAtOnce s c → q.inbound = none) ∧ (¬ DrainedAtOnce s c → q.inbound = r.inbound)) ∧
      t.backlog.reservations = s.backlog.reservations - 1 ∧
      ∀ given, SupersedeGives r v .localRole s given →
        RecordNotices s.hasRoom p.key given [p.completion .ok (.stored v .opened (regionMask targets) false true false (some r.version))] s t)

/-! ## Convergence -/

/-- R70 to R72, R90: GRANT, when fewer than 48 contexts are outbound, one is FREE and a region is eligible, binds the lowest FREE context to the head record of the first eligible
region after the last served: OFFER is sent and the reply timer starts. When one of these fails, nothing changes. -/
def Obligations.GrantServesTheNextEligibleRegion : Prop :=
  ∀ s : State,
    let eligible := fun x : Region => (s.region x).state = .live ∧ (s.region x).backoff = none ∧ ((s.region x).mode = .off ∨ (s.region x).phase = .a) ∧
      vget s.sched.work x ≠ []
    let turn := fun j : Region => s.sched.lastServed + 1 + j
    (s.running = false ∨ 48 ≤ s.pool.outCount ∨ (∀ c, s.ctx c ≠ .free) ∨ (∀ x, ¬ eligible x) → exec .grant s = .next s) ∧
    (∀ (j : Region) (c : CtxNo) (k : Key) (rest : List Key) (r : Record), s.running = true → s.pool.outCount < 48 →
      s.ctx c = .free → (∀ d, d < c → s.ctx d ≠ .free) → eligible (turn j) → (∀ i, i < j → ¬ eligible (turn i)) →
      vget s.sched.work (turn j) = k :: rest → s.table.find k = some r →
      let x := turn j
      ∃ t, exec .grant s = .next t ∧ KeepsAllBut [.table, .lists, .contexts, .port] s t ∧
        t.ctx c = .out { key := k, version := r.version, dest := x, chunks := r.chunks, state := .offering, next := 0, acked := 0, readChunk := 0,
                         readSeg := 0, bufs := #v[.free, .free], acc := 0, burst := 0, timer := some (s.now + s.settingTime 1),
                         order := s.pool.nextOrder } ∧
        OtherContexts c s t ∧ t.pool.nextOrder = s.pool.nextOrder + 1 ∧ OtherRecords k s t ∧ TableRestKept s t ∧
        t.table.find k = some (r.withSlot x { state := .offering, retries := (vget r.slots x).retries, ctx := some c, reason := none }) ∧
        t.sched = { s.sched with work := vset s.sched.work x (rest.filter fun q => q != k), lastServed := x } ∧
        FrameSent x (.offer k r.version r.kind r.size r.contentTag) s t)

/-- R74, R75, R108, R68: CONFIRM COMMITTED makes a slot CONFIRMED and CONFIRM REJECTED makes it FAILED with reason REJECTED, off its list or with its context ended, followed
by the settle test; a frame that matches no such slot changes nothing. A Confirm List deadline that has passed makes its slot PENDING again.
That a PRESSURE notice stands behind the other notices of its claim is the model's choice (log entry 17), and so is that a record due at once is
retired in the claim that settles it (log entry 25). -/
def Obligations.ConfirmMovesTheSlot : Prop :=
  (∀ (x : Region) (k : Key) (v : Version) (s : State), s.admits x = true →
    (s.table.find k = none → exec (.confirmCommitted x k v) s = .next s ∧ exec (.confirmRejected x k v) s = .next s) ∧
    (∀ r, s.table.find k = some r →
      let sl := vget r.slots x
      let confirmed := r.withSlot x (sl.moved .confirmed)
      (r.role = .remoteRole ∨ r.version ≠ v ∨ sl.state = .notTarget ∨ sl.state.isFinal = true →
        exec (.confirmCommitted x k v) s = .next s ∧ exec (.confirmRejected x k v) s = .next s) ∧
      (sl.state = .failed → exec (.confirmRejected x k v) s = .next s) ∧
      (r.role = .localRole → r.version = v → r.state = .opened →
        (sl.state ∈ [SlotState.pending, .confirming, .failed] → ∃ t, exec (.confirmCommitted x k v) s = .next t ∧
          KeepsAllBut [.backlog, .table, .lists] s t ∧ OtherRecords k s t ∧ SettledWhenLast s.hasRoom confirmed [] s t ∧
          (sl.state = .pending → LeavesWork x k s t) ∧ (sl.state = .confirming → LeavesConfirm x k s t) ∧ (sl.state = .failed → t.sched = s.sched)) ∧
        (sl.state ∈ [SlotState.pending, .confirming] → ∃ t, exec (.confirmRejected x k v) s = .next t ∧
          KeepsAllBut [.backlog, .table, .lists] s t ∧ OtherRecords k s t ∧ t.table.linger = s.table.linger ∧ SlotFails r x .rejected sl.retries s t ∧
          (sl.state = .pending → LeavesWork x k s t) ∧ (sl.state = .confirming → LeavesConfirm x k s t)) ∧
        (∀ c o, sl.state ∈ [SlotState.offering, .sending] → sl.ctx = some c → s.ctx c = .out o → o.key = k →
          (∃ t, exec (.confirmCommitted x k v) s = .next t ∧ KeepsAllBut [.backlog, .table, .contexts, .port, .engine] s t ∧ OtherRecords k s t ∧
            OutboundEnded c o s t ∧ SettledWhenLast s.hasRoom confirmed [] s t) ∧
          (∃ t, exec (.confirmRejected x k v) s = .next t ∧ KeepsAllBut [.backlog, .table, .contexts, .port, .engine] s t ∧ OtherRecords k s t ∧
            t.table.linger = s.table.linger ∧ OutboundEnded c o s t ∧ SlotFails r x .rejected sl.retries s t))))) ∧
  (∀ (x : Region) (s : State),
    (s.running = false ∨ vget s.sched.confirm x = [] ∨ (∃ e rest, vget s.sched.confirm x = e :: rest ∧ s.now < e.deadline) →
      exec (.confirmDeadlineExpiry x) s = .next s) ∧
    (∀ e rest r, s.running = true → vget s.sched.confirm x = e :: rest → e.deadline ≤ s.now → s.table.find e.key = some r →
      ∃ t, exec (.confirmDeadlineExpiry x) s = .next t ∧ KeepsAllBut [.table, .lists] s t ∧ OtherRecords e.key s t ∧ TableRestKept s t ∧
        t.table.find e.key = some (r.withSlot x ((vget r.slots x).moved .pending)) ∧
        t.sched = { s.sched with work := vset s.sched.work x (vget s.sched.work x ++ [e.key]),
                                 confirm := vset s.sched.confirm x (rest.filter fun d => d.key != e.key) }))

/-- R79, R80, R106: ABANDON makes a slot that is neither NONE nor final ABANDONED, off its list, or with its context ended and a WITHDRAW sent; RETRY makes a FAILED slot PENDING
with retry count 0. The checks BAD_REGION, NOT_TRACKED and WRONG_STATE come first, in that order, and a refused request only completes. That a PRESSURE notice of the settling claim stands
before the completion is the model's choice (log entry 17), and so is that a record due at once is retired in that claim (log entry 25). The settled flag stands as a
field; the value of its byte is log entry 39. -/
def Obligations.AbandonAndRetryMoveTheSlot : Prop :=
  ∀ (ring : ReqRing) (tag : Word) (k : Key) (b : Byte) (s : State), s.takeOk ring = true →
    let x := regionOf b
    let other := b.toNat < s.regionCount ∧ b.toNat ≠ s.ownIndex
    let refused := fun status => exec (.abandon ring tag k b) s = .next (s.answered ring tag 0x09 status .plain) ∧
      exec (.retry ring tag k b) s = .next (s.answered ring tag 0x0A status .plain)
    (¬ other → refused .badRegion) ∧
    (other → s.table.find k = none → refused .notTracked) ∧
    (∀ r, other → s.table.find k = some r →
      let sl := vget r.slots x
      let abandoned := r.withSlot x (sl.moved .abandoned)
      let settled := abandoned.allFinal
      let done : EntryBody := .completion { ring := ring, tag := tag, kind := 0x09, status := .ok,
                                            body := .abandon sl.state (if settled then .settled else .opened) settled }
      (r.role = .remoteRole ∨ sl.state.isOpen = false →
        exec (.abandon ring tag k b) s = .next (s.answered ring tag 0x09 .wrongState .plain)) ∧
      (r.role = .remoteRole ∨ sl.state ≠ .failed →
        exec (.retry ring tag k b) s = .next (s.answered ring tag 0x0A .wrongState .plain)) ∧
      (r.role = .localRole → sl.state = .failed → ∃ t, exec (.retry ring tag k b) s = .next t ∧ KeepsAllBut [.backlog, .table, .lists] s t ∧
        OtherRecords k s t ∧ TableRestKept s t ∧ JoinsWork x k s t ∧
        t.table.find k = some (r.withSlot x { state := .pending, retries := 0, ctx := none, reason := none }) ∧
        t.backlog = (s.answered ring tag 0x0A .ok (.versionState r.version r.state)).backlog) ∧
      (r.role = .localRole → r.state = .opened → sl.ctx = none → sl.state ∈ [SlotState.pending, .confirming, .failed] →
        ∃ t, exec (.abandon ring tag k b) s = .next t ∧ KeepsAllBut [.backlog, .table, .lists] s t ∧ OtherRecords k s t ∧
          SettledWhenLast s.roomOnceTaken abandoned [done] s t ∧
          (sl.state = .pending → LeavesWork x k s t) ∧ (sl.state = .confirming → LeavesConfirm x k s t) ∧ (sl.state = .failed → t.sched = s.sched)) ∧
      (∀ c o, r.role = .localRole → r.state = .opened → sl.state ∈ [SlotState.offering, .sending] → sl.ctx = some c → s.ctx c = .out o → o.key = k →
        ∃ t, exec (.abandon ring tag k b) s = .next t ∧ KeepsAllBut [.backlog, .table, .contexts, .port, .engine] s t ∧ OtherRecords k s t ∧
          OutboundEnded c o s t ∧ FrameSent x (.withdraw k r.version) s t ∧ SettledWhenLast s.roomOnceTaken abandoned [done] s t))

/-- R81, R77, R187: DEFER of a DARK or SUSPENDED region empties its Work Queue: each record's slot becomes DEFERRED, and each record whose last open slot it was settles CONVERGED with its SETTLED
notice, in queue order, placed as long as there is room and then left owed. A LIVE region completes REGION_LIVE and a region that is not another one of the deployment BAD_REGION, with nothing
changed. That the notices stand before the completion, a PRESSURE notice behind the others, is the model's choice (log entry 17), and so is that a record due at once
is retired in the claim that settles it (log entry 25). -/
def Obligations.DeferEmptiesTheWorkQueue : Prop :=
  ∀ (tag : Word) (b : Byte) (s : State), s.takeOk .management = true →
    let x := regionOf b
    let other := b.toNat < s.regionCount ∧ b.toNat ≠ s.ownIndex
    let queue := vget s.sched.work x
    let deferred := fun r : Record => r.withSlot x ((vget r.slots x).moved .deferred)
    let last := fun r : Record => r.role = .localRole ∧ r.state = .opened ∧ (deferred r).allFinal = true
    (¬ other → exec (.defer .management tag b) s = .next (s.answered .management tag 0x25 .badRegion .plain)) ∧
    (other → (s.region x).state = .live → exec (.defer .management tag b) s = .next (s.answered .management tag 0x25 .regionLive .plain)) ∧
    let settling := queue.filterMap fun k => (s.table.find k).bind fun r =>
      if (r.role == .localRole && r.state == .opened && (deferred r).allFinal) = true then some (deferred r) else none
    let room := 64 - (s.backlog.entries.length + s.backlog.reservations + 1)
    (other → (s.region x).state ≠ .live → queue.Nodup → ∃ t settled, exec (.defer .management tag b) s = .next t ∧
      KeepsAllBut [.backlog, .table, .lists] s t ∧ t.sched = { s.sched with work := vset s.sched.work x [] } ∧
      CompletedLast .management tag 0x25 .ok (.defer queue.length settled) s t ∧ settled = settling.length ∧
      (∃ es, PressureCompared (settling.length + 1 ≤ room) es s t ∧
        t.backlog.entries = s.backlog.entries ++ waitingEntries (entriesOf ((settling.take room).map settledNotice)) ++ es ++
          waitingEntries [.completion { ring := .management, tag := tag, kind := 0x25, status := .ok, body := .defer queue.length settled }]) ∧
      t.backlog.reservations = s.backlog.reservations ∧
      t.backlog.owedList = (settling.drop room).map (·.key) ∧ (∀ r ∈ settling.drop room, ∃ q, t.table.find r.key = some q ∧ q.owed = true) ∧
      (∀ keys : List Key, keys.Nodup → (∀ k, k ∈ keys ↔ k ∈ queue ∧ ∃ r, s.table.find k = some r ∧ last r) → settled = keys.length) ∧
      (∀ k, k ∉ queue → t.table.find k = s.table.find k) ∧
      ∀ k r, k ∈ queue → s.table.find k = some r →
        (¬ last r → t.table.find k = some (deferred r)) ∧
        (last r →
          let done := (deferred r).settledAs .converged s
          (Retires (deferred r ∈ settling.take room) done s t → t.table.find k = none ∧ k ∉ t.table.linger) ∧
          (¬ Retires (deferred r ∈ settling.take room) done s t → k ∈ t.table.linger ∧ ∃ q, t.table.find k = some q ∧ Record.sameBody done q)))

/-! ## Outbound transfers -/

/-- R96, R2: the segments of a chunk: where each begins, how many there are, how long each is. The rows of the table under R96 for an object of 5,000,000 bytes are among them. -/
def Obligations.ObjectsAreCutIntoChunksAndSegments : Prop :=
  (∀ size chunk : Nat, chunk < chunkCount size →
    let L := chunkLength size chunk
    let n := segmentCount size chunk
    L = (if chunk + 1 = chunkCount size then size - 262144 * (chunkCount size - 1) else 262144) ∧
    n = (L + 8191) / 8192 ∧ 1 ≤ n ∧ n ≤ 32 ∧
    (∀ seg, segmentOffset chunk seg = 262144 * chunk + 8192 * seg) ∧
    (∀ seg, seg + 1 < n → segmentLength size chunk seg = 8192) ∧
    segmentLength size chunk (n - 1) = L - 8192 * (n - 1) ∧ 1 ≤ segmentLength size chunk (n - 1) ∧ segmentLength size chunk (n - 1) ≤ 8192 ∧
    (L = 262144 → n = 32 ∧ ∀ seg, seg < 32 → segmentLength size chunk seg = 8192)) ∧
  (∀ size : Nat, chunkCount size = (size + 262143) / 262144) ∧
  chunkCount 5000000 = 20 ∧ segmentCount 5000000 19 = 3 ∧ chunkLength 5000000 19 = 19264 ∧ segmentLength 5000000 19 2 = 2880

/-- R170: the bursts of an operation, taken in order, cover exactly the bytes of the object offsets asked for, as the extent list places them on host memory; each is of 1 to 4,096
bytes, none crosses a multiple of 4,096; the worked example of section 9.2. -/
def Obligations.BurstsCoverTheBytesOfTheOperation : Prop :=
  (∀ (xs : List Extent) (off len : Nat),
    let addressesOf := fun (a : Addr) (n : Nat) => (List.range n).map fun i => a + BitVec.ofNat 64 i
    (cutPieces (piecesOf xs off len)).flatMap (fun c => addressesOf c.1 c.2) =
      ((xs.flatMap fun e => addressesOf e.addr e.len.toNat).drop off).take len) ∧
  (∀ (a : Addr) (n : Nat), (cutPieces [(a, n)]).flatMap (fun c => (List.range c.2).map fun i => c.1 + BitVec.ofNat 64 i) =
    (List.range n).map fun i => a + BitVec.ofNat 64 i) ∧
  (∀ (pieces : List (Addr × Nat)), ∀ c ∈ cutPieces pieces, 1 ≤ c.2 ∧ c.1.toNat % 4096 + c.2 ≤ 4096) ∧
  cutPieces (piecesOf [{ addr := 0x100000000, len := 400000 }, { addr := 0x200000800, len := 200000 }] 393216 8192) =
    [(0x100060000, 4096), (0x100061000, 2688), (0x200000800, 1408)]

/-- R88, R92, R93, R94: the replies that act in OFFERING alone. ACCEPTED starts SENDING from the resume chunk, or confirms; PENDING restarts the reply timer; BUSY and TIMEOUT requeue
the slot and start backoff, TIMEOUT counting a retry; LANDED confirms; DECLINED fails the slot. In SENDING they change nothing. -/
def Obligations.RepliesInOffering : Prop :=
  ∀ (c : CtxNo) (o : OutCtx) (r : Record) (s : State), Serves s c o r → s.admits o.dest = true →
    let x := o.dest
    let sl := vget r.slots x
    let others := fun t : State => OtherRecords o.key s t ∧ TableRestKept s t
    let backoff := fun t : State => t.region x = { s.region x with backoff := some (s.now + s.settingTime 8) } ∧ OtherRegions x s t ∧
      t.regions.probe = s.regions.probe
    let requeued := fun (n : Nat) (t : State) => OutboundEnded c o s t ∧ JoinsWork x o.key s t ∧
      t.table.find o.key = some (r.withSlot x { state := .pending, retries := n, ctx := none, reason := none })
    let confirms := fun t : State => KeepsAllBut [.table, .lists, .contexts, .port, .engine] s t ∧ OutboundEnded c o s t ∧ JoinsConfirm x o.key s t ∧
      others t ∧ t.table.find o.key = some (r.withSlot x (sl.moved .confirming))
    (o.state = .sending → ∀ reply ∈ [Instr.replyPending x o.key o.version, .replyBusy x o.key o.version, .replyTimeout x o.key o.version,
        .replyLanded x o.key o.version, .replyDeclined x o.key o.version], exec reply s = .next s) ∧
    (o.state = .sending → ∀ resume, exec (.replyAccepted x o.key o.version resume) s = .next s) ∧
    (o.state = .offering →
      (∀ resume : BitVec 16, o.chunks < resume.toNat → exec (.replyAccepted x o.key o.version resume) s = .next s) ∧
      (∀ resume : BitVec 16, resume.toNat < o.chunks → ∃ t, exec (.replyAccepted x o.key o.version resume) s = .next t ∧
        KeepsAllBut [.table, .contexts] s t ∧ OtherContexts c s t ∧ others t ∧ t.table.find o.key = some (r.withSlot x { sl with state := .sending }) ∧
        t.ctx c = .out { o with state := .sending, next := resume.toNat, acked := resume.toNat, readChunk := resume.toNat, readSeg := 0, acc := 0,
                                burst := 0, timer := none }) ∧
      (∀ resume : BitVec 16, resume.toNat = o.chunks → ∃ t, exec (.replyAccepted x o.key o.version resume) s = .next t ∧ confirms t) ∧
      (∃ t, exec (.replyLanded x o.key o.version) s = .next t ∧ confirms t) ∧
      (∃ t, exec (.replyPending x o.key o.version) s = .next t ∧ KeepsAllBut [.contexts] s t ∧ OtherContexts c s t ∧
        t.ctx c = .out { o with timer := some (s.now + s.settingTime 1) }) ∧
      (∃ t, exec (.replyBusy x o.key o.version) s = .next t ∧ KeepsAllBut [.table, .lists, .contexts, .port, .engine, .regions] s t ∧ others t ∧
        requeued sl.retries t ∧ backoff t) ∧
      (∃ t, exec (.replyTimeout x o.key o.version) s = .next t ∧ KeepsAllBut [.backlog, .table, .lists, .contexts, .port, .engine, .regions] s t ∧ others t ∧
        RetryCounted c o r s t (fun n => requeued n t ∧ t.backlog = s.backlog) ∧ backoff t) ∧
      (∃ t, exec (.replyDeclined x o.key o.version) s = .next t ∧ KeepsAllBut [.backlog, .table, .contexts, .port, .engine] s t ∧ others t ∧
        OutboundEnded c o s t ∧ SlotFails r x .declined sl.retries s t))

/-- R88, R94, R95: the replies that act in OFFERING and SENDING alike. HAVE makes the slot CONFIRMED and NEWER, with a version newer than the context's, OVERTAKEN, each followed by
the settle test; ABORTED counts a retry and requeues the slot without backoff. A frame that names no context, and a REPLY with an unknown reason, changes nothing.
That a PRESSURE notice stands behind the other notices of its claim is the model's choice (log entry 17), and so is that a record due at once is
retired in the claim that settles it (log entry 25). -/
def Obligations.RepliesThatDecideOrAbort : Prop :=
  (∀ (c : CtxNo) (o : OutCtx) (r : Record) (s : State), Serves s c o r → s.admits o.dest = true →
    let x := o.dest
    let sl := vget r.slots x
    let ends := fun (st : SlotState) (t : State) => KeepsAllBut [.backlog, .table, .contexts, .port, .engine] s t ∧ OtherRecords o.key s t ∧
      OutboundEnded c o s t ∧ SettledWhenLast s.hasRoom (r.withSlot x (sl.moved st)) [] s t
    (∃ t, exec (.replyHave x o.key o.version) s = .next t ∧ ends .confirmed t) ∧
    (∀ other : Version,
      let isNewer := o.version.seq.toNat < other.seq.toNat ∨ (other.seq = o.version.seq ∧ o.version.origin.toNat < other.origin.toNat)
      (isNewer → ∃ t, exec (.replyNewer x o.key o.version other) s = .next t ∧ ends .overtaken t) ∧
      (¬ isNewer → exec (.replyNewer x o.key o.version other) s = .next s)) ∧
    (∃ t, exec (.replyAborted x o.key o.version) s = .next t ∧ KeepsAllBut [.backlog, .table, .lists, .contexts, .port, .engine] s t ∧
      OtherRecords o.key s t ∧ TableRestKept s t ∧
      RetryCounted c o r s t (fun n => OutboundEnded c o s t ∧ JoinsWork x o.key s t ∧ t.backlog = s.backlog ∧
        t.table.find o.key = some (r.withSlot x { state := .pending, retries := n, ctx := none, reason := none })))) ∧
  (∀ (x : Region) (k : Key) (v : Version) (s : State), s.outboundFor x k v = none →
    (∀ frame ∈ [Instr.replyPending x k v, .replyBusy x k v, .replyTimeout x k v, .replyHave x k v, .replyLanded x k v, .replyDeclined x k v,
      .replyAborted x k v], exec frame s = .next s) ∧
    (∀ resume, exec (.replyAccepted x k v resume) s = .next s) ∧ (∀ other, exec (.replyNewer x k v other) s = .next s) ∧
    (∀ next, exec (.ack x k v next) s = .next s)) ∧
  (∀ (x : Region) (k : Key) (v : Version) (reason : Byte) (s : State), exec (.replyUnknownReason x k v reason) s = .next s)

/-- R97, R100, R103: a segment read goes into a free buffer for the reading position, when that lies in a chunk begun or begins the next one in the window; its bursts cover
the segment, the position advances, and the first chunk unacknowledged starts the stall timer. When a condition fails nothing changes. That the lower-numbered of two free buffers is taken is
the model's choice (log entry 21). -/
def Obligations.SegmentReadsFollowTheReadingPosition : Prop :=
  ∀ (c : CtxNo) (o : OutCtx) (r : Record) (s : State), s.ctx c = .out o → s.table.find o.key = some r →
    let begins := o.readChunk = o.next ∧ o.readSeg = 0 ∧ o.next < o.chunks ∧ o.next - o.acked < 16
    let free := ∃ b, vget o.bufs b = .free
    let may := s.running = true ∧ o.state = .sending ∧ s.sendable o.dest = true ∧ free ∧ (o.readChunk < o.next ∨ begins)
    (¬ may → exec (.segmentReadIssue c) s = .next s) ∧
    (∀ b : Fin 2, may → vget o.bufs b = .free → (∀ d, d < b → vget o.bufs d ≠ .free) →
      ∃ t, exec (.segmentReadIssue c) s = .next t ∧ KeepsAllBut [.contexts, .engine] s t ∧ OtherContexts c s t ∧
        OperationAdded (.segRead c b) (readBursts (cutPieces
          (piecesOf r.extents (262144 * o.readChunk + 8192 * o.readSeg) (segmentLength r.size o.readChunk o.readSeg)))) s.hme t.hme ∧
        ∃ e, t.ctx c = .out e ∧ vget e.bufs b = .reading o.readChunk o.readSeg false ∧ (∀ d, d ≠ b → vget e.bufs d = vget o.bufs d) ∧
          e.next = (if o.readChunk = o.next then o.next + 1 else o.next) ∧ e.acked = o.acked ∧ e.state = .sending ∧ e.key = o.key ∧
          e.version = o.version ∧ e.dest = o.dest ∧ e.chunks = o.chunks ∧ e.acc = o.acc ∧ e.burst = o.burst ∧ e.order = o.order ∧
          e.timer = (if o.readChunk = o.next ∧ o.next = o.acked then some (s.now + s.settingTime 0) else o.timer) ∧
          (o.readSeg + 1 < segmentCount r.size o.readChunk → e.readChunk = o.readChunk ∧ e.readSeg = o.readSeg + 1) ∧
          (segmentCount r.size o.readChunk ≤ o.readSeg + 1 → e.readChunk = o.readChunk + 1 ∧ e.readSeg = 0))

/-- R98, R87, R107: a segment read that completes is folded in segment order into the accumulator, with the chunk check on the chunk's last segment, or waits for the read before it, or is discarded;
a segment that waited for it is folded behind it, and a ready one stands; one read that fails fails the slot with reason HOST_READ and ends the context; one of an ABORTING context only frees its
buffer, and with the last the context, which may let its record retire (R10, R20). That a waiting segment is folded in the claim that folds the one before it, or that finds nothing before it any
more, is the model's choice (log entry 21). -/
def Obligations.SegmentReadsEnd : Prop :=
  ∀ (c : CtxNo) (b : Fin 2) (o : OutCtx) (op : Op) (s : State), s.running = true → s.ctx c = .out o →
    let other := vget o.bufs (otherBuf b)
    let aborting := fun (command : Instr) => o.state = .aborting → ∃ t, exec command s = .next t ∧ t.hme = s.hme.without op.id ∧ OtherContexts c s t ∧
      (other.isReading = true → KeepsAllBut [.contexts, .engine] s t ∧ t.ctx c = .out { o with bufs := vset o.bufs b .free }) ∧
      (other.isReading = false → KeepsAllBut [.contexts, .engine, .table, .backlog] s t ∧ t.ctx c = .free ∧ OtherRecords o.key s t ∧
        (s.table.find o.key = none → t.table.records = s.table.records ∧ t.table.linger = s.table.linger) ∧
        (∀ r, s.table.find o.key = some r → StandsOrRetires True r s t ∧ OwedKept o.key s t) ∧
        ∃ es, PressureCompared (s.hasRoom 1) es s t ∧ t.backlog.entries = s.backlog.entries ++ es ∧ t.backlog.owedList = s.backlog.owedList)
    (s.hme.find (.segRead c b) Op.succeeded = some op →
      aborting (.segmentReadDone c b) ∧
      (∀ ch g discard r, o.state = .sending → vget o.bufs b = .reading ch g discard → s.table.find o.key = some r →
        ∃ t e, exec (.segmentReadDone c b) s = .next t ∧ KeepsAllBut [.contexts, .engine] s t ∧ t.hme = s.hme.without op.id ∧ OtherContexts c s t ∧
          t.ctx c = .out e ∧ { e with bufs := o.bufs, acc := o.acc } = o ∧
          let bytes := op.data
          let becomes := fun (acc : BitVec 32) (this that : Buf) => e.acc = acc ∧ vget e.bufs b = this ∧ vget e.bufs (otherBuf b) = that
          let first := foldedAcc g o.acc bytes
          (discard = true →
            (∀ a i bs, other = .unfolded a i bs → becomes (foldedAcc i o.acc bs) .free (foldedBuf r.size a i (foldedAcc i o.acc bs) bs)) ∧
            ((∀ a i bs, other ≠ .unfolded a i bs) → becomes o.acc .free other)) ∧
          (discard = false →
            (∀ a i bs, other = .unfolded a i bs → ch < a ∨ (ch = a ∧ g < i) →
              becomes (foldedAcc i first bs) (foldedBuf r.size ch g first bytes) (foldedBuf r.size a i (foldedAcc i first bs) bs)) ∧
            (∀ a i bs, other = .unfolded a i bs → a < ch ∨ (a = ch ∧ i < g) →
              let earlier := foldedAcc i o.acc bs
              becomes (foldedAcc g earlier bytes) (foldedBuf r.size ch g (foldedAcc g earlier bytes) bytes) (foldedBuf r.size a i earlier bs)) ∧
            (other = .free ∨ (∃ a i bs k, other = .ready a i bs k) ∨ (∃ a i, other = .reading a i true) ∨
                (∃ a i, other = .reading a i false ∧ (ch < a ∨ (ch = a ∧ g < i))) →
              becomes first (foldedBuf r.size ch g first bytes) other) ∧
            (∀ a i, other = .reading a i false → a < ch ∨ (a = ch ∧ i < g) → becomes o.acc (.unfolded ch g bytes) other)))) ∧
    (s.hme.find (.segRead c b) Op.failed = some op →
      aborting (.segmentReadFail c b) ∧
      (∀ r, o.state = .sending → s.table.find o.key = some r → r.role = .localRole → r.state = .opened →
        let ended := { o with bufs := vset o.bufs b .free }
        ∃ t, exec (.segmentReadFail c b) s = .next t ∧ KeepsAllBut [.backlog, .table, .contexts, .port, .engine] s t ∧ OtherRecords o.key s t ∧
          t.table.linger = s.table.linger ∧
          OutboundEnded c ended (s.withHme (s.hme.without op.id)) t ∧ SlotFails r o.dest .hostRead (vget r.slots o.dest).retries s t))

/-- R101, R102, R103: an ACK above the acknowledged count and not above the next chunk is taken: it frees what lies below it, moves the reading position out of what lies below it,
and restarts or stops the stall timer; at the chunk count the slot becomes CONFIRMING and the context ends. Any other ACK, and one in OFFERING, changes nothing.
R91, R104, R89: the reply timer and the stall timer of an outbound context act once their deadline has passed, each counting a retry: below the limit the OFFER is sent again and
the reply timer starts in full, or the context goes back to its acknowledged count and reads every segment afresh. Before the deadline, and in another state, nothing changes. -/
def Obligations.AcksAndTimersMoveTheTransfer : Prop :=
  (∀ (c : CtxNo) (o : OutCtx) (r : Record) (ack : BitVec 16) (s : State), Serves s c o r → s.admits o.dest = true →
    let x := o.dest
    let e := ack.toNat
    let taken := o.state = .sending ∧ o.acked < e ∧ e ≤ o.next
    (¬ taken → exec (.ack x o.key o.version ack) s = .next s) ∧
    (taken → e = o.chunks → ∃ t, exec (.ack x o.key o.version ack) s = .next t ∧ KeepsAllBut [.table, .lists, .contexts, .port, .engine] s t ∧
      OutboundEnded c o s t ∧ JoinsConfirm x o.key s t ∧ OtherRecords o.key s t ∧ TableRestKept s t ∧
      t.table.find o.key = some (r.withSlot x ((vget r.slots x).moved .confirming))) ∧
    (taken → e ≠ o.chunks → ∃ t q, exec (.ack x o.key o.version ack) s = .next t ∧ KeepsAllBut [.contexts] s t ∧ OtherContexts c s t ∧
      t.ctx c = .out q ∧ q.acked = e ∧ q.next = o.next ∧ q.state = .sending ∧ q.key = o.key ∧ q.version = o.version ∧ q.dest = x ∧ q.chunks = o.chunks ∧
      q.burst = o.burst ∧ q.order = o.order ∧
      q.timer = (if e < o.next ∧ s.sendable x = true then some (s.now + s.settingTime 0) else none) ∧
      (o.readChunk < e → q.readChunk = o.next ∧ q.readSeg = 0) ∧ (e ≤ o.readChunk → q.readChunk = o.readChunk ∧ q.readSeg = o.readSeg) ∧
      ∀ b : Fin 2,
        (∀ ch g d, vget o.bufs b = .reading ch g d → vget q.bufs b = .reading ch g (d || decide (ch < e))) ∧
        (∀ ch g bs k, vget o.bufs b = .ready ch g bs k → vget q.bufs b = if ch < e then .free else .ready ch g bs k) ∧
        (∀ ch g bs, vget o.bufs b = .unfolded ch g bs → ch < e → vget q.bufs b = .free))) ∧
  (∀ (c : CtxNo) (o : OutCtx) (s : State), s.ctx c = .out o →
    let due := s.running = true ∧ ∃ d, o.timer = some d ∧ d ≤ s.now
    let frame := fun t : State => OtherRecords o.key s t ∧ TableRestKept s t
    let counted := fun (r : Record) (n : Nat) => r.withSlot o.dest { vget r.slots o.dest with retries := n }
    (¬ (due ∧ o.state = .offering) → exec (.replyTimerExpiry c) s = .next s) ∧
    (¬ (due ∧ o.state = .sending) → exec (.stallTimerExpiry c) s = .next s) ∧
    (∀ r, due → s.table.find o.key = some r → r.role = .localRole → r.state = .opened →
      (o.state = .offering → ∃ t, exec (.replyTimerExpiry c) s = .next t ∧ KeepsAllBut [.backlog, .table, .contexts, .port, .engine] s t ∧ frame t ∧
        RetryCounted c o r s t (fun n => t.backlog = s.backlog ∧ t.hme = s.hme ∧ t.table.find o.key = some (counted r n) ∧
          t.ctx c = .out { o with timer := some (s.now + s.settingTime 1) } ∧ OtherContexts c s t ∧
          FrameSent o.dest (.offer o.key r.version r.kind r.size r.contentTag) s t ∧ t.wan.holder = s.wan.holder)) ∧
      (o.state = .sending → ∃ t, exec (.stallTimerExpiry c) s = .next t ∧ KeepsAllBut [.backlog, .table, .contexts, .port, .engine] s t ∧ frame t ∧
        RetryCounted c o r s t (fun n => t.backlog = s.backlog ∧ t.hme = s.hme ∧ t.wan = s.wan ∧ t.table.find o.key = some (counted r n) ∧
          OtherContexts c s t ∧ ∃ q, t.ctx c = .out q ∧
            { o with next := o.acked, readChunk := o.acked, readSeg := 0, acc := 0, timer := none, bufs := q.bufs } = q ∧
            ∀ b : Fin 2, (∀ ch g d, vget o.bufs b = .reading ch g d → vget q.bufs b = .reading ch g true) ∧
              ((vget o.bufs b).isReading = false → vget q.bufs b = .free)))))

/-! ## Inbound transfers -/

/-- R112 to R115, R117: the answer to an OFFER. A frame that fails the tests of R112 changes nothing. For a key without a record: CONTENT is bound to the lowest FREE context and
answered PENDING, with OFFER_IN; a TOMBSTONE lands at once, with OFFER_IN and then LANDED, each placed or owed, and is answered ACCEPTED; BUSY when the set or the pool can take none, nothing
created. For a record of an equal version the answer follows its state (a WAITING tombstone lands afresh), and an older version is answered NEWER. A created record is counted against the pressure mark
(R20, R21), and a full set gives up its evictable record (R14). That a PRESSURE notice stands behind the other notices of its claim is the model's choice (log entry 17), and so is the value
of the answer-wanted flag when set (log entry 39). -/
def Obligations.OffersAreAnsweredFromTheRecord : Prop :=
  ∀ (x : Region) (f : OfferFrame) (s : State), s.admits x = true →
    let k := f.key
    let v := f.version
    let size := f.size.toNat
    let bad := v.origin.toNat = s.ownIndex ∨ v.origin.toNat ≠ x.val ∨ 67108864 < size ∨ f.kind.toNat ∉ [0, 1] ∨ (f.kind.toNat = 1 ∧ size ≠ 0)
    let answers := fun (reason : ReplyReason) (t : State) => FrameSent x (.reply k v reason 0 none) s t
    let only := fun reason => ∃ t, exec (.offer x f) s = .next t ∧ KeepsAllBut [.port] s t ∧ answers reason t
    let able := (s.table.inSet (setOf k)).length < 8 ∨ s.evictable (setOf k) ≠ none
    let contextFree := s.pool.inCount < 32 ∧ ∃ c, s.ctx c = .free
    let fresh := fun (st : RecState) (bound : Option CtxNo) (q : Record) => q.key = k ∧ q.version = v ∧ q.size = size ∧ q.contentTag = f.contentTag ∧
      q.chunks = (size + 262143) / 262144 ∧ q.role = .remoteRole ∧ q.state = st ∧ q.outcome = none ∧ q.inbound = bound ∧ q.linger = none ∧
      ∀ y, (vget q.slots y).state = .notTarget
    let binds := fun (c : CtxNo) (r : Record) (t : State) => OtherContexts c s t ∧ t.pool.nextOrder = s.pool.nextOrder ∧
      t.ctx c = .inb { key := k, version := v, source := regionOf v.origin, kind := .content, size := r.size, chunks := r.chunks, state := .awaitHost,
                       landing := [], expected := 0, received := Vector.replicate 32 none, carried := none, acked := 0,
                       timer := some (s.now + s.settingTime 3), cancel := none }
    (bad → exec (.offer x f) s = .next s) ∧
    (¬ bad → s.table.find k = none → f.kind.toNat = 0 →
      (¬ (able ∧ contextFree) → only .busy) ∧
      (∀ c, able → s.pool.inCount < 32 → s.ctx c = .free → (∀ d, d < c → s.ctx d ≠ .free) →
        ∃ t q, exec (.offer x f) s = .next t ∧ KeepsAllBut [.backlog, .table, .contexts, .port] s t ∧ answers .pending t ∧
          t.table.find k = some q ∧ fresh .offered (some c) q ∧ q.kind = .content ∧ binds c q t ∧
          RecordNoticesCompared s.hasRoom k [.offerIn k v .content size f.contentTag true] [] s t)) ∧
    (¬ bad → s.table.find k = none → f.kind.toNat = 1 →
      (¬ able → only .busy) ∧
      (able → ∃ t q, exec (.offer x f) s = .next t ∧ KeepsAllBut [.backlog, .table, .port] s t ∧ answers .accepted t ∧
        t.table.find k = some q ∧ fresh .landed none q ∧ q.kind = .tombstone ∧
        RecordNoticesCompared s.hasRoom k [.offerIn k v .tombstone size f.contentTag false, .landed k v .tombstone size] [] s t)) ∧
    (¬ bad → s.table.find k = none → able → (s.table.inSet (setOf k)).length < 8 → ∀ t, exec (.offer x f) s = .next t → OtherRecords k s t ∧ t.table.linger = s.table.linger) ∧
    (∀ e, ¬ bad → s.table.find k = none → 8 ≤ (s.table.inSet (setOf k)).length → s.evictable (setOf k) = some e → (f.kind.toNat = 0 → contextFree) →
      ∃ t, exec (.offer x f) s = .next t ∧ Retired e s t ∧ ∀ q, q ≠ k → q ≠ e → t.table.find q = s.table.find q) ∧
    (∀ r, ¬ bad → s.table.find k = some r →
      (v.seq.toNat < r.version.seq.toNat ∨ (v.seq = r.version.seq ∧ v.origin.toNat < r.version.origin.toNat) →
        ∃ t, exec (.offer x f) s = .next t ∧ KeepsAllBut [.port] s t ∧ FrameSent x (.reply k v .newer 0 (some r.version)) s t) ∧
      (r.version = v →
        (r.state = .offered → only .pending) ∧ (r.state = .landed → only .landed) ∧
        (r.state = .settled → r.outcome = some .committed → only .haveVersion) ∧ (r.state = .settled → r.outcome ≠ some .committed → only .declined) ∧
        (∀ c i, r.state = .receiving → r.inbound = some c → s.ctx c = .inb i → ∃ t, exec (.offer x f) s = .next t ∧
          KeepsAllBut [.contexts, .port] s t ∧ OtherContexts c s t ∧ t.ctx c = .inb { i with timer := some (s.now + s.settingTime 4) } ∧
          FrameSent x (.reply k v .accepted i.acked none) s t) ∧
        (r.state = .waiting → r.kind = .content →
          (r.inbound ≠ none ∨ ¬ contextFree → only .busy) ∧
          (∀ c, r.inbound = none → s.pool.inCount < 32 → s.ctx c = .free → (∀ d, d < c → s.ctx d ≠ .free) →
            ∃ t q, exec (.offer x f) s = .next t ∧ KeepsAllBut [.backlog, .table, .contexts, .port] s t ∧ OtherRecords k s t ∧ answers .pending t ∧
              t.table.find k = some q ∧ Record.sameBody { r with state := .offered, inbound := some c } q ∧ binds c r t ∧
              t.table.linger = s.table.linger ∧ RecordNotices s.hasRoom k [.offerIn k v .content r.size r.contentTag true] [] s t)) ∧
        (r.state = .waiting → r.kind = .tombstone → ∃ t q, exec (.offer x f) s = .next t ∧ KeepsAllBut [.backlog, .table, .port] s t ∧ OtherRecords k s t ∧
          answers .accepted t ∧ t.table.find k = some q ∧ Record.sameBody { r with state := .landed } q ∧
          t.table.linger = s.table.linger ∧ RecordNotices s.hasRoom k [.offerIn k v .tombstone r.size r.contentTag false, .landed k v .tombstone r.size] [] s t)))

/-- R116, R16 to R19, R7, R114, R115, R134: an OFFER of a version newer than the record's supersedes it whatever follows: the record is REMOTE at the new version, its slots NONE, off every list,
with WITHDRAW to each region with a bound context and REPLY NEWER to the origin of an unsettled REMOTE version. The outbound contexts bound to its slots end, and an inbound one in AWAIT_HOST or
RECEIVING is cancelled with drain. Then it is offered afresh: OFFERED with the lowest FREE context, which may be one just freed, WAITING with BUSY while its context drains or none can be bound, or
LANDED for a tombstone. The notice of R19 comes before OFFER_IN and LANDED, each placed or owed. -/
def Obligations.OffersOfANewerVersionSupersede : Prop :=
  ∀ (x : Region) (f : OfferFrame) (r : Record) (s : State), s.admits x = true → s.table.find f.key = some r →
    f.version.origin.toNat ≠ s.ownIndex → f.version.origin.toNat = x.val → f.size.toNat ≤ 67108864 →
    (f.kind.toNat = 0 ∨ (f.kind.toNat = 1 ∧ f.size.toNat = 0)) →
    r.version.seq.toNat < f.version.seq.toNat ∨ (r.version.seq = f.version.seq ∧ r.version.origin.toNat < f.version.origin.toNat) →
    (r.state = .settled → (∀ y, (vget r.slots y).ctx = none) ∧ ∀ c i, r.inbound = some c → s.ctx c = .inb i → i.state = .draining) →
    (∀ y c, (vget r.slots y).ctx = some c → (s.ctx c).key = some f.key) → (∀ c, r.inbound = some c → (s.ctx c).key = some f.key) →
    let k := f.key
    let v := f.version
    let heard := fun y : Region => (s.region y).state ≠ .suspended ∧ s.wan.carrier = true ∧ s.wan.queue.length ≤ 100
    let offered := fun (t : State) (q : Record) => q.state = .offered ∧
      (∃ d i, q.inbound = some d ∧ t.ctx d = .inb i ∧ (∀ e, e < d → t.ctx e ≠ .free) ∧ i.state = .awaitHost ∧ i.key = k ∧ i.version = v ∧ i.source = x ∧
        i.timer = some (s.now + s.settingTime 3)) ∧ (heard x → { dest := x, body := .reply k v .pending 0 none } ∈ t.wan.queue)
    let refused := fun (t : State) (q : Record) => q.state = .waiting ∧ (heard x → { dest := x, body := .reply k v .busy 0 none } ∈ t.wan.queue)
    ∃ t q, exec (.offer x f) s = .next t ∧ KeepsAllBut [.backlog, .table, .lists, .contexts, .staging, .port, .engine] s t ∧ OtherRecords k s t ∧
      t.table.find k = some q ∧ q.version = v ∧ q.kind = (if f.kind.toNat = 0 then .content else .tombstone) ∧ q.size = f.size.toNat ∧
      q.chunks = (f.size.toNat + 262143) / 262144 ∧ q.contentTag = f.contentTag ∧ q.role = .remoteRole ∧ q.outcome = none ∧ q.linger = none ∧
      (∀ y, (vget q.slots y).state = .notTarget) ∧ k ∉ t.table.linger ∧
      (∀ y, vget t.sched.work y = (vget s.sched.work y).filter fun u => u != k) ∧
      (∀ y, vget t.sched.confirm y = (vget s.sched.confirm y).filter fun e => e.key != k) ∧
      (∀ y c, (vget r.slots y).ctx = some c → heard y → { dest := y, body := .withdraw k r.version } ∈ t.wan.queue) ∧
      (r.role = .remoteRole → r.state ≠ .settled → heard (regionOf r.version.origin) →
        { dest := regionOf r.version.origin, body := .reply k r.version .newer 0 (some v) } ∈ t.wan.queue) ∧
      (f.kind.toNat = 1 → q.state = .landed ∧ (heard x → { dest := x, body := .reply k v .accepted 0 none } ∈ t.wan.queue)) ∧
      (f.kind.toNat = 0 → r.inbound = none → s.pool.inCount < 32 → (∃ c, s.ctx c = .free) → offered t q) ∧
      (f.kind.toNat = 0 → r.inbound = none → s.pool.inCount < 32 → (∃ c o, BoundOut s r c o ∧ ¬ ReadsLeft c o s) → offered t q) ∧
      (f.kind.toNat = 0 → r.inbound = none → 32 ≤ s.pool.inCount ∨ (∀ c, s.ctx c ≠ .free ∧ ∀ o, BoundOut s r c o → ReadsLeft c o s) → refused t q ∧ q.inbound = none) ∧
      (f.kind.toNat = 0 → DrainsAlready s r → refused t q ∧ q.inbound = r.inbound) ∧
      (∀ c o, BoundOut s r c o → (q.inbound = some c ∧ ¬ ReadsLeft c o s ∨ ContextEnded c o s t) ∧ t.wan.holder ≠ some c) ∧
      ((∀ c o, BoundOut s r c o → s.wan.holder ≠ some c) → t.wan.holder = s.wan.holder) ∧
      (∀ c, (∀ o, ¬ BoundOut s r c o) → r.inbound ≠ some c → q.inbound ≠ some c → t.ctx c = s.ctx c) ∧
      (r.inbound = none ∨ DrainsAlready s r → t.inbound = s.inbound ∧ (∀ c, r.inbound = some c → t.ctx c = s.ctx c) ∧
        ∀ op, op ∈ t.hme.ops ↔ op ∈ s.hme.ops ∧ ¬ ∃ c o, BoundOut s r c o ∧ op.use.readsFor c = true ∧ op.untouched = true) ∧
      (∀ c i, BoundIn s r c i → StagingCancelled c s t ∧ HoldingFollows s t ∧
        (DrainedAtOnce s c → (q.inbound = some c ∨ t.ctx c = .free) ∧ (f.kind.toNat = 1 → q.inbound = none) ∧ (f.kind.toNat = 0 → s.pool.inCount ≤ 32 → offered t q)) ∧
        (¬ DrainedAtOnce s c → t.ctx c = .inb (i.drainingFor .superseded) ∧ q.inbound = some c ∧ (f.kind.toNat = 0 → refused t q))) ∧
      ∀ given, SupersedeGives r v .remoteRole s given → RecordNotices s.hasRoom k (given ++
        (if q.state = .offered then [.offerIn k v .content f.size.toNat f.contentTag true]
         else if q.state = .landed then [.offerIn k v .tombstone 0 f.contentTag false, .landed k v .tombstone 0] else [])) [] s t

/-- R119, R120: an ACCEPT with 1 to 16 extents reads its landing table first; with 0 or above 16 it is decided at the take. A refusal changes nothing but completes; one that passes makes the
record RECEIVING with the landing list, or LANDED for size 0 with LANDED given, and sends REPLY ACCEPTED. A failed read completes HOST_MEMORY_ERROR. That the LANDED
notice stands before the completion is the model's choice (log entry 17), and so are the zeros for an extent index of COUNT and SUM and for the result count (log entry 38). -/
def Obligations.AcceptIsDecidedOnTheRecord : Prop :=
  (∀ (ring : ReqRing) (q : AcceptReq) (s : State), s.takeOk ring = true →
    let count := q.extentCount.toNat
    (1 ≤ count → count ≤ 16 → ∃ t, exec (.accept ring q) s = .next t ∧ KeepsAllBut [.backlog, .requests, .engine] s t ∧
      t.backlog = { s.backlog with reservations := s.backlog.reservations + 1 } ∧
      t.reqs = { s.reqs with nextId := s.reqs.nextId + 1, accepts := s.reqs.accepts ++ [{ id := s.reqs.nextId, ring := ring, req := q }] } ∧
      OperationAdded (.landing s.reqs.nextId) (readBursts (cutPieces [(q.table, 16 * count)])) s.hme t.hme) ∧
    (count = 0 ∨ 16 < count →
      (∀ status body, AcceptRefused s q [] status body → exec (.accept ring q) s = .next (s.answered ring q.tag 0x05 status body)) ∧
      (∀ r c i, AcceptPasses s q [] r c → s.ctx c = .inb i →
        let done : EntryBody := .completion { ring := ring, tag := q.tag, kind := 0x05, status := .ok, body := .versionState r.version .landed }
        ∃ t, exec (.accept ring q) s = .next t ∧ KeepsAllBut [.backlog, .table, .contexts, .port] s t ∧ AcceptApplied r c i [] s t ∧
          RecordNotices s.roomOnceTaken r.key [.landed r.key r.version r.kind r.size] [done] s t))) ∧
  (∀ (id : Nat) (a : PendingAccept) (op : Op) (s : State), s.running = true → (s.reqs.accepts.find? fun a => a.id == id) = some a →
    let reqs := { s.reqs with accepts := s.reqs.accepts.filter fun b => b.id != id }
    let xs := extentsOf (op.data.length / 16) op.data
    (s.hme.find (.landing id) Op.succeeded = some op →
      (∀ status body, AcceptRefused s a.req xs status body → ∃ t, exec (.landingTableReadDone id) s = .next t ∧
        KeepsAllBut [.backlog, .requests, .engine] s t ∧ t.hme = s.hme.without op.id ∧ t.reqs = reqs ∧
        Completed a.ring a.req.tag 0x05 status body s t) ∧
      (∀ r c i, AcceptPasses s a.req xs r c → s.ctx c = .inb i →
        let done := fun state : RecState => EntryBody.completion { ring := a.ring, tag := a.req.tag, kind := 0x05, status := .ok,
                                                                   body := .versionState r.version state }
        ∃ t, exec (.landingTableReadDone id) s = .next t ∧ KeepsAllBut [.backlog, .requests, .engine, .table, .contexts, .port] s t ∧
          t.hme = s.hme.without op.id ∧ t.reqs = reqs ∧ AcceptApplied r c i xs s t ∧
          (0 < r.size → Completed a.ring a.req.tag 0x05 .ok (.versionState r.version .receiving) s t) ∧
          (r.size = 0 → RecordNotices s.hasRoom r.key [.landed r.key r.version r.kind r.size] [done .landed] s t))) ∧
    (s.hme.find (.landing id) Op.failed = some op → ∀ kind addr, op.failure = some (kind, addr) →
      ∃ t, exec (.landingTableReadFail id) s = .next t ∧ KeepsAllBut [.backlog, .requests, .engine] s t ∧ t.hme = s.hme.without op.id ∧ t.reqs = reqs ∧
        Completed a.ring a.req.tag 0x05 .hostMemoryError (.memory 0 addr) s t))

/-- R121, R132: DECLINE HAVE settles an offered record COMMITTED with REPLY HAVE and DECLINE REFUSE settles it REJECTED with REPLY DECLINED, its context FREE; COMMIT and REJECT settle a
landed record with CONFIRM. With no such record each completes with the reason and what the record stands at, and changes nothing. That a PRESSURE notice stands before the completion
is the model's choice (log entry 17), and so is that a record due at once is retired in the settling claim (log entry 25).
R10, R11, R12, R20: LINGER_EXPIRY retires a SETTLED record whose linger deadline has passed, unless it is owed or a context holds its key; while one of these fails nothing
but the pressure comparison happens. -/
def Obligations.TheVerdictSettlesAndLingerExpiryRetires : Prop :=
  (∀ (ring : ReqRing) (tag : Word) (k : Key) (v : Version) (s : State), s.takeOk ring = true →
    let completes := fun (kind : Nat) (o : Settle) (t : State) => ∃ es, PressureCompared (s.roomOnceTaken 1) es s t ∧
      t.backlog.reservations = s.backlog.reservations ∧ t.backlog.owedList = s.backlog.owedList ∧ t.backlog.entries = s.backlog.entries ++ es ++
        waitingEntries [.completion { ring := ring, tag := tag, kind := BitVec.ofNat 8 kind, status := .ok, body := .outcome o }]
    (∀ status body, NoOfferStands s k v status body → ∀ reason ∈ [(1 : Byte), 2],
      exec (.decline ring tag k v reason) s = .next (s.answered ring tag 0x06 status body)) ∧
    (∀ r c, OfferStands s k v r c →
      (∃ t, exec (.decline ring tag k v 1) s = .next t ∧ KeepsAllBut [.backlog, .table, .contexts, .port] s t ∧ OtherRecords k s t ∧
        t.ctx c = .free ∧ OtherContexts c s t ∧ RemoteSettled { r with inbound := none } .committed s t ∧
        FrameSent (regionOf v.origin) (.reply k v .haveVersion 0 none) s t ∧ completes 0x06 .committed t) ∧
      (∃ t, exec (.decline ring tag k v 2) s = .next t ∧ KeepsAllBut [.backlog, .table, .contexts, .port] s t ∧ OtherRecords k s t ∧
        t.ctx c = .free ∧ OtherContexts c s t ∧ RemoteSettled { r with inbound := none } .rejected s t ∧
        FrameSent (regionOf v.origin) (.reply k v .declined 0 none) s t ∧ completes 0x06 .rejected t)) ∧
    (∀ body, (s.table.find k = none ∧ body = .plain) ∨
        (∃ r, s.table.find k = some r ∧ ¬ (r.role = .remoteRole ∧ r.version = v ∧ r.state = .landed) ∧ body = .versionState r.version r.state) →
      exec (.commit ring tag k v) s = .next (s.answered ring tag 0x07 .notLanded body) ∧
      exec (.reject ring tag k v) s = .next (s.answered ring tag 0x08 .notLanded body)) ∧
    (∀ r, s.table.find k = some r → r.role = .remoteRole → r.version = v → r.state = .landed →
      (∃ t, exec (.commit ring tag k v) s = .next t ∧ KeepsAllBut [.backlog, .table, .port] s t ∧ OtherRecords k s t ∧ RemoteSettled r .committed s t ∧
        FrameSent (regionOf v.origin) (.confirm k v true) s t ∧ completes 0x07 .committed t) ∧
      (∃ t, exec (.reject ring tag k v) s = .next t ∧ KeepsAllBut [.backlog, .table, .port] s t ∧ OtherRecords k s t ∧ RemoteSettled r .rejected s t ∧
        FrameSent (regionOf v.origin) (.confirm k v false) s t ∧ completes 0x08 .rejected t))) ∧
  (∀ (k : Key) (r : Record) (s : State), s.running = true → s.table.find k = some r →
    let retirable := (∃ d, r.linger = some d ∧ d ≤ s.now) ∧ r.state = .settled ∧ r.owed = false ∧ ∀ c, (s.ctx c).key ≠ some k
    ∃ t es, exec (.lingerExpiry k) s = .next t ∧ KeepsAllBut [.table, .backlog] s t ∧ PressureCompared (s.hasRoom 1) es s t ∧
      t.backlog.entries = s.backlog.entries ++ es ∧ t.backlog.owedList = s.backlog.owedList ∧ t.backlog.reservations = s.backlog.reservations ∧
      OtherRecords k s t ∧ (retirable → Retired k s t) ∧ (¬ retirable → t.table.records = s.table.records ∧ t.table.linger = s.table.linger))

/-- R122 to R124, R126, R129 to R131: a SEGMENT. While holding, one from a region with no HOLD sent within half the hold time draws a HOLD, and goes on as every other. For a RECEIVING context, one
out of shape, with a wrong check, above the expected chunk, already marked, or finding the FIFO full changes nothing; one below the expected chunk draws an ACK; any other is marked, joins the FIFO,
starts holding as the 48th entry, and restarts the idle timer. The last of its chunk compares the chunk check: the chunk is taken, and the acknowledged point moves over the chunks written with one
ACK, or its waiting entries leave, which may end holding. Without a context a landed or settled record answers its chunk count. That the hold test precedes the others is the model's choice (log
entry 17), and so are the bytes that the check of a SEGMENT given by its fields covers (log entries 29 and 40). -/
def Obligations.SegmentsAreTestedAndStaged : Prop :=
  (∀ (x : Region) (g : SegmentFrame) (s : State), s.admits x = true → HoldDue x s → ∃ h, KeepsAllBut [.staging, .port] s h ∧
    FrameSent x (.hold (s.setting 9)) s h ∧ h.wan = { s.wan with queue := h.wan.queue } ∧ ¬ HoldDue x h ∧
    h.inbound = { s.inbound with holdSent := vset s.inbound.holdSent x (some s.now) } ∧ exec (.segment x g) s = exec (.segment x g) h) ∧
  (∀ (x : Region) (g : SegmentFrame) (c : CtxNo) (i : InCtx) (s : State), s.admits x = true → ¬ HoldDue x s →
    s.receivingFor x g.key g.version = some c → s.ctx c = .inb i →
    let ch := g.chunk.toNat
    let sg := g.seg.toNat
    let n := segmentCount i.size ch
    let shape := ch < i.chunks ∧ sg < n ∧ g.payload.length = segmentLength i.size ch sg ∧ g.presence = (if sg + 1 = n then 1 else 0)
    let checked := SegmentFrame.computed g x.val s.ownIndex = g.check
    let starts := s.inbound.holding = false ∧ s.inbound.fifo.length + 1 = 48
    let sender := fun y : Region => ∃ d e, s.ctx d = .inb e ∧ e.state = .receiving ∧ e.source = y
    let queued := fun (y : Region) (body : CtlBody) (t : State) =>
      (s.region y).state ≠ .suspended → s.wan.carrier = true → s.wan.queue.length ≤ 100 → { dest := y, body := body } ∈ t.wan.queue
    let holds := fun t : State => ∀ y, sender y → queued y (.hold (s.setting 9)) t
    let staged := fun (fifo : List FifoEntry) (t : State) => t.inbound.fifo = fifo ∧ (t.inbound.holding = true ↔ s.inbound.holding = true ∨ starts) ∧
      (¬ starts → t.inbound.holdSent = s.inbound.holdSent) ∧
      (starts → holds t ∧ ∀ y, (sender y → vget t.inbound.holdSent y = some s.now) ∧ (¬ sender y → vget t.inbound.holdSent y = vget s.inbound.holdSent y))
    (¬ (shape ∧ checked) → exec (.segment x g) s = .next s) ∧
    (shape → checked → ch < i.expected → ∃ t, exec (.segment x g) s = .next t ∧ KeepsAllBut [.port] s t ∧
      FrameSent i.source (.ack i.key i.version i.acked) s t) ∧
    (shape → checked → i.expected < ch → exec (.segment x g) s = .next s) ∧
    (∀ j : Fin 32, shape → checked → ch = i.expected → j.val = sg →
      let taken := { i with received := vset i.received j (some g.payload), carried := if sg + 1 = n then some g.chunkCheck else i.carried,
                            timer := some (s.now + s.settingTime 4) }
      let entry : FifoEntry := { ctx := c, chunk := ch, seg := sg, payload := g.payload, op := none, discarded := false }
      let fifo := s.inbound.fifo ++ [entry]
      let whole := ∀ m : Fin 32, m.val < n → (vget taken.received m).isSome = true
      let good := taken.carried = some (crc32c (taken.received.toList.flatMap fun p => p.getD []))
      let left := fun ch : Nat => ∃ e ∈ fifo, e.ctx = c ∧ e.chunk = ch ∧ e.discarded = false
      ((vget i.received j).isSome = true ∨ 64 ≤ s.inbound.fifo.length → exec (.segment x g) s = .next s) ∧
      (vget i.received j = none → s.inbound.fifo.length < 64 →
        (¬ whole → ∃ t, exec (.segment x g) s = .next t ∧ KeepsAllBut [.contexts, .staging, .port] s t ∧ OtherContexts c s t ∧ t.ctx c = .inb taken ∧
          staged fifo t ∧ (¬ starts → t.wan = s.wan)) ∧
        (∀ p, whole → good → i.acked ≤ p → p ≤ i.expected → (∀ ch, i.acked ≤ ch → ch < p → ¬ left ch) → (p < i.expected → left p) →
          ∃ t, exec (.segment x g) s = .next t ∧ KeepsAllBut [.contexts, .staging, .port] s t ∧ OtherContexts c s t ∧ staged fifo t ∧
            t.ctx c = .inb { taken with expected := i.expected + 1, received := Vector.replicate 32 none, carried := none, acked := p,
                                        timer := if i.expected + 1 = i.chunks then none else taken.timer } ∧
            (¬ starts → p = i.acked → t.wan = s.wan) ∧ (¬ starts → i.acked < p → FrameSent i.source (.ack i.key i.version p) s t) ∧
            (i.acked < p → queued i.source (.ack i.key i.version p) t)) ∧
        (whole → ¬ good →
          let rest := (s.inbound.fifo.filter fun e => !(e.ctx == c && e.chunk == ch && e.op.isNone)).map fun e =>
            if e.ctx = c ∧ e.chunk = ch then { e with discarded := true } else e
          let ends := (s.inbound.holding = true ∨ starts) ∧ rest.length ≤ 16
          ∃ t, exec (.segment x g) s = .next t ∧ KeepsAllBut [.contexts, .staging, .port] s t ∧ OtherContexts c s t ∧
            t.ctx c = .inb { taken with received := Vector.replicate 32 none, carried := none } ∧ (¬ ends → staged rest t) ∧ (¬ starts → ¬ ends → t.wan = s.wan) ∧
            (ends → t.inbound = { fifo := rest, holding := false, holdSent := Vector.replicate 8 none } ∧ (starts → holds t) ∧
              ∀ y, ((vget s.inbound.holdSent y).isSome = true ∨ (starts ∧ sender y)) → queued y .resume t))))) ∧
  (∀ (x : Region) (g : SegmentFrame) (s : State), s.admits x = true → s.receivingFor x g.key g.version = none →
    let answers := fun r : Record => r.role = .remoteRole ∧ r.version = g.version ∧ r.version.origin.toNat = x.val ∧ r.state ∈ [RecState.landed, .settled]
    (∀ r, ¬ HoldDue x s → s.table.find g.key = some r → answers r → ∃ t, exec (.segment x g) s = .next t ∧ KeepsAllBut [.port] s t ∧
      FrameSent x (.ack g.key g.version r.chunks) s t) ∧
    ((∀ r, s.table.find g.key = some r → ¬ answers r) →
      (¬ HoldDue x s → exec (.segment x g) s = .next s) ∧
      (HoldDue x s → ∃ t, exec (.segment x g) s = .next t ∧ KeepsAllBut [.staging, .port] s t ∧ FrameSent x (.hold (s.setting 9)) s t ∧
        t.inbound = { s.inbound with holdSent := vset s.inbound.holdSent x (some s.now) })))

/-- R125, R126, R127, R131, R134, R135: FIFO_WRITE_ISSUE hands the oldest waiting entry that no discarded write of its chunk holds back to the write client, at its place in the landing
extents. A completed write removes its entry and moves the acknowledged point over the chunks written, with one ACK; at the chunk count the record has LANDED. A failed write cancels the
transfer with drain and sends REPLY ABORTED. The last write of a DRAINING context frees it with its IN_CANCELLED notice, and its record, if due, retires (R10, R20). Whatever leaves the FIFO,
holding ends at 16 entries left, with RESUME to each held region. That RESUME stands before the ACK or REPLY of the same claim, in rising region order, and a PRESSURE notice behind
IN_CANCELLED, is the model's choice (log entry 17). -/
def Obligations.StagedSegmentsAreWritten : Prop :=
  (∀ s : State,
    let held := fun e : FifoEntry => ∃ d ∈ s.inbound.fifo, d.ctx = e.ctx ∧ d.chunk = e.chunk ∧ d.discarded = true ∧ d.op.isSome = true
    (s.running = false ∨ (∀ e ∈ s.inbound.fifo, e.op = none → held e) → exec .fifoWriteIssue s = .next s) ∧
    (∀ before e after i, s.running = true → s.inbound.fifo = before ++ e :: after → (∀ d ∈ before, d.op = none → held d) → e.op = none → ¬ held e →
      s.ctx e.ctx = .inb i → ∃ t, exec .fifoWriteIssue s = .next t ∧ KeepsAllBut [.staging, .engine] s t ∧
        t.inbound = { s.inbound with fifo := before ++ { e with op := some s.hme.nextOp } :: after } ∧
        OperationAdded (.segWrite e.ctx) (writeBursts (cutPieces (piecesOf i.landing (262144 * e.chunk + 8192 * e.seg) e.payload.length)) e.payload)
          s.hme t.hme)) ∧
  (∀ (id : Nat) (op : Op) (c : CtxNo) (i : InCtx) (s : State), s.running = true → op.use = .segWrite c → s.ctx c = .inb i →
    let rest := s.inbound.fifo.filter fun e => e.op != some id
    let left := fun ch : Nat => ∃ e ∈ rest, e.ctx = c ∧ e.chunk = ch ∧ e.discarded = false
    let writing := ∃ e ∈ rest, e.ctx = c ∧ e.op.isSome = true
    let staged := fun t : State => t.inbound.fifo = rest ∧ HoldingFollows s t ∧ t.hme = s.hme.without id ∧ t.wan = { s.wan with queue := t.wan.queue }
    let resumes := s.resumesAt rest.length
    let acks := fun p : Nat => resumes ++ [{ dest := i.source, body := .ack i.key i.version p }]
    let drains := fun command : Instr => i.state = .draining →
      (writing → ∃ t, exec command s = .next t ∧ KeepsAllBut [.staging, .engine, .port] s t ∧ staged t ∧ FramesSent resumes s t) ∧
      (∀ r why, ¬ writing → s.table.find i.key = some r → i.cancel = some why →
        let released := { r with inbound := if r.inbound = some c then none else r.inbound }
        ∃ t, exec command s = .next t ∧ KeepsAllBut [.staging, .engine, .contexts, .table, .backlog, .port] s t ∧ staged t ∧ FramesSent resumes s t ∧
          t.ctx c = .free ∧ OtherContexts c s t ∧ OtherRecords i.key s t ∧ StandsOrRetires (s.hasRoom 1) released s t ∧
          RecordNoticesCompared s.hasRoom i.key [.inCancelled i.key i.version why] [] s t)
    ((s.hme.ops.find? fun o => o.id == id && o.succeeded) = some op →
      drains (.segmentWriteDone id) ∧
      (∀ p, i.state = .receiving → i.acked ≤ p → p ≤ i.expected → (∀ ch, i.acked ≤ ch → ch < p → ¬ left ch) → (p < i.expected → left p) →
        (p = i.acked → ∃ t, exec (.segmentWriteDone id) s = .next t ∧ KeepsAllBut [.staging, .engine, .port] s t ∧ staged t ∧ FramesSent resumes s t) ∧
        (i.acked < p → p ≠ i.chunks → ∃ t, exec (.segmentWriteDone id) s = .next t ∧ KeepsAllBut [.staging, .engine, .contexts, .port] s t ∧ staged t ∧
          OtherContexts c s t ∧ t.ctx c = .inb { i with acked := p } ∧ FramesSent (acks p) s t) ∧
        (∀ r, i.acked < p → p = i.chunks → s.table.find i.key = some r → r.inbound = some c → ∃ t q, exec (.segmentWriteDone id) s = .next t ∧
          KeepsAllBut [.staging, .engine, .contexts, .port, .table, .backlog] s t ∧ staged t ∧ OtherContexts c s t ∧ t.ctx c = .free ∧
          OtherRecords i.key s t ∧ t.table.linger = s.table.linger ∧ t.table.find i.key = some q ∧
          Record.sameBody { r with state := .landed, inbound := none } q ∧ FramesSent (acks p) s t ∧
          RecordNotices s.hasRoom i.key [.landed i.key r.version r.kind r.size] [] s t))) ∧
    ((s.hme.ops.find? fun o => o.id == id && o.failed) = some op →
      drains (.segmentWriteFail id) ∧
      (∀ r, i.state = .receiving → s.table.find i.key = some r → r.inbound = some c → ∃ t, exec (.segmentWriteFail id) s = .next t ∧
        KeepsAllBut [.staging, .engine, .contexts, .port, .table, .backlog] s t ∧ OtherRecords i.key s t ∧ t.table.linger = s.table.linger ∧
        CancelledWithDrain c i .fault ((s.withHme (s.hme.without id)).withInbound { s.inbound with fifo := rest }) t ∧ HoldingFollows s t ∧
        CancelledRecord r c i.version .fault s t ∧ t.wan = { s.wan with queue := t.wan.queue } ∧
        FramesSent (s.resumesAt t.inbound.fifo.length ++ [{ dest := i.source, body := .reply i.key i.version .aborted 0 none }]) s t)))

/-- R133, R118, R128, R134: a WITHDRAW from its origin, a passed accept deadline and a passed idle deadline make the record WAITING. The WITHDRAW and the idle timer cancel the context with
drain; the accept timer frees it with IN_CANCELLED LAPSED and REPLY TIMEOUT; a LANDED record gives IN_CANCELLED in the claim. The entries that a cancel takes from the Staging FIFO may end
holding (R131), with RESUME to each held region in rising order (log entry 17). In every other case nothing changes. -/
def Obligations.InboundTransfersAreCalledOff : Prop :=
  (∀ (x : Region) (k : Key) (v : Version) (s : State), s.admits x = true →
    let acts := fun r : Record => r.role = .remoteRole ∧ r.version = v ∧ r.version.origin.toNat = x.val ∧
      r.state ∈ [RecState.offered, .receiving, .landed]
    let called := fun t : State => HoldingFollows s t ∧ FramesSent (s.resumesAt t.inbound.fifo.length) s t ∧ t.wan = { s.wan with queue := t.wan.queue }
    ((∀ r, s.table.find k = some r → ¬ acts r) → exec (.withdraw x k v) s = .next s) ∧
    (∀ r, s.table.find k = some r → acts r →
      (r.state = .landed → ∃ t, exec (.withdraw x k v) s = .next t ∧ KeepsAllBut [.table, .backlog] s t ∧ OtherRecords k s t ∧
        (∃ q, t.table.find k = some q ∧ Record.sameBody { r with state := .waiting } q) ∧
        t.table.linger = s.table.linger ∧ RecordNotices s.hasRoom k [.inCancelled k v .withdrawn] [] s t) ∧
      (∀ c i, r.state ≠ .landed → r.inbound = some c → s.ctx c = .inb i → i.key = k → ∃ t, exec (.withdraw x k v) s = .next t ∧
        KeepsAllBut [.staging, .engine, .contexts, .port, .table, .backlog] s t ∧ OtherRecords k s t ∧ t.table.linger = s.table.linger ∧ called t ∧
        CancelledWithDrain c i .withdrawn s t ∧ CancelledRecord r c i.version .withdrawn s t))) ∧
  (∀ (c : CtxNo) (i : InCtx) (s : State), s.ctx c = .inb i →
    let due := s.running = true ∧ ∃ d, i.timer = some d ∧ d ≤ s.now
    let called := fun t : State => HoldingFollows s t ∧ FramesSent (s.resumesAt t.inbound.fifo.length) s t ∧ t.wan = { s.wan with queue := t.wan.queue }
    (¬ (due ∧ i.state = .awaitHost) → exec (.acceptTimerExpiry c) s = .next s) ∧
    (¬ (due ∧ i.state = .receiving) → exec (.idleTimerExpiry c) s = .next s) ∧
    (∀ r, due → s.table.find i.key = some r → r.inbound = some c →
      (i.state = .awaitHost → ∃ t, exec (.acceptTimerExpiry c) s = .next t ∧ KeepsAllBut [.contexts, .port, .table, .backlog] s t ∧
        OtherRecords i.key s t ∧ OtherContexts c s t ∧ t.ctx c = .free ∧
        (∃ q, t.table.find i.key = some q ∧ Record.sameBody { r with state := .waiting, inbound := none } q) ∧
        t.table.linger = s.table.linger ∧ RecordNotices s.hasRoom i.key [.inCancelled i.key i.version .lapsed] [] s t ∧
        FrameSent i.source (.reply i.key i.version .timeout 0 none) s t) ∧
      (i.state = .receiving → ∃ t, exec (.idleTimerExpiry c) s = .next t ∧ KeepsAllBut [.staging, .engine, .contexts, .port, .table, .backlog] s t ∧
        OtherRecords i.key s t ∧ t.table.linger = s.table.linger ∧ called t ∧ CancelledWithDrain c i .idle s t ∧
        CancelledRecord r c i.version .idle s t)))

/-! ## Regions -/

/-- R140, R144, R69, R146, R142: a frame heard sets the heard flag and clears the miss count; a DARK region becomes LIVE with its whole Confirm List moved, in order, to the tail of its
Work Queue, its slots PENDING, and a REGION_STATE notice, given or owed. PROBE is answered with ECHO; ECHO has no effect of its own. -/
def Obligations.HearingFromARegion : Prop :=
  (∀ (x : Region) (s : State), s.admits x = true →
    let e := s.region x
    let moved := (vget s.sched.confirm x).map (·.key)
    let notice := waitingEntries [.notice (.regionState x .live e.lastReported 0 (e.unreported + 1)) false]
    (e.state = .live → ∃ t, exec (.frameHeard x) s = .next t ∧ KeepsAllBut [.regions] s t ∧ OtherRegions x s t ∧ t.regions.probe = s.regions.probe ∧
      t.region x = { e with heard := true, miss := 0 }) ∧
    (e.state = .dark → ∃ t, exec (.frameHeard x) s = .next t ∧ KeepsAllBut [.regions, .lists, .table, .backlog, .contexts] s t ∧ OtherRegions x s t ∧
      t.regions.probe = s.regions.probe ∧ SendabilityHandedOn x s t ∧
      t.sched = { s.sched with work := vset s.sched.work x (vget s.sched.work x ++ moved), confirm := vset s.sched.confirm x [] } ∧
      (∀ k r, s.table.find k = some r → t.table.find k = some (if k ∈ moved then r.withSlot x ((vget r.slots x).moved .pending) else r)) ∧ TableRestKept s t ∧
      (s.hasRoom 1 → t.region x = { e with heard := true, miss := 0, state := .live, lastReported := .live, unreported := 0 } ∧
        t.backlog = { s.backlog with entries := s.backlog.entries ++ notice }) ∧
      (¬ s.hasRoom 1 → t.backlog = s.backlog ∧
        t.region x = { e with heard := true, miss := 0, state := .live, unreported := min 255 (e.unreported + 1), owed := true })) ∧
    (∃ t, exec (.probe x) s = .next t ∧ KeepsAllBut [.port] s t ∧ FrameSent x .echo s t)) ∧
  (∀ (x : Region) (s : State), exec (.echo x) s = .next s)

/-- R141, R143, R105, R146, R187: a probe expiry. Each probed region not heard from counts a miss, up to 15, and its heard flag is cleared; a LIVE region at the miss limit becomes DARK, with
its contexts ended, FREE or ABORTING by the reads left (R87), their slots PENDING with the retry count kept, at its Work Queue tail in the order of binding. Its REGION_STATE stands in the
Backlog as far as there is room and is owed from there on; PROBE goes to every probed region and the timer starts again. Before the deadline nothing changes. That the notices and the PROBE
frames stand in rising region order is the model's choice (log entry 17). -/
def Obligations.ProbeExpiryFindsSilentRegions : Prop :=
  ∀ s : State,
    let probed := fun x : Region => (s.region x).state = .dark ∨ (s.region x).state = .live
    let misses := fun x : Region => if (s.region x).heard = true then (s.region x).miss else min 15 ((s.region x).miss + 1)
    let falls := fun x : Region => (s.region x).state = .live ∧ s.setting 7 ≤ misses x
    let due := s.running = true ∧ ∃ d, s.regions.probe = some d ∧ d ≤ s.now
    let notice := fun x : Region => EntryBody.notice (.regionState x .dark (s.region x).lastReported (misses x) ((s.region x).unreported + 1)) false
    let room := if s.anyOwed = true then 0 else 64 - (s.backlog.entries.length + s.backlog.reservations)
    (¬ due → exec .probeTimerExpiry s = .next s) ∧
    (due → ∃ t, exec .probeTimerExpiry s = .next t ∧ KeepsAllBut [.regions, .lists, .table, .backlog, .contexts, .port, .engine] s t ∧
      t.regions.probe = some (s.now + s.settingTime 6) ∧
      (∀ x, ¬ probed x → t.region x = s.region x) ∧
      (∀ x, probed x → ¬ falls x → t.region x = { s.region x with miss := misses x, heard := false }) ∧
      (∀ fallen : List Region, (∀ x, x ∈ fallen ↔ falls x) → fallen.Pairwise (· < ·) →
        t.backlog = { s.backlog with entries := s.backlog.entries ++ waitingEntries ((fallen.take room).map notice) } ∧
        ∀ x ∈ fallen,
          let e := { s.region x with miss := misses x, heard := false, state := .dark, backoff := none, held := none }
          t.region x = if x ∈ fallen.take room then { e with lastReported := .dark, unreported := 0 }
            else { e with unreported := min 255 (e.unreported + 1), owed := true }) ∧
      ((∀ x, ¬ falls x) → KeepsAllBut [.regions, .port] s t ∧ t.wan.holder = s.wan.holder) ∧
      (s.wan.carrier = true → s.wan.queue.length ≤ 120 → t.wan.queue = s.wan.queue ++
        (((List.finRange 8).filter fun x => (s.region x).state == .dark || (s.region x).state == .live).map fun x => { dest := x, body := .probe })) ∧
      (s.wan.carrier = false → t.wan.queue = s.wan.queue) ∧ TransfersCalledOff falls s t)

/-- R147, R148, R149, R151: the ends of backoff, hold and pace window, and the HOLD and RESUME of a region: what each leaves at the region's entry, with a change of sendability handed to the
contexts. A HOLD time outside 10 to 2,000 ms, and a deadline not passed, change nothing; that this holds of 1 to 9 ms is the model's reading (log entry 37). -/
def Obligations.BackoffHoldAndPaceAtTheEntry : Prop :=
  ∀ (x : Region) (s : State),
    let e := s.region x
    let becomes := fun (e' : RegionEntry) (t : State) => KeepsAllBut [.regions, .contexts] s t ∧ OtherRegions x s t ∧ t.regions.probe = s.regions.probe ∧
      t.region x = e' ∧ SendabilityHandedOn x s t
    let passed := fun deadline : Option Nat => s.running = true ∧ ∃ d, deadline = some d ∧ d ≤ s.now
    let ends := s.running = true ∧ e.remaining = 0 ∧ e.run = true ∧ (e.mode = .alternate ∨ (e.mode = .single ∧ e.phase = .a))
    (¬ passed e.backoff → exec (.backoffExpiry x) s = .next s) ∧
    (passed e.backoff → ∃ t, exec (.backoffExpiry x) s = .next t ∧ becomes { e with backoff := none } t ∧ t.pool = s.pool) ∧
    (¬ passed e.held → exec (.holdExpiry x) s = .next s) ∧
    (passed e.held → ∃ t, exec (.holdExpiry x) s = .next t ∧ becomes { e with held := none } t) ∧
    (s.admits x = true →
      (∀ time : BitVec 16, time.toNat < 10 ∨ 2000 < time.toNat → exec (.hold x time) s = .next s) ∧
      (∀ time : BitVec 16, 10 ≤ time.toNat → time.toNat ≤ 2000 → ∃ t, exec (.hold x time) s = .next t ∧
        becomes { e with held := some (s.now + time.toNat * 1000) } t) ∧
      ∃ t, exec (.resume x) s = .next t ∧ becomes { e with held := none } t) ∧
    (¬ ends → exec (.paceWindowEnd x) s = .next s) ∧
    (ends → e.phase = .a → ∃ t, exec (.paceWindowEnd x) s = .next t ∧
      becomes { e with phase := .b, remaining := e.quietWindow * 1000, windowEnd := true, run := e.mode == .alternate } t) ∧
    (ends → e.phase = .b → ∃ t, exec (.paceWindowEnd x) s = .next t ∧
      becomes { e with phase := .a, remaining := e.sendWindow * 1000, windowEnd := true } t)

/-- R152, R153, R149: a REGION.SET that fails a check only completes, BAD_REGION, BAD_SETTING or WRONG_STATE; one that passes, of a region that stays in its state, writes the groups
named in their order, hands a change of sendability to the contexts, and completes OK with the state, phase and time remaining.
R154: REGION.GET, from either ring, reports the entry as it stands with the lengths of its two lists and changes nothing; an index above 7 completes BAD_REGION. The times left to the two
deadlines are rounded up to milliseconds, which is the model's choice (log entry 16), and so are the zero at byte 8 of BAD_SETTING (log entry 33) and the zero time left of a region not held
(log entry 38). -/
def Obligations.RegionSetWritesItsGroupsAndRegionGetReads : Prop :=
  (∀ (q : RegionSetReq) (s : State), s.takeOk .management = true →
    let x := regionOf q.index
    let e := s.region x
    let other := q.index.toNat < s.regionCount ∧ q.index.toNat ≠ s.ownIndex
    let bad := RegionSetReq.badSetting q s
    let after := RegionSetReq.written q e
    let refused := fun status => exec (.regionSet .management q) s = .next (s.answered .management q.tag 0x21 status .plain)
    let stays := q.applyEnable = false ∨ (q.enable = true ∧ e.state ≠ .suspended) ∨ (q.enable = false ∧ e.state ≠ .dark ∧ e.state ≠ .live)
    (¬ other → refused .badRegion) ∧ (other → bad → refused .badSetting) ∧
    (other → ¬ bad → q.applyStation = true → e.state ≠ .suspended → refused .wrongState) ∧
    (other → ¬ bad → (q.applyStation = true → e.state = .suspended) → stays → ∃ t, exec (.regionSet .management q) s = .next t ∧
      KeepsAllBut [.backlog, .regions, .contexts] s t ∧ OtherRegions x s t ∧ t.regions.probe = s.regions.probe ∧ t.region x = after ∧
      SendabilityHandedOn x s t ∧
      t.backlog = (s.answered .management q.tag 0x21 .ok (.regionSet e.state e.state 0 after.phase after.remaining)).backlog)) ∧
  (∀ (ring : ReqRing) (tag : Word) (b : Byte) (s : State), s.takeOk ring = true →
    (7 < b.toNat → exec (.regionGet ring tag b) s = .next (s.answered ring tag 0x11 .badRegion .plain)) ∧
    (∀ x : Region, x.val = b.toNat → ∃ g, exec (.regionGet ring tag b) s = .next (s.answered ring tag 0x11 .ok (.regionGet g)) ∧
      let e := s.region x
      let left := fun (deadline : Option Nat) (n : Nat) => (deadline = none → n = 0) ∧ ∀ d, deadline = some d → d ≤ s.now + 1000 * n ∧
        (n = 0 ∨ s.now + 1000 * (n - 1) < d)
      g.station = e.station ∧ g.state = e.state ∧ g.lastReported = e.lastReported ∧ g.miss = e.miss ∧ g.heard = e.heard ∧ g.held = e.held.isSome ∧
      g.mode = e.mode ∧ g.sendWindow = e.sendWindow ∧ g.quietWindow = e.quietWindow ∧ g.run = e.run ∧ g.phase = e.phase ∧ g.remaining = e.remaining ∧
      g.windowEnd = e.windowEnd ∧ g.unreported = e.unreported ∧ left e.backoff g.backoffLeft ∧ left e.held g.heldLeft ∧
      g.workLength = (vget s.sched.work x).length ∧ g.confirmLength = (vget s.sched.confirm x).length))

/-- R152, R153, R145, R143, R146, R162, R105: a REGION.SET that passes its checks and changes the state, with whatever other groups it names. One that suspends a DARK or LIVE region ends
every outbound context to it, FREE or ABORTING by the reads left (R87), their slots PENDING with the retry count kept, at its Work Queue tail in the order of binding, and removes its
backoff, its hold and its frames in the Control Queue; one that returns a SUSPENDED region makes it DARK with miss count 0. Each gives REGION_STATE, or leaves it owed, writes its other
groups after that, and completes OK. That the notice stands before the completion is the model's choice (log entry 17). -/
def Obligations.RegionSetSuspendsAndReturnsARegion : Prop :=
  ∀ (q : RegionSetReq) (s : State), s.takeOk .management = true → q.index.toNat < s.regionCount → q.index.toNat ≠ s.ownIndex →
    q.applyEnable = true → ¬ RegionSetReq.badSetting q s →
    let x := regionOf q.index
    let e := s.region x
    let reports := fun (e' : RegionEntry) (aborted : Nat) (t : State) =>
      let after := RegionSetReq.written q e'
      let notice : EntryBody := .notice (.regionState x e'.state e.lastReported e'.miss (e.unreported + 1)) false
      let done : EntryBody := .completion { ring := .management, tag := q.tag, kind := 0x21, status := .ok,
                                            body := .regionSet e.state e'.state aborted after.phase after.remaining }
      t.backlog.reservations = s.backlog.reservations ∧ OtherRegions x s t ∧ t.regions.probe = s.regions.probe ∧
      (s.roomOnceTaken 1 → t.backlog.entries = s.backlog.entries ++ waitingEntries [notice, done] ∧
        t.region x = { after with lastReported := e'.state, unreported := 0 }) ∧
      (¬ s.roomOnceTaken 1 → t.backlog.entries = s.backlog.entries ++ waitingEntries [done] ∧
        t.region x = { after with unreported := min 255 (e.unreported + 1), owed := true })
    let bound := fun (c : CtxNo) => ∃ o, s.ctx c = .out o ∧ o.state ≠ .aborting ∧ o.dest = x
    (q.enable = true → e.state = .suspended → ∃ t, exec (.regionSet .management q) s = .next t ∧ KeepsAllBut [.backlog, .regions] s t ∧
      reports { e with state := .dark, miss := 0, heard := false } 0 t) ∧
    (∀ cs : List CtxNo, q.enable = false → q.applyStation = false → e.state = .dark ∨ e.state = .live → cs.Nodup → (∀ c, c ∈ cs ↔ bound c) →
      ∃ t, exec (.regionSet .management q) s = .next t ∧ KeepsAllBut [.backlog, .regions, .contexts, .table, .lists, .port, .engine] s t ∧
        reports { e with state := .suspended, backoff := none, held := none } cs.length t ∧
        t.wan.queue = (s.wan.queue.filter fun f => f.dest != x) ∧
        TransfersCalledOff (fun y => y = x) s t)

/-! ## The WAN Port -/

/-- R157, R158, R159, R166: a frame that arrives in RUNNING with the carrier up is admitted exactly when the ten checks pass. An admitted frame acts as FRAME_HEARD and as the row of its kind, in the
order given with it, and answers a next state in which its region is LIVE and heard; any other changes nothing. -/
def Obligations.FramesAreFilteredAndDispatched : Prop :=
  ∀ (bytes : List Byte) (s : State),
    let body := bytes.take (bytes.length - 4)
    let length := beAt body 18 2
    let kind := byteAt body 15
    let content := (body.drop 22).take length
    (∀ first, s.running = false ∨ s.wan.carrier = false ∨ s.filter bytes = none → exec (.frameReceive bytes first) s = .next s) ∧
    (∀ (im : Image) (x : Region), s.start.image = some im → im.n.toNat ≤ 8 →
      let lengthGood := 22 + length ≤ body.length ∧
        ((kind.toNat, length) ∈ [(1, 44), (2, 32), (4, 24), (5, 24), (6, 20), (7, 4), (8, 0), (9, 0), (10, 0)] ∨
         (kind.toNat = 3 ∧ length = 36 + beAt body 44 2 ∧ 1 ≤ beAt body 44 2 ∧ beAt body 44 2 ≤ 8192))
      (s.filter bytes = some x ↔
        4 ≤ bytes.length ∧ crc32 body = BitVec.ofNat 32 (leAt bytes (bytes.length - 4) 4) ∧ bytes.length ≤ 9216 ∧
        beAt body 12 2 = im.frameType.toNat ∧ stationAt body 0 = (s.region (regionOf im.own)).station ∧ byteAt body 14 = 1 ∧
        x.val = (byteAt body 16).toNat ∧ x.val < im.n.toNat ∧ x.val ≠ im.own.toNat ∧ stationAt body 6 = (s.region x).station ∧
        byteAt body 17 = im.own ∧ (s.region x).state ≠ .suspended ∧ lengthGood)) ∧
    (∀ (x : Region) (c : Instr), s.wan.carrier = true → s.filter bytes = some x → s.admits x = true → commandOfFrame x kind content = some c →
      (kind.toNat = 3 → segmentCheckOf ((body.drop 14).take 8) content = SegmentFrame.computed (segmentContent content) x.val s.ownIndex) →
      (∃ h, exec (.frameHeard x) s = .next h ∧ exec (.frameReceive bytes false) s = exec c h) ∧
      (∃ d, exec c s = .next d ∧ exec (.frameReceive bytes true) s = exec (.frameHeard x) d)) ∧
    (∀ (x : Region) (first : Bool), s.wan.carrier = true → s.filter bytes = some x → s.admits x = true → commandOfFrame x kind content = none →
      exec (.frameReceive bytes first) s = exec (.frameHeard x) s) ∧
    (∀ (x : Region) (first : Bool), s.wan.carrier = true → s.filter bytes = some x → s.admits x = true → ∃ t, exec (.frameReceive bytes first) s = .next t ∧
      KeepsAllBut [.backlog, .table, .lists, .contexts, .staging, .regions, .port, .engine] s t ∧
      (t.region x).state = .live ∧ (t.region x).heard = true ∧ (t.region x).miss = 0)

/-- R163 to R165, R99, R161: at a port ready the head of the Control Queue is sent; with the queue empty, the grant holder's segment while it is a candidate, and else that of the first
candidate after the last granted, which becomes the holder with burst count 0; or nothing. A segment sent frees its buffer, and the last of a chunk counts in the burst, which ends at the
burst allowance. R166, R167, R156: a carrier loss drops the frame in transmission and, in RUNNING, the whole Control Queue and the grant, and keeps the last-granted number; a return brings
the carrier back and nothing else. Three points are the model's choice: a control frame leaves the grant with a holder that is no candidate (log entry 13), a loss outside RUNNING drops
the frame in transmission (log entry 31), and the bytes that section 12.6 leaves unnamed in the frame sent are zero (log entry 40), its padding apart (log entry 9). -/
def Obligations.PortReadyChoosesOneFrameAndCarrierLossDropsAll : Prop :=
  (∀ s : State,
    let sends := fun (c : CtxNo) (anew : Bool) (t : State) => ∀ o b ch sg bs k, s.ctx c = .out o → o.grantable = some b → vget o.bufs b = .ready ch sg bs k →
      let burst := (if anew then 0 else o.burst) + if k.isSome = true then 1 else 0
      t.ctx c = .out { o with bufs := vset o.bufs b .free, burst := burst } ∧ OtherContexts c s t ∧ t.pool.nextOrder = s.pool.nextOrder ∧
      t.wan = { s.wan with tx := some (s.frameTo o.dest 3 (s.segmentBody o ch sg bs k)), frames := s.wan.frames + 1, lastGranted := if anew then c else s.wan.lastGranted,
                           holder := if k.isSome = true ∧ s.setting 13 ≤ burst then none else some c }
    let turn := fun j : CtxNo => s.wan.lastGranted + 1 + j
    let ready := s.running = true ∧ s.wan.carrier = true
    let noHolder := ∀ c, s.wan.holder = some c → s.candidate c = false
    (s.running = false → exec .portReady s = .next (s.withWan { s.wan with tx := none })) ∧
    (s.running = true → s.wan.carrier = false → exec .portReady s = .next s) ∧
    (∀ f rest, ready → s.wan.queue = f :: rest →
      exec .portReady s = .next (s.withWan { s.wan with queue := rest, tx := some (s.frameTo f.dest f.body.kind f.body.content), frames := s.wan.frames + 1 })) ∧
    (∀ c, ready → s.wan.queue = [] → s.wan.holder = some c → s.candidate c = true →
      ∃ t, exec .portReady s = .next t ∧ KeepsAllBut [.port, .contexts] s t ∧ sends c false t) ∧
    (∀ j, ready → s.wan.queue = [] → noHolder → s.candidate (turn j) = true → (∀ i, i < j → s.candidate (turn i) = false) →
      ∃ t, exec .portReady s = .next t ∧ KeepsAllBut [.port, .contexts] s t ∧ sends (turn j) true t) ∧
    (ready → s.wan.queue = [] → (∀ c, s.candidate c = false) → exec .portReady s = .next (s.withWan { s.wan with tx := none, holder := none })) ∧
    (∀ c, s.candidate c = true ↔ ∃ o b, s.ctx c = .out o ∧ o.state = .sending ∧ s.sendable o.dest = true ∧ o.grantable = some b) ∧
    (∀ (o : OutCtx) (b : Fin 2), o.grantable = some b → ∃ ch sg bs k, vget o.bufs b = .ready ch sg bs k ∧
      ∀ p, (vget o.bufs (otherBuf b)).position = some p → ch < p.1 ∨ (ch = p.1 ∧ sg ≤ p.2))) ∧
  (∀ s : State,
    (s.running = true → exec .carrierLoss s = .next (s.withWan { s.wan with carrier := false, tx := none, queue := [], holder := none })) ∧
    (s.running = false → exec .carrierLoss s = .next (s.withWan { s.wan with carrier := false, tx := none })) ∧
    exec .carrierReturn s = .next (s.withWan { s.wan with carrier := true }))

/-! ## The Host Memory Engine -/

/-- R171: one burst an opportunity: the one that has waited longest for its reissue, the last-granted client unmoved; else the first unissued burst of the oldest operation of the first client,
after the last granted, that has one. Each waits 50 ms for its answer.
R172, R173, R175: a burst whose copy is out completes, keeping a read's data, or fails at once; the first copy without an answer in 50 ms waits for its reissue and the second fails with kind
TIMEOUT. A failure drops the operation's unissued bursts, keeps its first failure, and is latched, raising DEVICE_FAULT, or sets MULTIPLE; in RESETTING it is not latched. An answer for a copy that is
not out changes nothing: for one given up R172 says so, and for any other it is the model's choice (log entry 24). -/
def Obligations.BurstsAreIssuedInTurnAndEndAsTheLinkAnswers : Prop :=
  (∀ s : State,
    let deadline := s.now + 50000
    (∀ op i rest, s.hme.reissue = (op, i) :: rest → ∃ t, exec .burstIssue s = .next t ∧ KeepsAllBut [.engine] s t ∧
      t.hme = { s.hme with reissue := rest, ops := s.hme.ops.map fun o =>
        if o.id = op then { o with bursts := o.bursts.modify i fun b => { b with state := .issued true deadline } } else o }) ∧
    (s.hme.reissue = [] → (∀ o ∈ s.hme.ops, ∀ b ∈ o.bursts, b.state ≠ .unissued) → exec .burstIssue s = .next s) ∧
    (∀ (j : Fin 7) (before after : List Op) (o : Op) (first last : List Burst) (b : Burst), s.hme.reissue = [] →
      let turn := fun i : Fin 7 => s.hme.lastClient + 1 + i
      let spent := fun p : Op => ∀ d ∈ p.bursts, d.state ≠ .unissued
      s.hme.ops = before ++ o :: after → (∀ p ∈ before ++ after, p.id ≠ o.id) → o.use.client = turn j →
      (∀ p ∈ before, p.use.client = turn j → spent p) → (∀ i, i < j → ∀ p ∈ s.hme.ops, p.use.client = turn i → spent p) →
      o.bursts = first ++ b :: last → (∀ d ∈ first, d.state ≠ .unissued) → b.state = .unissued →
      ∃ t, exec .burstIssue s = .next t ∧ KeepsAllBut [.engine] s t ∧
        t.hme = { s.hme with lastClient := turn j,
                             ops := before ++ { o with bursts := first ++ { b with state := .issued false deadline } :: last } :: after })) ∧
  (∀ (name : BurstName) (o : Op) (b : Burst) (s : State), s.hme.burst name = some (o, b) → (s.hme.ops.map (·.id)).Nodup →
    let out := fun deadline => b.state = .issued name.reissue deadline
    let becomes := fun (st : BurstState) => s.hme.ops.map fun p =>
      if p.id = o.id then { p with bursts := p.bursts.modify name.burst fun d => { d with state := st } } else p
    let fails := fun (kind : FailKind) (t : State) => KeepsAllBut [.engine, .irq] s t ∧ t.hme.reissue = s.hme.reissue ∧
      t.hme.lastClient = s.hme.lastClient ∧ t.hme.nextOp = s.hme.nextOp ∧
      t.hme.ops = (s.hme.ops.map fun p =>
        if p.id = o.id then
          { p with bursts := (p.bursts.modify name.burst fun d => { d with state := .failed }).map fun d =>
                     if d.state = .unissued then { d with state := .dropped } else d,
                   failure := if p.failure.isSome = true then p.failure else some (kind, b.addr) }
        else p) ∧
      (s.start.state = .resetting → t.hme.latch = s.hme.latch ∧ t.irq = s.irq) ∧
      (s.start.state ≠ .resetting →
        (∀ l, s.hme.latch = some l → t.hme.latch = some { l with multiple := true } ∧ t.irq = s.irq) ∧
        (s.hme.latch = none → t.hme.latch = some { client := o.use.client, kind := kind, addr := b.addr, multiple := false } ∧
          (s.start.state = .ready ∨ s.start.state = .running → MessageRaised s.irq t.irq) ∧
          (s.start.state ≠ .ready → s.start.state ≠ .running → t.irq = s.irq)))
    let read := o.use.isRead = true
    ((∀ d, ¬ out d) → (∀ data, exec (.burstComplete name data) s = .next s) ∧ (∀ kind, exec (.burstFail name kind) s = .next s) ∧
      exec (.burstTimeout name) s = .next s) ∧
    (∀ d, out d →
      (∀ data, read → data.length = b.len → exec (.burstComplete name data) s = .next (s.withHme { s.hme with ops := becomes (.done data) })) ∧
      (∀ data, ¬ read → exec (.burstComplete name data) s = .next (s.withHme { s.hme with ops := becomes (.done []) })) ∧
      (∃ t, exec (.burstFail name .abort) s = .next t ∧ fails .abort t) ∧
      (∃ t, exec (.burstFail name .unsupported) s = .next t ∧ fails .unsupported t) ∧
      (read → ∃ t, exec (.burstFail name .poisoned) s = .next t ∧ fails .poisoned t) ∧
      (s.now < d → exec (.burstTimeout name) s = .next s) ∧
      (d ≤ s.now → name.reissue = false → exec (.burstTimeout name) s = .next
        (s.withHme { s.hme with ops := becomes .awaiting, reissue := s.hme.reissue ++ [(o.id, name.burst)] })) ∧
      (d ≤ s.now → name.reissue = true → ∃ t, exec (.burstTimeout name) s = .next t ∧ fails .timeout t)))

end Slice0Statements
end

