-- ==== Sys2Proof/Laws/State.lean ====
section
/-! SUPPORT. What each update of the state leaves in each field: one lemma per field per update, true by rfl. -/

namespace Sys2Proof.Machine

@[simp] theorem State.withNow_now (s : State) (v : Nat) : (s.withNow v).now = v := rfl
@[simp] theorem State.withNow_start (s : State) (v : Nat) : (s.withNow v).start = s.start := rfl
@[simp] theorem State.withNow_settings (s : State) (v : Nat) : (s.withNow v).settings = s.settings := rfl
@[simp] theorem State.withNow_rings (s : State) (v : Nat) : (s.withNow v).rings = s.rings := rfl
@[simp] theorem State.withNow_backlog (s : State) (v : Nat) : (s.withNow v).backlog = s.backlog := rfl
@[simp] theorem State.withNow_irq (s : State) (v : Nat) : (s.withNow v).irq = s.irq := rfl
@[simp] theorem State.withNow_reqs (s : State) (v : Nat) : (s.withNow v).reqs = s.reqs := rfl
@[simp] theorem State.withNow_bmc (s : State) (v : Nat) : (s.withNow v).bmc = s.bmc := rfl
@[simp] theorem State.withNow_table (s : State) (v : Nat) : (s.withNow v).table = s.table := rfl
@[simp] theorem State.withNow_sched (s : State) (v : Nat) : (s.withNow v).sched = s.sched := rfl
@[simp] theorem State.withNow_pool (s : State) (v : Nat) : (s.withNow v).pool = s.pool := rfl
@[simp] theorem State.withNow_inbound (s : State) (v : Nat) : (s.withNow v).inbound = s.inbound := rfl
@[simp] theorem State.withNow_regions (s : State) (v : Nat) : (s.withNow v).regions = s.regions := rfl
@[simp] theorem State.withNow_wan (s : State) (v : Nat) : (s.withNow v).wan = s.wan := rfl
@[simp] theorem State.withNow_hme (s : State) (v : Nat) : (s.withNow v).hme = s.hme := rfl
@[simp] theorem State.withNow_pending (s : State) (v : Nat) : (s.withNow v).pending = s.pending := rfl

@[simp] theorem State.withStart_now (s : State) (v : StartUp) : (s.withStart v).now = s.now := rfl
@[simp] theorem State.withStart_start (s : State) (v : StartUp) : (s.withStart v).start = v := rfl
@[simp] theorem State.withStart_settings (s : State) (v : StartUp) : (s.withStart v).settings = s.settings := rfl
@[simp] theorem State.withStart_rings (s : State) (v : StartUp) : (s.withStart v).rings = s.rings := rfl
@[simp] theorem State.withStart_backlog (s : State) (v : StartUp) : (s.withStart v).backlog = s.backlog := rfl
@[simp] theorem State.withStart_irq (s : State) (v : StartUp) : (s.withStart v).irq = s.irq := rfl
@[simp] theorem State.withStart_reqs (s : State) (v : StartUp) : (s.withStart v).reqs = s.reqs := rfl
@[simp] theorem State.withStart_bmc (s : State) (v : StartUp) : (s.withStart v).bmc = s.bmc := rfl
@[simp] theorem State.withStart_table (s : State) (v : StartUp) : (s.withStart v).table = s.table := rfl
@[simp] theorem State.withStart_sched (s : State) (v : StartUp) : (s.withStart v).sched = s.sched := rfl
@[simp] theorem State.withStart_pool (s : State) (v : StartUp) : (s.withStart v).pool = s.pool := rfl
@[simp] theorem State.withStart_inbound (s : State) (v : StartUp) : (s.withStart v).inbound = s.inbound := rfl
@[simp] theorem State.withStart_regions (s : State) (v : StartUp) : (s.withStart v).regions = s.regions := rfl
@[simp] theorem State.withStart_wan (s : State) (v : StartUp) : (s.withStart v).wan = s.wan := rfl
@[simp] theorem State.withStart_hme (s : State) (v : StartUp) : (s.withStart v).hme = s.hme := rfl
@[simp] theorem State.withStart_pending (s : State) (v : StartUp) : (s.withStart v).pending = s.pending := rfl

@[simp] theorem State.withSettings_now (s : State) (v : Vector Word 14) : (s.withSettings v).now = s.now := rfl
@[simp] theorem State.withSettings_start (s : State) (v : Vector Word 14) : (s.withSettings v).start = s.start := rfl
@[simp] theorem State.withSettings_settings (s : State) (v : Vector Word 14) : (s.withSettings v).settings = v := rfl
@[simp] theorem State.withSettings_rings (s : State) (v : Vector Word 14) : (s.withSettings v).rings = s.rings := rfl
@[simp] theorem State.withSettings_backlog (s : State) (v : Vector Word 14) : (s.withSettings v).backlog = s.backlog := rfl
@[simp] theorem State.withSettings_irq (s : State) (v : Vector Word 14) : (s.withSettings v).irq = s.irq := rfl
@[simp] theorem State.withSettings_reqs (s : State) (v : Vector Word 14) : (s.withSettings v).reqs = s.reqs := rfl
@[simp] theorem State.withSettings_bmc (s : State) (v : Vector Word 14) : (s.withSettings v).bmc = s.bmc := rfl
@[simp] theorem State.withSettings_table (s : State) (v : Vector Word 14) : (s.withSettings v).table = s.table := rfl
@[simp] theorem State.withSettings_sched (s : State) (v : Vector Word 14) : (s.withSettings v).sched = s.sched := rfl
@[simp] theorem State.withSettings_pool (s : State) (v : Vector Word 14) : (s.withSettings v).pool = s.pool := rfl
@[simp] theorem State.withSettings_inbound (s : State) (v : Vector Word 14) : (s.withSettings v).inbound = s.inbound := rfl
@[simp] theorem State.withSettings_regions (s : State) (v : Vector Word 14) : (s.withSettings v).regions = s.regions := rfl
@[simp] theorem State.withSettings_wan (s : State) (v : Vector Word 14) : (s.withSettings v).wan = s.wan := rfl
@[simp] theorem State.withSettings_hme (s : State) (v : Vector Word 14) : (s.withSettings v).hme = s.hme := rfl
@[simp] theorem State.withSettings_pending (s : State) (v : Vector Word 14) : (s.withSettings v).pending = s.pending := rfl

@[simp] theorem State.withRings_now (s : State) (v : Rings) : (s.withRings v).now = s.now := rfl
@[simp] theorem State.withRings_start (s : State) (v : Rings) : (s.withRings v).start = s.start := rfl
@[simp] theorem State.withRings_settings (s : State) (v : Rings) : (s.withRings v).settings = s.settings := rfl
@[simp] theorem State.withRings_rings (s : State) (v : Rings) : (s.withRings v).rings = v := rfl
@[simp] theorem State.withRings_backlog (s : State) (v : Rings) : (s.withRings v).backlog = s.backlog := rfl
@[simp] theorem State.withRings_irq (s : State) (v : Rings) : (s.withRings v).irq = s.irq := rfl
@[simp] theorem State.withRings_reqs (s : State) (v : Rings) : (s.withRings v).reqs = s.reqs := rfl
@[simp] theorem State.withRings_bmc (s : State) (v : Rings) : (s.withRings v).bmc = s.bmc := rfl
@[simp] theorem State.withRings_table (s : State) (v : Rings) : (s.withRings v).table = s.table := rfl
@[simp] theorem State.withRings_sched (s : State) (v : Rings) : (s.withRings v).sched = s.sched := rfl
@[simp] theorem State.withRings_pool (s : State) (v : Rings) : (s.withRings v).pool = s.pool := rfl
@[simp] theorem State.withRings_inbound (s : State) (v : Rings) : (s.withRings v).inbound = s.inbound := rfl
@[simp] theorem State.withRings_regions (s : State) (v : Rings) : (s.withRings v).regions = s.regions := rfl
@[simp] theorem State.withRings_wan (s : State) (v : Rings) : (s.withRings v).wan = s.wan := rfl
@[simp] theorem State.withRings_hme (s : State) (v : Rings) : (s.withRings v).hme = s.hme := rfl
@[simp] theorem State.withRings_pending (s : State) (v : Rings) : (s.withRings v).pending = s.pending := rfl

@[simp] theorem State.withBacklog_now (s : State) (v : Backlog) : (s.withBacklog v).now = s.now := rfl
@[simp] theorem State.withBacklog_start (s : State) (v : Backlog) : (s.withBacklog v).start = s.start := rfl
@[simp] theorem State.withBacklog_settings (s : State) (v : Backlog) : (s.withBacklog v).settings = s.settings := rfl
@[simp] theorem State.withBacklog_rings (s : State) (v : Backlog) : (s.withBacklog v).rings = s.rings := rfl
@[simp] theorem State.withBacklog_backlog (s : State) (v : Backlog) : (s.withBacklog v).backlog = v := rfl
@[simp] theorem State.withBacklog_irq (s : State) (v : Backlog) : (s.withBacklog v).irq = s.irq := rfl
@[simp] theorem State.withBacklog_reqs (s : State) (v : Backlog) : (s.withBacklog v).reqs = s.reqs := rfl
@[simp] theorem State.withBacklog_bmc (s : State) (v : Backlog) : (s.withBacklog v).bmc = s.bmc := rfl
@[simp] theorem State.withBacklog_table (s : State) (v : Backlog) : (s.withBacklog v).table = s.table := rfl
@[simp] theorem State.withBacklog_sched (s : State) (v : Backlog) : (s.withBacklog v).sched = s.sched := rfl
@[simp] theorem State.withBacklog_pool (s : State) (v : Backlog) : (s.withBacklog v).pool = s.pool := rfl
@[simp] theorem State.withBacklog_inbound (s : State) (v : Backlog) : (s.withBacklog v).inbound = s.inbound := rfl
@[simp] theorem State.withBacklog_regions (s : State) (v : Backlog) : (s.withBacklog v).regions = s.regions := rfl
@[simp] theorem State.withBacklog_wan (s : State) (v : Backlog) : (s.withBacklog v).wan = s.wan := rfl
@[simp] theorem State.withBacklog_hme (s : State) (v : Backlog) : (s.withBacklog v).hme = s.hme := rfl
@[simp] theorem State.withBacklog_pending (s : State) (v : Backlog) : (s.withBacklog v).pending = s.pending := rfl

@[simp] theorem State.withIrq_now (s : State) (v : Irq) : (s.withIrq v).now = s.now := rfl
@[simp] theorem State.withIrq_start (s : State) (v : Irq) : (s.withIrq v).start = s.start := rfl
@[simp] theorem State.withIrq_settings (s : State) (v : Irq) : (s.withIrq v).settings = s.settings := rfl
@[simp] theorem State.withIrq_rings (s : State) (v : Irq) : (s.withIrq v).rings = s.rings := rfl
@[simp] theorem State.withIrq_backlog (s : State) (v : Irq) : (s.withIrq v).backlog = s.backlog := rfl
@[simp] theorem State.withIrq_irq (s : State) (v : Irq) : (s.withIrq v).irq = v := rfl
@[simp] theorem State.withIrq_reqs (s : State) (v : Irq) : (s.withIrq v).reqs = s.reqs := rfl
@[simp] theorem State.withIrq_bmc (s : State) (v : Irq) : (s.withIrq v).bmc = s.bmc := rfl
@[simp] theorem State.withIrq_table (s : State) (v : Irq) : (s.withIrq v).table = s.table := rfl
@[simp] theorem State.withIrq_sched (s : State) (v : Irq) : (s.withIrq v).sched = s.sched := rfl
@[simp] theorem State.withIrq_pool (s : State) (v : Irq) : (s.withIrq v).pool = s.pool := rfl
@[simp] theorem State.withIrq_inbound (s : State) (v : Irq) : (s.withIrq v).inbound = s.inbound := rfl
@[simp] theorem State.withIrq_regions (s : State) (v : Irq) : (s.withIrq v).regions = s.regions := rfl
@[simp] theorem State.withIrq_wan (s : State) (v : Irq) : (s.withIrq v).wan = s.wan := rfl
@[simp] theorem State.withIrq_hme (s : State) (v : Irq) : (s.withIrq v).hme = s.hme := rfl
@[simp] theorem State.withIrq_pending (s : State) (v : Irq) : (s.withIrq v).pending = s.pending := rfl

@[simp] theorem State.withReqs_now (s : State) (v : Requests) : (s.withReqs v).now = s.now := rfl
@[simp] theorem State.withReqs_start (s : State) (v : Requests) : (s.withReqs v).start = s.start := rfl
@[simp] theorem State.withReqs_settings (s : State) (v : Requests) : (s.withReqs v).settings = s.settings := rfl
@[simp] theorem State.withReqs_rings (s : State) (v : Requests) : (s.withReqs v).rings = s.rings := rfl
@[simp] theorem State.withReqs_backlog (s : State) (v : Requests) : (s.withReqs v).backlog = s.backlog := rfl
@[simp] theorem State.withReqs_irq (s : State) (v : Requests) : (s.withReqs v).irq = s.irq := rfl
@[simp] theorem State.withReqs_reqs (s : State) (v : Requests) : (s.withReqs v).reqs = v := rfl
@[simp] theorem State.withReqs_bmc (s : State) (v : Requests) : (s.withReqs v).bmc = s.bmc := rfl
@[simp] theorem State.withReqs_table (s : State) (v : Requests) : (s.withReqs v).table = s.table := rfl
@[simp] theorem State.withReqs_sched (s : State) (v : Requests) : (s.withReqs v).sched = s.sched := rfl
@[simp] theorem State.withReqs_pool (s : State) (v : Requests) : (s.withReqs v).pool = s.pool := rfl
@[simp] theorem State.withReqs_inbound (s : State) (v : Requests) : (s.withReqs v).inbound = s.inbound := rfl
@[simp] theorem State.withReqs_regions (s : State) (v : Requests) : (s.withReqs v).regions = s.regions := rfl
@[simp] theorem State.withReqs_wan (s : State) (v : Requests) : (s.withReqs v).wan = s.wan := rfl
@[simp] theorem State.withReqs_hme (s : State) (v : Requests) : (s.withReqs v).hme = s.hme := rfl
@[simp] theorem State.withReqs_pending (s : State) (v : Requests) : (s.withReqs v).pending = s.pending := rfl

@[simp] theorem State.withBmc_now (s : State) (v : Bmc) : (s.withBmc v).now = s.now := rfl
@[simp] theorem State.withBmc_start (s : State) (v : Bmc) : (s.withBmc v).start = s.start := rfl
@[simp] theorem State.withBmc_settings (s : State) (v : Bmc) : (s.withBmc v).settings = s.settings := rfl
@[simp] theorem State.withBmc_rings (s : State) (v : Bmc) : (s.withBmc v).rings = s.rings := rfl
@[simp] theorem State.withBmc_backlog (s : State) (v : Bmc) : (s.withBmc v).backlog = s.backlog := rfl
@[simp] theorem State.withBmc_irq (s : State) (v : Bmc) : (s.withBmc v).irq = s.irq := rfl
@[simp] theorem State.withBmc_reqs (s : State) (v : Bmc) : (s.withBmc v).reqs = s.reqs := rfl
@[simp] theorem State.withBmc_bmc (s : State) (v : Bmc) : (s.withBmc v).bmc = v := rfl
@[simp] theorem State.withBmc_table (s : State) (v : Bmc) : (s.withBmc v).table = s.table := rfl
@[simp] theorem State.withBmc_sched (s : State) (v : Bmc) : (s.withBmc v).sched = s.sched := rfl
@[simp] theorem State.withBmc_pool (s : State) (v : Bmc) : (s.withBmc v).pool = s.pool := rfl
@[simp] theorem State.withBmc_inbound (s : State) (v : Bmc) : (s.withBmc v).inbound = s.inbound := rfl
@[simp] theorem State.withBmc_regions (s : State) (v : Bmc) : (s.withBmc v).regions = s.regions := rfl
@[simp] theorem State.withBmc_wan (s : State) (v : Bmc) : (s.withBmc v).wan = s.wan := rfl
@[simp] theorem State.withBmc_hme (s : State) (v : Bmc) : (s.withBmc v).hme = s.hme := rfl
@[simp] theorem State.withBmc_pending (s : State) (v : Bmc) : (s.withBmc v).pending = s.pending := rfl

@[simp] theorem State.withTable_now (s : State) (v : Table) : (s.withTable v).now = s.now := rfl
@[simp] theorem State.withTable_start (s : State) (v : Table) : (s.withTable v).start = s.start := rfl
@[simp] theorem State.withTable_settings (s : State) (v : Table) : (s.withTable v).settings = s.settings := rfl
@[simp] theorem State.withTable_rings (s : State) (v : Table) : (s.withTable v).rings = s.rings := rfl
@[simp] theorem State.withTable_backlog (s : State) (v : Table) : (s.withTable v).backlog = s.backlog := rfl
@[simp] theorem State.withTable_irq (s : State) (v : Table) : (s.withTable v).irq = s.irq := rfl
@[simp] theorem State.withTable_reqs (s : State) (v : Table) : (s.withTable v).reqs = s.reqs := rfl
@[simp] theorem State.withTable_bmc (s : State) (v : Table) : (s.withTable v).bmc = s.bmc := rfl
@[simp] theorem State.withTable_table (s : State) (v : Table) : (s.withTable v).table = v := rfl
@[simp] theorem State.withTable_sched (s : State) (v : Table) : (s.withTable v).sched = s.sched := rfl
@[simp] theorem State.withTable_pool (s : State) (v : Table) : (s.withTable v).pool = s.pool := rfl
@[simp] theorem State.withTable_inbound (s : State) (v : Table) : (s.withTable v).inbound = s.inbound := rfl
@[simp] theorem State.withTable_regions (s : State) (v : Table) : (s.withTable v).regions = s.regions := rfl
@[simp] theorem State.withTable_wan (s : State) (v : Table) : (s.withTable v).wan = s.wan := rfl
@[simp] theorem State.withTable_hme (s : State) (v : Table) : (s.withTable v).hme = s.hme := rfl
@[simp] theorem State.withTable_pending (s : State) (v : Table) : (s.withTable v).pending = s.pending := rfl

@[simp] theorem State.withSched_now (s : State) (v : Sched) : (s.withSched v).now = s.now := rfl
@[simp] theorem State.withSched_start (s : State) (v : Sched) : (s.withSched v).start = s.start := rfl
@[simp] theorem State.withSched_settings (s : State) (v : Sched) : (s.withSched v).settings = s.settings := rfl
@[simp] theorem State.withSched_rings (s : State) (v : Sched) : (s.withSched v).rings = s.rings := rfl
@[simp] theorem State.withSched_backlog (s : State) (v : Sched) : (s.withSched v).backlog = s.backlog := rfl
@[simp] theorem State.withSched_irq (s : State) (v : Sched) : (s.withSched v).irq = s.irq := rfl
@[simp] theorem State.withSched_reqs (s : State) (v : Sched) : (s.withSched v).reqs = s.reqs := rfl
@[simp] theorem State.withSched_bmc (s : State) (v : Sched) : (s.withSched v).bmc = s.bmc := rfl
@[simp] theorem State.withSched_table (s : State) (v : Sched) : (s.withSched v).table = s.table := rfl
@[simp] theorem State.withSched_sched (s : State) (v : Sched) : (s.withSched v).sched = v := rfl
@[simp] theorem State.withSched_pool (s : State) (v : Sched) : (s.withSched v).pool = s.pool := rfl
@[simp] theorem State.withSched_inbound (s : State) (v : Sched) : (s.withSched v).inbound = s.inbound := rfl
@[simp] theorem State.withSched_regions (s : State) (v : Sched) : (s.withSched v).regions = s.regions := rfl
@[simp] theorem State.withSched_wan (s : State) (v : Sched) : (s.withSched v).wan = s.wan := rfl
@[simp] theorem State.withSched_hme (s : State) (v : Sched) : (s.withSched v).hme = s.hme := rfl
@[simp] theorem State.withSched_pending (s : State) (v : Sched) : (s.withSched v).pending = s.pending := rfl

@[simp] theorem State.withPool_now (s : State) (v : Pool) : (s.withPool v).now = s.now := rfl
@[simp] theorem State.withPool_start (s : State) (v : Pool) : (s.withPool v).start = s.start := rfl
@[simp] theorem State.withPool_settings (s : State) (v : Pool) : (s.withPool v).settings = s.settings := rfl
@[simp] theorem State.withPool_rings (s : State) (v : Pool) : (s.withPool v).rings = s.rings := rfl
@[simp] theorem State.withPool_backlog (s : State) (v : Pool) : (s.withPool v).backlog = s.backlog := rfl
@[simp] theorem State.withPool_irq (s : State) (v : Pool) : (s.withPool v).irq = s.irq := rfl
@[simp] theorem State.withPool_reqs (s : State) (v : Pool) : (s.withPool v).reqs = s.reqs := rfl
@[simp] theorem State.withPool_bmc (s : State) (v : Pool) : (s.withPool v).bmc = s.bmc := rfl
@[simp] theorem State.withPool_table (s : State) (v : Pool) : (s.withPool v).table = s.table := rfl
@[simp] theorem State.withPool_sched (s : State) (v : Pool) : (s.withPool v).sched = s.sched := rfl
@[simp] theorem State.withPool_pool (s : State) (v : Pool) : (s.withPool v).pool = v := rfl
@[simp] theorem State.withPool_inbound (s : State) (v : Pool) : (s.withPool v).inbound = s.inbound := rfl
@[simp] theorem State.withPool_regions (s : State) (v : Pool) : (s.withPool v).regions = s.regions := rfl
@[simp] theorem State.withPool_wan (s : State) (v : Pool) : (s.withPool v).wan = s.wan := rfl
@[simp] theorem State.withPool_hme (s : State) (v : Pool) : (s.withPool v).hme = s.hme := rfl
@[simp] theorem State.withPool_pending (s : State) (v : Pool) : (s.withPool v).pending = s.pending := rfl

@[simp] theorem State.withInbound_now (s : State) (v : Inbound) : (s.withInbound v).now = s.now := rfl
@[simp] theorem State.withInbound_start (s : State) (v : Inbound) : (s.withInbound v).start = s.start := rfl
@[simp] theorem State.withInbound_settings (s : State) (v : Inbound) : (s.withInbound v).settings = s.settings := rfl
@[simp] theorem State.withInbound_rings (s : State) (v : Inbound) : (s.withInbound v).rings = s.rings := rfl
@[simp] theorem State.withInbound_backlog (s : State) (v : Inbound) : (s.withInbound v).backlog = s.backlog := rfl
@[simp] theorem State.withInbound_irq (s : State) (v : Inbound) : (s.withInbound v).irq = s.irq := rfl
@[simp] theorem State.withInbound_reqs (s : State) (v : Inbound) : (s.withInbound v).reqs = s.reqs := rfl
@[simp] theorem State.withInbound_bmc (s : State) (v : Inbound) : (s.withInbound v).bmc = s.bmc := rfl
@[simp] theorem State.withInbound_table (s : State) (v : Inbound) : (s.withInbound v).table = s.table := rfl
@[simp] theorem State.withInbound_sched (s : State) (v : Inbound) : (s.withInbound v).sched = s.sched := rfl
@[simp] theorem State.withInbound_pool (s : State) (v : Inbound) : (s.withInbound v).pool = s.pool := rfl
@[simp] theorem State.withInbound_inbound (s : State) (v : Inbound) : (s.withInbound v).inbound = v := rfl
@[simp] theorem State.withInbound_regions (s : State) (v : Inbound) : (s.withInbound v).regions = s.regions := rfl
@[simp] theorem State.withInbound_wan (s : State) (v : Inbound) : (s.withInbound v).wan = s.wan := rfl
@[simp] theorem State.withInbound_hme (s : State) (v : Inbound) : (s.withInbound v).hme = s.hme := rfl
@[simp] theorem State.withInbound_pending (s : State) (v : Inbound) : (s.withInbound v).pending = s.pending := rfl

@[simp] theorem State.withRegions_now (s : State) (v : RegionUnit) : (s.withRegions v).now = s.now := rfl
@[simp] theorem State.withRegions_start (s : State) (v : RegionUnit) : (s.withRegions v).start = s.start := rfl
@[simp] theorem State.withRegions_settings (s : State) (v : RegionUnit) : (s.withRegions v).settings = s.settings := rfl
@[simp] theorem State.withRegions_rings (s : State) (v : RegionUnit) : (s.withRegions v).rings = s.rings := rfl
@[simp] theorem State.withRegions_backlog (s : State) (v : RegionUnit) : (s.withRegions v).backlog = s.backlog := rfl
@[simp] theorem State.withRegions_irq (s : State) (v : RegionUnit) : (s.withRegions v).irq = s.irq := rfl
@[simp] theorem State.withRegions_reqs (s : State) (v : RegionUnit) : (s.withRegions v).reqs = s.reqs := rfl
@[simp] theorem State.withRegions_bmc (s : State) (v : RegionUnit) : (s.withRegions v).bmc = s.bmc := rfl
@[simp] theorem State.withRegions_table (s : State) (v : RegionUnit) : (s.withRegions v).table = s.table := rfl
@[simp] theorem State.withRegions_sched (s : State) (v : RegionUnit) : (s.withRegions v).sched = s.sched := rfl
@[simp] theorem State.withRegions_pool (s : State) (v : RegionUnit) : (s.withRegions v).pool = s.pool := rfl
@[simp] theorem State.withRegions_inbound (s : State) (v : RegionUnit) : (s.withRegions v).inbound = s.inbound := rfl
@[simp] theorem State.withRegions_regions (s : State) (v : RegionUnit) : (s.withRegions v).regions = v := rfl
@[simp] theorem State.withRegions_wan (s : State) (v : RegionUnit) : (s.withRegions v).wan = s.wan := rfl
@[simp] theorem State.withRegions_hme (s : State) (v : RegionUnit) : (s.withRegions v).hme = s.hme := rfl
@[simp] theorem State.withRegions_pending (s : State) (v : RegionUnit) : (s.withRegions v).pending = s.pending := rfl

@[simp] theorem State.withWan_now (s : State) (v : Wan) : (s.withWan v).now = s.now := rfl
@[simp] theorem State.withWan_start (s : State) (v : Wan) : (s.withWan v).start = s.start := rfl
@[simp] theorem State.withWan_settings (s : State) (v : Wan) : (s.withWan v).settings = s.settings := rfl
@[simp] theorem State.withWan_rings (s : State) (v : Wan) : (s.withWan v).rings = s.rings := rfl
@[simp] theorem State.withWan_backlog (s : State) (v : Wan) : (s.withWan v).backlog = s.backlog := rfl
@[simp] theorem State.withWan_irq (s : State) (v : Wan) : (s.withWan v).irq = s.irq := rfl
@[simp] theorem State.withWan_reqs (s : State) (v : Wan) : (s.withWan v).reqs = s.reqs := rfl
@[simp] theorem State.withWan_bmc (s : State) (v : Wan) : (s.withWan v).bmc = s.bmc := rfl
@[simp] theorem State.withWan_table (s : State) (v : Wan) : (s.withWan v).table = s.table := rfl
@[simp] theorem State.withWan_sched (s : State) (v : Wan) : (s.withWan v).sched = s.sched := rfl
@[simp] theorem State.withWan_pool (s : State) (v : Wan) : (s.withWan v).pool = s.pool := rfl
@[simp] theorem State.withWan_inbound (s : State) (v : Wan) : (s.withWan v).inbound = s.inbound := rfl
@[simp] theorem State.withWan_regions (s : State) (v : Wan) : (s.withWan v).regions = s.regions := rfl
@[simp] theorem State.withWan_wan (s : State) (v : Wan) : (s.withWan v).wan = v := rfl
@[simp] theorem State.withWan_hme (s : State) (v : Wan) : (s.withWan v).hme = s.hme := rfl
@[simp] theorem State.withWan_pending (s : State) (v : Wan) : (s.withWan v).pending = s.pending := rfl

@[simp] theorem State.withHme_now (s : State) (v : Hme) : (s.withHme v).now = s.now := rfl
@[simp] theorem State.withHme_start (s : State) (v : Hme) : (s.withHme v).start = s.start := rfl
@[simp] theorem State.withHme_settings (s : State) (v : Hme) : (s.withHme v).settings = s.settings := rfl
@[simp] theorem State.withHme_rings (s : State) (v : Hme) : (s.withHme v).rings = s.rings := rfl
@[simp] theorem State.withHme_backlog (s : State) (v : Hme) : (s.withHme v).backlog = s.backlog := rfl
@[simp] theorem State.withHme_irq (s : State) (v : Hme) : (s.withHme v).irq = s.irq := rfl
@[simp] theorem State.withHme_reqs (s : State) (v : Hme) : (s.withHme v).reqs = s.reqs := rfl
@[simp] theorem State.withHme_bmc (s : State) (v : Hme) : (s.withHme v).bmc = s.bmc := rfl
@[simp] theorem State.withHme_table (s : State) (v : Hme) : (s.withHme v).table = s.table := rfl
@[simp] theorem State.withHme_sched (s : State) (v : Hme) : (s.withHme v).sched = s.sched := rfl
@[simp] theorem State.withHme_pool (s : State) (v : Hme) : (s.withHme v).pool = s.pool := rfl
@[simp] theorem State.withHme_inbound (s : State) (v : Hme) : (s.withHme v).inbound = s.inbound := rfl
@[simp] theorem State.withHme_regions (s : State) (v : Hme) : (s.withHme v).regions = s.regions := rfl
@[simp] theorem State.withHme_wan (s : State) (v : Hme) : (s.withHme v).wan = s.wan := rfl
@[simp] theorem State.withHme_hme (s : State) (v : Hme) : (s.withHme v).hme = v := rfl
@[simp] theorem State.withHme_pending (s : State) (v : Hme) : (s.withHme v).pending = s.pending := rfl

@[simp] theorem State.withPending_now (s : State) (v : List Instr) : (s.withPending v).now = s.now := rfl
@[simp] theorem State.withPending_start (s : State) (v : List Instr) : (s.withPending v).start = s.start := rfl
@[simp] theorem State.withPending_settings (s : State) (v : List Instr) : (s.withPending v).settings = s.settings := rfl
@[simp] theorem State.withPending_rings (s : State) (v : List Instr) : (s.withPending v).rings = s.rings := rfl
@[simp] theorem State.withPending_backlog (s : State) (v : List Instr) : (s.withPending v).backlog = s.backlog := rfl
@[simp] theorem State.withPending_irq (s : State) (v : List Instr) : (s.withPending v).irq = s.irq := rfl
@[simp] theorem State.withPending_reqs (s : State) (v : List Instr) : (s.withPending v).reqs = s.reqs := rfl
@[simp] theorem State.withPending_bmc (s : State) (v : List Instr) : (s.withPending v).bmc = s.bmc := rfl
@[simp] theorem State.withPending_table (s : State) (v : List Instr) : (s.withPending v).table = s.table := rfl
@[simp] theorem State.withPending_sched (s : State) (v : List Instr) : (s.withPending v).sched = s.sched := rfl
@[simp] theorem State.withPending_pool (s : State) (v : List Instr) : (s.withPending v).pool = s.pool := rfl
@[simp] theorem State.withPending_inbound (s : State) (v : List Instr) : (s.withPending v).inbound = s.inbound := rfl
@[simp] theorem State.withPending_regions (s : State) (v : List Instr) : (s.withPending v).regions = s.regions := rfl
@[simp] theorem State.withPending_wan (s : State) (v : List Instr) : (s.withPending v).wan = s.wan := rfl
@[simp] theorem State.withPending_hme (s : State) (v : List Instr) : (s.withPending v).hme = s.hme := rfl
@[simp] theorem State.withPending_pending (s : State) (v : List Instr) : (s.withPending v).pending = v := rfl

end Sys2Proof.Machine
end

