-- ==== Sys2Proof/Laws/Frames.lean ====
section
/-! SUPPORT. The frame of each shared operation: the fields of the state it leaves as they were, one lemma per operation and field. -/

set_option linter.unusedTactic false
set_option linter.unreachableTactic false
set_option linter.unnecessarySeqFocus false

namespace Sys2Proof.Machine

/-- What each step of a fold keeps, the fold keeps. -/
theorem foldl_keeps {α β : Type} (p : State → β) (f : State → α → State) (h : ∀ t x, p (f t x) = p t) (l : List α) (s : State) :
    p (l.foldl f s) = p s := by
  induction l generalizing s with
  | nil => rfl
  | cons x rest ih => rw [List.foldl_cons, ih, h]

/-- The hand-off of a change of sendability changes the contexts alone. -/
theorem handingOn_keeps {β : Type} (p : State → β) (hp : ∀ t v, p (t.withPool v) = p t) (x : Region) (f : State → State)
    (h : ∀ t, p (f t) = p t) (s : State) : p (handingOn x f s) = p s := by
  unfold handingOn; dsimp only; split
  · exact h s
  · rw [hp, h]

@[simp] theorem raise_frame (s : State) :
    (raise s).now = s.now ∧ (raise s).start = s.start ∧ (raise s).settings = s.settings ∧ (raise s).rings = s.rings ∧ (raise s).backlog = s.backlog ∧
    (raise s).reqs = s.reqs ∧ (raise s).bmc = s.bmc ∧ (raise s).table = s.table ∧ (raise s).sched = s.sched ∧ (raise s).pool = s.pool ∧
    (raise s).inbound = s.inbound ∧ (raise s).regions = s.regions ∧ (raise s).wan = s.wan ∧ (raise s).hme = s.hme ∧
    (raise s).pending = s.pending := by
  unfold raise; (try dsimp only); (repeat' split) <;> simp

@[simp] theorem raiseEntries_frame (s : State) :
    (raiseEntries s).now = s.now ∧ (raiseEntries s).start = s.start ∧ (raiseEntries s).settings = s.settings ∧ (raiseEntries s).rings = s.rings ∧
    (raiseEntries s).backlog = s.backlog ∧ (raiseEntries s).reqs = s.reqs ∧ (raiseEntries s).bmc = s.bmc ∧ (raiseEntries s).table = s.table ∧
    (raiseEntries s).sched = s.sched ∧ (raiseEntries s).pool = s.pool ∧ (raiseEntries s).inbound = s.inbound ∧ (raiseEntries s).regions = s.regions ∧
    (raiseEntries s).wan = s.wan ∧ (raiseEntries s).hme = s.hme ∧ (raiseEntries s).pending = s.pending := by
  unfold raiseEntries; (try dsimp only); (repeat' split) <;> simp

@[simp] theorem modRing_frame (n : RingName) (f : Ring → Ring) (s : State) :
    (modRing n f s).now = s.now ∧ (modRing n f s).start = s.start ∧ (modRing n f s).settings = s.settings ∧ (modRing n f s).backlog = s.backlog ∧
    (modRing n f s).irq = s.irq ∧ (modRing n f s).reqs = s.reqs ∧ (modRing n f s).bmc = s.bmc ∧ (modRing n f s).table = s.table ∧
    (modRing n f s).sched = s.sched ∧ (modRing n f s).pool = s.pool ∧ (modRing n f s).inbound = s.inbound ∧ (modRing n f s).regions = s.regions ∧
    (modRing n f s).wan = s.wan ∧ (modRing n f s).hme = s.hme ∧ (modRing n f s).pending = s.pending := by
  unfold modRing; (try dsimp only); (repeat' split) <;> simp

@[simp] theorem faultRing_frame (n : RingName) (w : RingReason) (s : State) :
    (faultRing n w s).now = s.now ∧ (faultRing n w s).start = s.start ∧ (faultRing n w s).settings = s.settings ∧
    (faultRing n w s).backlog = s.backlog ∧ (faultRing n w s).reqs = s.reqs ∧ (faultRing n w s).bmc = s.bmc ∧ (faultRing n w s).table = s.table ∧
    (faultRing n w s).sched = s.sched ∧ (faultRing n w s).pool = s.pool ∧ (faultRing n w s).inbound = s.inbound ∧
    (faultRing n w s).regions = s.regions ∧ (faultRing n w s).wan = s.wan ∧ (faultRing n w s).hme = s.hme ∧
    (faultRing n w s).pending = s.pending := by
  unfold faultRing; (try dsimp only); (repeat' split) <;> simp

@[simp] theorem modRegion_frame (x : Region) (f : RegionEntry → RegionEntry) (s : State) :
    (modRegion x f s).now = s.now ∧ (modRegion x f s).start = s.start ∧ (modRegion x f s).settings = s.settings ∧ (modRegion x f s).rings = s.rings ∧
    (modRegion x f s).backlog = s.backlog ∧ (modRegion x f s).irq = s.irq ∧ (modRegion x f s).reqs = s.reqs ∧ (modRegion x f s).bmc = s.bmc ∧
    (modRegion x f s).table = s.table ∧ (modRegion x f s).sched = s.sched ∧ (modRegion x f s).pool = s.pool ∧ (modRegion x f s).inbound = s.inbound ∧
    (modRegion x f s).wan = s.wan ∧ (modRegion x f s).hme = s.hme ∧ (modRegion x f s).pending = s.pending := by
  unfold modRegion; (try dsimp only); (repeat' split) <;> simp

@[simp] theorem modRec_frame (k : Key) (f : Record → Record) (s : State) :
    (modRec k f s).now = s.now ∧ (modRec k f s).start = s.start ∧ (modRec k f s).settings = s.settings ∧ (modRec k f s).rings = s.rings ∧
    (modRec k f s).backlog = s.backlog ∧ (modRec k f s).irq = s.irq ∧ (modRec k f s).reqs = s.reqs ∧ (modRec k f s).bmc = s.bmc ∧
    (modRec k f s).sched = s.sched ∧ (modRec k f s).pool = s.pool ∧ (modRec k f s).inbound = s.inbound ∧ (modRec k f s).regions = s.regions ∧
    (modRec k f s).wan = s.wan ∧ (modRec k f s).hme = s.hme ∧ (modRec k f s).pending = s.pending := by
  unfold modRec; (try dsimp only); (repeat' split) <;> simp

@[simp] theorem addRec_frame (r : Record) (s : State) :
    (addRec r s).now = s.now ∧ (addRec r s).start = s.start ∧ (addRec r s).settings = s.settings ∧ (addRec r s).rings = s.rings ∧
    (addRec r s).backlog = s.backlog ∧ (addRec r s).irq = s.irq ∧ (addRec r s).reqs = s.reqs ∧ (addRec r s).bmc = s.bmc ∧
    (addRec r s).sched = s.sched ∧ (addRec r s).pool = s.pool ∧ (addRec r s).inbound = s.inbound ∧ (addRec r s).regions = s.regions ∧
    (addRec r s).wan = s.wan ∧ (addRec r s).hme = s.hme ∧ (addRec r s).pending = s.pending := by
  unfold addRec; (try dsimp only); (repeat' split) <;> simp

@[simp] theorem modSlot_frame (k : Key) (x : Region) (f : Slot → Slot) (s : State) :
    (modSlot k x f s).now = s.now ∧ (modSlot k x f s).start = s.start ∧ (modSlot k x f s).settings = s.settings ∧ (modSlot k x f s).rings = s.rings ∧
    (modSlot k x f s).backlog = s.backlog ∧ (modSlot k x f s).irq = s.irq ∧ (modSlot k x f s).reqs = s.reqs ∧ (modSlot k x f s).bmc = s.bmc ∧
    (modSlot k x f s).sched = s.sched ∧ (modSlot k x f s).pool = s.pool ∧ (modSlot k x f s).inbound = s.inbound ∧
    (modSlot k x f s).regions = s.regions ∧ (modSlot k x f s).wan = s.wan ∧ (modSlot k x f s).hme = s.hme ∧
    (modSlot k x f s).pending = s.pending := by
  unfold modSlot; (try dsimp only); (repeat' split) <;> simp

@[simp] theorem place_frame (b : List EntryBody) (s : State) :
    (place b s).now = s.now ∧ (place b s).start = s.start ∧ (place b s).settings = s.settings ∧ (place b s).rings = s.rings ∧
    (place b s).irq = s.irq ∧ (place b s).reqs = s.reqs ∧ (place b s).bmc = s.bmc ∧ (place b s).table = s.table ∧ (place b s).sched = s.sched ∧
    (place b s).pool = s.pool ∧ (place b s).inbound = s.inbound ∧ (place b s).regions = s.regions ∧ (place b s).wan = s.wan ∧
    (place b s).hme = s.hme ∧ (place b s).pending = s.pending := by
  unfold place; (try dsimp only); (repeat' split) <;> simp

@[simp] theorem complete_frame (ring : ReqRing) (tag : Word) (kind : Byte) (st : Status) (b : CompBody) (s : State) :
    (complete ring tag kind st b s).now = s.now ∧ (complete ring tag kind st b s).start = s.start ∧
    (complete ring tag kind st b s).settings = s.settings ∧ (complete ring tag kind st b s).rings = s.rings ∧
    (complete ring tag kind st b s).irq = s.irq ∧ (complete ring tag kind st b s).reqs = s.reqs ∧ (complete ring tag kind st b s).bmc = s.bmc ∧
    (complete ring tag kind st b s).table = s.table ∧ (complete ring tag kind st b s).sched = s.sched ∧
    (complete ring tag kind st b s).pool = s.pool ∧ (complete ring tag kind st b s).inbound = s.inbound ∧
    (complete ring tag kind st b s).regions = s.regions ∧ (complete ring tag kind st b s).wan = s.wan ∧ (complete ring tag kind st b s).hme = s.hme ∧
    (complete ring tag kind st b s).pending = s.pending := by
  unfold complete; (try dsimp only); (repeat' split) <;> simp

@[simp] theorem oweRecord_frame (k : Key) (c : Option (Version × CancelReason)) (s : State) :
    (oweRecord k c s).now = s.now ∧ (oweRecord k c s).start = s.start ∧ (oweRecord k c s).settings = s.settings ∧ (oweRecord k c s).rings = s.rings ∧
    (oweRecord k c s).irq = s.irq ∧ (oweRecord k c s).reqs = s.reqs ∧ (oweRecord k c s).bmc = s.bmc ∧ (oweRecord k c s).sched = s.sched ∧
    (oweRecord k c s).pool = s.pool ∧ (oweRecord k c s).inbound = s.inbound ∧ (oweRecord k c s).regions = s.regions ∧ (oweRecord k c s).wan = s.wan ∧
    (oweRecord k c s).hme = s.hme ∧ (oweRecord k c s).pending = s.pending := by
  unfold oweRecord; (try dsimp only); (repeat' split) <;> simp

@[simp] theorem emitRecord_frame (k : Key) (n : Notice) (s : State) :
    (emitRecord k n s).now = s.now ∧ (emitRecord k n s).start = s.start ∧ (emitRecord k n s).settings = s.settings ∧
    (emitRecord k n s).rings = s.rings ∧ (emitRecord k n s).irq = s.irq ∧ (emitRecord k n s).reqs = s.reqs ∧ (emitRecord k n s).bmc = s.bmc ∧
    (emitRecord k n s).sched = s.sched ∧ (emitRecord k n s).pool = s.pool ∧ (emitRecord k n s).inbound = s.inbound ∧
    (emitRecord k n s).regions = s.regions ∧ (emitRecord k n s).wan = s.wan ∧ (emitRecord k n s).hme = s.hme ∧
    (emitRecord k n s).pending = s.pending := by
  unfold emitRecord; (try dsimp only); (repeat' split) <;> simp

@[simp] theorem reportRegion_frame (x : Region) (s : State) :
    (reportRegion x s).now = s.now ∧ (reportRegion x s).start = s.start ∧ (reportRegion x s).settings = s.settings ∧
    (reportRegion x s).rings = s.rings ∧ (reportRegion x s).irq = s.irq ∧ (reportRegion x s).reqs = s.reqs ∧ (reportRegion x s).bmc = s.bmc ∧
    (reportRegion x s).table = s.table ∧ (reportRegion x s).sched = s.sched ∧ (reportRegion x s).pool = s.pool ∧
    (reportRegion x s).inbound = s.inbound ∧ (reportRegion x s).wan = s.wan ∧ (reportRegion x s).hme = s.hme ∧
    (reportRegion x s).pending = s.pending := by
  unfold reportRegion; (try dsimp only); (repeat' split) <;> simp

@[simp] theorem reportPressure_frame (s : State) :
    (reportPressure s).now = s.now ∧ (reportPressure s).start = s.start ∧ (reportPressure s).settings = s.settings ∧
    (reportPressure s).rings = s.rings ∧ (reportPressure s).irq = s.irq ∧ (reportPressure s).reqs = s.reqs ∧ (reportPressure s).bmc = s.bmc ∧
    (reportPressure s).sched = s.sched ∧ (reportPressure s).pool = s.pool ∧ (reportPressure s).inbound = s.inbound ∧
    (reportPressure s).regions = s.regions ∧ (reportPressure s).wan = s.wan ∧ (reportPressure s).hme = s.hme ∧
    (reportPressure s).pending = s.pending := by
  unfold reportPressure; (try dsimp only); (repeat' split) <;> simp

@[simp] theorem pressureCheck_frame (s : State) :
    (pressureCheck s).now = s.now ∧ (pressureCheck s).start = s.start ∧ (pressureCheck s).settings = s.settings ∧ (pressureCheck s).rings = s.rings ∧
    (pressureCheck s).irq = s.irq ∧ (pressureCheck s).reqs = s.reqs ∧ (pressureCheck s).bmc = s.bmc ∧ (pressureCheck s).sched = s.sched ∧
    (pressureCheck s).pool = s.pool ∧ (pressureCheck s).inbound = s.inbound ∧ (pressureCheck s).regions = s.regions ∧ (pressureCheck s).wan = s.wan ∧
    (pressureCheck s).hme = s.hme ∧ (pressureCheck s).pending = s.pending := by
  unfold pressureCheck; (try dsimp only); (repeat' split) <;> simp

@[simp] theorem lingerJoin_frame (k : Key) (d : Nat) (s : State) :
    (lingerJoin k d s).now = s.now ∧ (lingerJoin k d s).start = s.start ∧ (lingerJoin k d s).settings = s.settings ∧
    (lingerJoin k d s).rings = s.rings ∧ (lingerJoin k d s).backlog = s.backlog ∧ (lingerJoin k d s).irq = s.irq ∧ (lingerJoin k d s).reqs = s.reqs ∧
    (lingerJoin k d s).bmc = s.bmc ∧ (lingerJoin k d s).sched = s.sched ∧ (lingerJoin k d s).pool = s.pool ∧ (lingerJoin k d s).inbound = s.inbound ∧
    (lingerJoin k d s).regions = s.regions ∧ (lingerJoin k d s).wan = s.wan ∧ (lingerJoin k d s).hme = s.hme ∧
    (lingerJoin k d s).pending = s.pending := by
  unfold lingerJoin; (try dsimp only); (repeat' split) <;> simp

@[simp] theorem lingerLeave_frame (k : Key) (s : State) :
    (lingerLeave k s).now = s.now ∧ (lingerLeave k s).start = s.start ∧ (lingerLeave k s).settings = s.settings ∧ (lingerLeave k s).rings = s.rings ∧
    (lingerLeave k s).backlog = s.backlog ∧ (lingerLeave k s).irq = s.irq ∧ (lingerLeave k s).reqs = s.reqs ∧ (lingerLeave k s).bmc = s.bmc ∧
    (lingerLeave k s).sched = s.sched ∧ (lingerLeave k s).pool = s.pool ∧ (lingerLeave k s).inbound = s.inbound ∧
    (lingerLeave k s).regions = s.regions ∧ (lingerLeave k s).wan = s.wan ∧ (lingerLeave k s).hme = s.hme ∧
    (lingerLeave k s).pending = s.pending := by
  unfold lingerLeave; (try dsimp only); (repeat' split) <;> simp

@[simp] theorem retire_frame (k : Key) (s : State) :
    (retire k s).now = s.now ∧ (retire k s).start = s.start ∧ (retire k s).settings = s.settings ∧ (retire k s).rings = s.rings ∧
    (retire k s).backlog = s.backlog ∧ (retire k s).irq = s.irq ∧ (retire k s).reqs = s.reqs ∧ (retire k s).bmc = s.bmc ∧
    (retire k s).sched = s.sched ∧ (retire k s).pool = s.pool ∧ (retire k s).inbound = s.inbound ∧ (retire k s).regions = s.regions ∧
    (retire k s).wan = s.wan ∧ (retire k s).hme = s.hme ∧ (retire k s).pending = s.pending := by
  unfold retire; (try dsimp only); (repeat' split) <;> simp

@[simp] theorem retireIfDue_frame (k : Key) (s : State) :
    (retireIfDue k s).now = s.now ∧ (retireIfDue k s).start = s.start ∧ (retireIfDue k s).settings = s.settings ∧ (retireIfDue k s).rings = s.rings ∧
    (retireIfDue k s).backlog = s.backlog ∧ (retireIfDue k s).irq = s.irq ∧ (retireIfDue k s).reqs = s.reqs ∧ (retireIfDue k s).bmc = s.bmc ∧
    (retireIfDue k s).sched = s.sched ∧ (retireIfDue k s).pool = s.pool ∧ (retireIfDue k s).inbound = s.inbound ∧
    (retireIfDue k s).regions = s.regions ∧ (retireIfDue k s).wan = s.wan ∧ (retireIfDue k s).hme = s.hme ∧
    (retireIfDue k s).pending = s.pending := by
  unfold retireIfDue; (try dsimp only); (repeat' split) <;> simp

@[simp] theorem settle_frame (k : Key) (o : Settle) (s : State) :
    (settle k o s).now = s.now ∧ (settle k o s).start = s.start ∧ (settle k o s).settings = s.settings ∧ (settle k o s).rings = s.rings ∧
    (settle k o s).backlog = s.backlog ∧ (settle k o s).irq = s.irq ∧ (settle k o s).reqs = s.reqs ∧ (settle k o s).bmc = s.bmc ∧
    (settle k o s).sched = s.sched ∧ (settle k o s).pool = s.pool ∧ (settle k o s).inbound = s.inbound ∧ (settle k o s).regions = s.regions ∧
    (settle k o s).wan = s.wan ∧ (settle k o s).hme = s.hme ∧ (settle k o s).pending = s.pending := by
  unfold settle; (try dsimp only); (repeat' split) <;> simp

@[simp] theorem settleTest_frame (k : Key) (s : State) :
    (settleTest k s).now = s.now ∧ (settleTest k s).start = s.start ∧ (settleTest k s).settings = s.settings ∧ (settleTest k s).rings = s.rings ∧
    (settleTest k s).irq = s.irq ∧ (settleTest k s).reqs = s.reqs ∧ (settleTest k s).bmc = s.bmc ∧ (settleTest k s).sched = s.sched ∧
    (settleTest k s).pool = s.pool ∧ (settleTest k s).inbound = s.inbound ∧ (settleTest k s).regions = s.regions ∧ (settleTest k s).wan = s.wan ∧
    (settleTest k s).hme = s.hme ∧ (settleTest k s).pending = s.pending := by
  unfold settleTest; (try dsimp only); (repeat' split) <;> simp

@[simp] theorem workJoin_frame (x : Region) (k : Key) (s : State) :
    (workJoin x k s).now = s.now ∧ (workJoin x k s).start = s.start ∧ (workJoin x k s).settings = s.settings ∧ (workJoin x k s).rings = s.rings ∧
    (workJoin x k s).backlog = s.backlog ∧ (workJoin x k s).irq = s.irq ∧ (workJoin x k s).reqs = s.reqs ∧ (workJoin x k s).bmc = s.bmc ∧
    (workJoin x k s).table = s.table ∧ (workJoin x k s).pool = s.pool ∧ (workJoin x k s).inbound = s.inbound ∧ (workJoin x k s).regions = s.regions ∧
    (workJoin x k s).wan = s.wan ∧ (workJoin x k s).hme = s.hme ∧ (workJoin x k s).pending = s.pending := by
  unfold workJoin; (try dsimp only); (repeat' split) <;> simp

@[simp] theorem workLeave_frame (x : Region) (k : Key) (s : State) :
    (workLeave x k s).now = s.now ∧ (workLeave x k s).start = s.start ∧ (workLeave x k s).settings = s.settings ∧ (workLeave x k s).rings = s.rings ∧
    (workLeave x k s).backlog = s.backlog ∧ (workLeave x k s).irq = s.irq ∧ (workLeave x k s).reqs = s.reqs ∧ (workLeave x k s).bmc = s.bmc ∧
    (workLeave x k s).table = s.table ∧ (workLeave x k s).pool = s.pool ∧ (workLeave x k s).inbound = s.inbound ∧
    (workLeave x k s).regions = s.regions ∧ (workLeave x k s).wan = s.wan ∧ (workLeave x k s).hme = s.hme ∧
    (workLeave x k s).pending = s.pending := by
  unfold workLeave; (try dsimp only); (repeat' split) <;> simp

@[simp] theorem confirmJoin_frame (x : Region) (k : Key) (s : State) :
    (confirmJoin x k s).now = s.now ∧ (confirmJoin x k s).start = s.start ∧ (confirmJoin x k s).settings = s.settings ∧
    (confirmJoin x k s).rings = s.rings ∧ (confirmJoin x k s).backlog = s.backlog ∧ (confirmJoin x k s).irq = s.irq ∧
    (confirmJoin x k s).reqs = s.reqs ∧ (confirmJoin x k s).bmc = s.bmc ∧ (confirmJoin x k s).table = s.table ∧ (confirmJoin x k s).pool = s.pool ∧
    (confirmJoin x k s).inbound = s.inbound ∧ (confirmJoin x k s).regions = s.regions ∧ (confirmJoin x k s).wan = s.wan ∧
    (confirmJoin x k s).hme = s.hme ∧ (confirmJoin x k s).pending = s.pending := by
  unfold confirmJoin; (try dsimp only); (repeat' split) <;> simp

@[simp] theorem confirmLeave_frame (x : Region) (k : Key) (s : State) :
    (confirmLeave x k s).now = s.now ∧ (confirmLeave x k s).start = s.start ∧ (confirmLeave x k s).settings = s.settings ∧
    (confirmLeave x k s).rings = s.rings ∧ (confirmLeave x k s).backlog = s.backlog ∧ (confirmLeave x k s).irq = s.irq ∧
    (confirmLeave x k s).reqs = s.reqs ∧ (confirmLeave x k s).bmc = s.bmc ∧ (confirmLeave x k s).table = s.table ∧
    (confirmLeave x k s).pool = s.pool ∧ (confirmLeave x k s).inbound = s.inbound ∧ (confirmLeave x k s).regions = s.regions ∧
    (confirmLeave x k s).wan = s.wan ∧ (confirmLeave x k s).hme = s.hme ∧ (confirmLeave x k s).pending = s.pending := by
  unfold confirmLeave; (try dsimp only); (repeat' split) <;> simp

@[simp] theorem leaveLists_frame (k : Key) (s : State) :
    (leaveLists k s).now = s.now ∧ (leaveLists k s).start = s.start ∧ (leaveLists k s).settings = s.settings ∧ (leaveLists k s).rings = s.rings ∧
    (leaveLists k s).backlog = s.backlog ∧ (leaveLists k s).irq = s.irq ∧ (leaveLists k s).reqs = s.reqs ∧ (leaveLists k s).bmc = s.bmc ∧
    (leaveLists k s).pool = s.pool ∧ (leaveLists k s).inbound = s.inbound ∧ (leaveLists k s).regions = s.regions ∧ (leaveLists k s).wan = s.wan ∧
    (leaveLists k s).hme = s.hme ∧ (leaveLists k s).pending = s.pending := by
  unfold leaveLists; (try dsimp only); (repeat' split) <;> simp

@[simp] theorem slotTo_frame (k : Key) (x : Region) (st : SlotState) (s : State) :
    (slotTo k x st s).now = s.now ∧ (slotTo k x st s).start = s.start ∧ (slotTo k x st s).settings = s.settings ∧ (slotTo k x st s).rings = s.rings ∧
    (slotTo k x st s).backlog = s.backlog ∧ (slotTo k x st s).irq = s.irq ∧ (slotTo k x st s).reqs = s.reqs ∧ (slotTo k x st s).bmc = s.bmc ∧
    (slotTo k x st s).sched = s.sched ∧ (slotTo k x st s).pool = s.pool ∧ (slotTo k x st s).inbound = s.inbound ∧
    (slotTo k x st s).regions = s.regions ∧ (slotTo k x st s).wan = s.wan ∧ (slotTo k x st s).hme = s.hme ∧
    (slotTo k x st s).pending = s.pending := by
  unfold slotTo; (try dsimp only); (repeat' split) <;> simp

@[simp] theorem requeue_frame (k : Key) (x : Region) (s : State) :
    (requeue k x s).now = s.now ∧ (requeue k x s).start = s.start ∧ (requeue k x s).settings = s.settings ∧ (requeue k x s).rings = s.rings ∧
    (requeue k x s).backlog = s.backlog ∧ (requeue k x s).irq = s.irq ∧ (requeue k x s).reqs = s.reqs ∧ (requeue k x s).bmc = s.bmc ∧
    (requeue k x s).pool = s.pool ∧ (requeue k x s).inbound = s.inbound ∧ (requeue k x s).regions = s.regions ∧ (requeue k x s).wan = s.wan ∧
    (requeue k x s).hme = s.hme ∧ (requeue k x s).pending = s.pending := by
  unfold requeue; (try dsimp only); (repeat' split) <;> simp

@[simp] theorem confirming_frame (k : Key) (x : Region) (s : State) :
    (confirming k x s).now = s.now ∧ (confirming k x s).start = s.start ∧ (confirming k x s).settings = s.settings ∧
    (confirming k x s).rings = s.rings ∧ (confirming k x s).backlog = s.backlog ∧ (confirming k x s).irq = s.irq ∧ (confirming k x s).reqs = s.reqs ∧
    (confirming k x s).bmc = s.bmc ∧ (confirming k x s).pool = s.pool ∧ (confirming k x s).inbound = s.inbound ∧
    (confirming k x s).regions = s.regions ∧ (confirming k x s).wan = s.wan ∧ (confirming k x s).hme = s.hme ∧
    (confirming k x s).pending = s.pending := by
  unfold confirming; (try dsimp only); (repeat' split) <;> simp

@[simp] theorem finish_frame (k : Key) (x : Region) (st : SlotState) (s : State) :
    (finish k x st s).now = s.now ∧ (finish k x st s).start = s.start ∧ (finish k x st s).settings = s.settings ∧ (finish k x st s).rings = s.rings ∧
    (finish k x st s).irq = s.irq ∧ (finish k x st s).reqs = s.reqs ∧ (finish k x st s).bmc = s.bmc ∧ (finish k x st s).sched = s.sched ∧
    (finish k x st s).pool = s.pool ∧ (finish k x st s).inbound = s.inbound ∧ (finish k x st s).regions = s.regions ∧ (finish k x st s).wan = s.wan ∧
    (finish k x st s).hme = s.hme ∧ (finish k x st s).pending = s.pending := by
  unfold finish; (try dsimp only); (repeat' split) <;> simp

@[simp] theorem failSlot_frame (k : Key) (x : Region) (w : FailReason) (s : State) :
    (failSlot k x w s).now = s.now ∧ (failSlot k x w s).start = s.start ∧ (failSlot k x w s).settings = s.settings ∧
    (failSlot k x w s).rings = s.rings ∧ (failSlot k x w s).irq = s.irq ∧ (failSlot k x w s).reqs = s.reqs ∧ (failSlot k x w s).bmc = s.bmc ∧
    (failSlot k x w s).sched = s.sched ∧ (failSlot k x w s).pool = s.pool ∧ (failSlot k x w s).inbound = s.inbound ∧
    (failSlot k x w s).regions = s.regions ∧ (failSlot k x w s).wan = s.wan ∧ (failSlot k x w s).hme = s.hme ∧
    (failSlot k x w s).pending = s.pending := by
  unfold failSlot; (try dsimp only); (repeat' split) <;> simp

@[simp] theorem sendCtl_frame (x : Region) (b : CtlBody) (s : State) :
    (sendCtl x b s).now = s.now ∧ (sendCtl x b s).start = s.start ∧ (sendCtl x b s).settings = s.settings ∧ (sendCtl x b s).rings = s.rings ∧
    (sendCtl x b s).backlog = s.backlog ∧ (sendCtl x b s).irq = s.irq ∧ (sendCtl x b s).reqs = s.reqs ∧ (sendCtl x b s).bmc = s.bmc ∧
    (sendCtl x b s).table = s.table ∧ (sendCtl x b s).sched = s.sched ∧ (sendCtl x b s).pool = s.pool ∧ (sendCtl x b s).inbound = s.inbound ∧
    (sendCtl x b s).regions = s.regions ∧ (sendCtl x b s).hme = s.hme ∧ (sendCtl x b s).pending = s.pending := by
  unfold sendCtl; (try dsimp only); (repeat' split) <;> simp

@[simp] theorem addOp_frame (u : OpUse) (b : List Burst) (s : State) :
    (addOp u b s).now = s.now ∧ (addOp u b s).start = s.start ∧ (addOp u b s).settings = s.settings ∧ (addOp u b s).rings = s.rings ∧
    (addOp u b s).backlog = s.backlog ∧ (addOp u b s).irq = s.irq ∧ (addOp u b s).reqs = s.reqs ∧ (addOp u b s).bmc = s.bmc ∧
    (addOp u b s).table = s.table ∧ (addOp u b s).sched = s.sched ∧ (addOp u b s).pool = s.pool ∧ (addOp u b s).inbound = s.inbound ∧
    (addOp u b s).regions = s.regions ∧ (addOp u b s).wan = s.wan ∧ (addOp u b s).pending = s.pending := by
  unfold addOp; (try dsimp only); (repeat' split) <;> simp

@[simp] theorem addRead_frame (u : OpUse) (a : Addr) (n : Nat) (s : State) :
    (addRead u a n s).now = s.now ∧ (addRead u a n s).start = s.start ∧ (addRead u a n s).settings = s.settings ∧ (addRead u a n s).rings = s.rings ∧
    (addRead u a n s).backlog = s.backlog ∧ (addRead u a n s).irq = s.irq ∧ (addRead u a n s).reqs = s.reqs ∧ (addRead u a n s).bmc = s.bmc ∧
    (addRead u a n s).table = s.table ∧ (addRead u a n s).sched = s.sched ∧ (addRead u a n s).pool = s.pool ∧ (addRead u a n s).inbound = s.inbound ∧
    (addRead u a n s).regions = s.regions ∧ (addRead u a n s).wan = s.wan ∧ (addRead u a n s).pending = s.pending := by
  unfold addRead; (try dsimp only); (repeat' split) <;> simp

@[simp] theorem addWrite_frame (u : OpUse) (a : Addr) (b : List Byte) (s : State) :
    (addWrite u a b s).now = s.now ∧ (addWrite u a b s).start = s.start ∧ (addWrite u a b s).settings = s.settings ∧
    (addWrite u a b s).rings = s.rings ∧ (addWrite u a b s).backlog = s.backlog ∧ (addWrite u a b s).irq = s.irq ∧ (addWrite u a b s).reqs = s.reqs ∧
    (addWrite u a b s).bmc = s.bmc ∧ (addWrite u a b s).table = s.table ∧ (addWrite u a b s).sched = s.sched ∧ (addWrite u a b s).pool = s.pool ∧
    (addWrite u a b s).inbound = s.inbound ∧ (addWrite u a b s).regions = s.regions ∧ (addWrite u a b s).wan = s.wan ∧
    (addWrite u a b s).pending = s.pending := by
  unfold addWrite; (try dsimp only); (repeat' split) <;> simp

@[simp] theorem dropOp_frame (i : Nat) (s : State) :
    (dropOp i s).now = s.now ∧ (dropOp i s).start = s.start ∧ (dropOp i s).settings = s.settings ∧ (dropOp i s).rings = s.rings ∧
    (dropOp i s).backlog = s.backlog ∧ (dropOp i s).irq = s.irq ∧ (dropOp i s).reqs = s.reqs ∧ (dropOp i s).bmc = s.bmc ∧
    (dropOp i s).table = s.table ∧ (dropOp i s).sched = s.sched ∧ (dropOp i s).pool = s.pool ∧ (dropOp i s).inbound = s.inbound ∧
    (dropOp i s).regions = s.regions ∧ (dropOp i s).wan = s.wan ∧ (dropOp i s).pending = s.pending := by
  unfold dropOp; (try dsimp only); (repeat' split) <;> simp

@[simp] theorem latchFault_frame (c : Fin 7) (k : FailKind) (a : Addr) (s : State) :
    (latchFault c k a s).now = s.now ∧ (latchFault c k a s).start = s.start ∧ (latchFault c k a s).settings = s.settings ∧
    (latchFault c k a s).rings = s.rings ∧ (latchFault c k a s).backlog = s.backlog ∧ (latchFault c k a s).reqs = s.reqs ∧
    (latchFault c k a s).bmc = s.bmc ∧ (latchFault c k a s).table = s.table ∧ (latchFault c k a s).sched = s.sched ∧
    (latchFault c k a s).pool = s.pool ∧ (latchFault c k a s).inbound = s.inbound ∧ (latchFault c k a s).regions = s.regions ∧
    (latchFault c k a s).wan = s.wan ∧ (latchFault c k a s).pending = s.pending := by
  unfold latchFault; (try dsimp only); (repeat' split) <;> simp

@[simp] theorem modOp_frame (i : Nat) (f : Op → Op) (s : State) :
    (modOp i f s).now = s.now ∧ (modOp i f s).start = s.start ∧ (modOp i f s).settings = s.settings ∧ (modOp i f s).rings = s.rings ∧
    (modOp i f s).backlog = s.backlog ∧ (modOp i f s).irq = s.irq ∧ (modOp i f s).reqs = s.reqs ∧ (modOp i f s).bmc = s.bmc ∧
    (modOp i f s).table = s.table ∧ (modOp i f s).sched = s.sched ∧ (modOp i f s).pool = s.pool ∧ (modOp i f s).inbound = s.inbound ∧
    (modOp i f s).regions = s.regions ∧ (modOp i f s).wan = s.wan ∧ (modOp i f s).pending = s.pending := by
  unfold modOp; (try dsimp only); (repeat' split) <;> simp

@[simp] theorem burstFails_frame (o : Op) (b : Burst) (i : Nat) (k : FailKind) (s : State) :
    (burstFails o b i k s).now = s.now ∧ (burstFails o b i k s).start = s.start ∧ (burstFails o b i k s).settings = s.settings ∧
    (burstFails o b i k s).rings = s.rings ∧ (burstFails o b i k s).backlog = s.backlog ∧ (burstFails o b i k s).reqs = s.reqs ∧
    (burstFails o b i k s).bmc = s.bmc ∧ (burstFails o b i k s).table = s.table ∧ (burstFails o b i k s).sched = s.sched ∧
    (burstFails o b i k s).pool = s.pool ∧ (burstFails o b i k s).inbound = s.inbound ∧ (burstFails o b i k s).regions = s.regions ∧
    (burstFails o b i k s).wan = s.wan ∧ (burstFails o b i k s).pending = s.pending := by
  unfold burstFails; (try dsimp only); (repeat' split) <;> simp

@[simp] theorem setCtx_frame (c : CtxNo) (x : Ctx) (s : State) :
    (setCtx c x s).now = s.now ∧ (setCtx c x s).start = s.start ∧ (setCtx c x s).settings = s.settings ∧ (setCtx c x s).rings = s.rings ∧
    (setCtx c x s).backlog = s.backlog ∧ (setCtx c x s).irq = s.irq ∧ (setCtx c x s).reqs = s.reqs ∧ (setCtx c x s).bmc = s.bmc ∧
    (setCtx c x s).table = s.table ∧ (setCtx c x s).sched = s.sched ∧ (setCtx c x s).inbound = s.inbound ∧ (setCtx c x s).regions = s.regions ∧
    (setCtx c x s).wan = s.wan ∧ (setCtx c x s).hme = s.hme ∧ (setCtx c x s).pending = s.pending := by
  unfold setCtx; (try dsimp only); (repeat' split) <;> simp

@[simp] theorem modOut_frame (c : CtxNo) (f : OutCtx → OutCtx) (s : State) :
    (modOut c f s).now = s.now ∧ (modOut c f s).start = s.start ∧ (modOut c f s).settings = s.settings ∧ (modOut c f s).rings = s.rings ∧
    (modOut c f s).backlog = s.backlog ∧ (modOut c f s).irq = s.irq ∧ (modOut c f s).reqs = s.reqs ∧ (modOut c f s).bmc = s.bmc ∧
    (modOut c f s).table = s.table ∧ (modOut c f s).sched = s.sched ∧ (modOut c f s).inbound = s.inbound ∧ (modOut c f s).regions = s.regions ∧
    (modOut c f s).wan = s.wan ∧ (modOut c f s).hme = s.hme ∧ (modOut c f s).pending = s.pending := by
  unfold modOut; (try dsimp only); (repeat' split) <;> simp

@[simp] theorem modIn_frame (c : CtxNo) (f : InCtx → InCtx) (s : State) :
    (modIn c f s).now = s.now ∧ (modIn c f s).start = s.start ∧ (modIn c f s).settings = s.settings ∧ (modIn c f s).rings = s.rings ∧
    (modIn c f s).backlog = s.backlog ∧ (modIn c f s).irq = s.irq ∧ (modIn c f s).reqs = s.reqs ∧ (modIn c f s).bmc = s.bmc ∧
    (modIn c f s).table = s.table ∧ (modIn c f s).sched = s.sched ∧ (modIn c f s).inbound = s.inbound ∧ (modIn c f s).regions = s.regions ∧
    (modIn c f s).wan = s.wan ∧ (modIn c f s).hme = s.hme ∧ (modIn c f s).pending = s.pending := by
  unfold modIn; (try dsimp only); (repeat' split) <;> simp

@[simp] theorem freeCtx_frame (c : CtxNo) (k : Key) (s : State) :
    (freeCtx c k s).now = s.now ∧ (freeCtx c k s).start = s.start ∧ (freeCtx c k s).settings = s.settings ∧ (freeCtx c k s).rings = s.rings ∧
    (freeCtx c k s).backlog = s.backlog ∧ (freeCtx c k s).irq = s.irq ∧ (freeCtx c k s).reqs = s.reqs ∧ (freeCtx c k s).bmc = s.bmc ∧
    (freeCtx c k s).sched = s.sched ∧ (freeCtx c k s).inbound = s.inbound ∧ (freeCtx c k s).regions = s.regions ∧ (freeCtx c k s).wan = s.wan ∧
    (freeCtx c k s).hme = s.hme ∧ (freeCtx c k s).pending = s.pending := by
  unfold freeCtx; (try dsimp only); (repeat' split) <;> simp

@[simp] theorem loseGrant_frame (c : CtxNo) (s : State) :
    (loseGrant c s).now = s.now ∧ (loseGrant c s).start = s.start ∧ (loseGrant c s).settings = s.settings ∧ (loseGrant c s).rings = s.rings ∧
    (loseGrant c s).backlog = s.backlog ∧ (loseGrant c s).irq = s.irq ∧ (loseGrant c s).reqs = s.reqs ∧ (loseGrant c s).bmc = s.bmc ∧
    (loseGrant c s).table = s.table ∧ (loseGrant c s).sched = s.sched ∧ (loseGrant c s).pool = s.pool ∧ (loseGrant c s).inbound = s.inbound ∧
    (loseGrant c s).regions = s.regions ∧ (loseGrant c s).hme = s.hme ∧ (loseGrant c s).pending = s.pending := by
  unfold loseGrant; (try dsimp only); (repeat' split) <;> simp

@[simp] theorem endOutbound_frame (c : CtxNo) (s : State) :
    (endOutbound c s).now = s.now ∧ (endOutbound c s).start = s.start ∧ (endOutbound c s).settings = s.settings ∧ (endOutbound c s).rings = s.rings ∧
    (endOutbound c s).backlog = s.backlog ∧ (endOutbound c s).irq = s.irq ∧ (endOutbound c s).reqs = s.reqs ∧ (endOutbound c s).bmc = s.bmc ∧
    (endOutbound c s).sched = s.sched ∧ (endOutbound c s).inbound = s.inbound ∧ (endOutbound c s).regions = s.regions ∧
    (endOutbound c s).pending = s.pending := by
  unfold endOutbound; (try dsimp only); (repeat' split) <;> simp

@[simp] theorem resumeCheck_frame (s : State) :
    (resumeCheck s).now = s.now ∧ (resumeCheck s).start = s.start ∧ (resumeCheck s).settings = s.settings ∧ (resumeCheck s).rings = s.rings ∧
    (resumeCheck s).backlog = s.backlog ∧ (resumeCheck s).irq = s.irq ∧ (resumeCheck s).reqs = s.reqs ∧ (resumeCheck s).bmc = s.bmc ∧
    (resumeCheck s).table = s.table ∧ (resumeCheck s).sched = s.sched ∧ (resumeCheck s).pool = s.pool ∧ (resumeCheck s).regions = s.regions ∧
    (resumeCheck s).hme = s.hme ∧ (resumeCheck s).pending = s.pending := by
  unfold resumeCheck; (try dsimp only); refine ⟨?_, ?_, ?_, ?_, ?_, ?_, ?_, ?_, ?_, ?_, ?_, ?_, ?_, ?_⟩
  · (try split) <;> (first | rfl | (rw [foldl_keeps (·.now) _ (fun t x => by (try dsimp only); (try split) <;> simp)]; try simp))
  · (try split) <;> (first | rfl | (rw [foldl_keeps (·.start) _ (fun t x => by (try dsimp only); (try split) <;> simp)]; try simp))
  · (try split) <;> (first | rfl | (rw [foldl_keeps (·.settings) _ (fun t x => by (try dsimp only); (try split) <;> simp)]; try simp))
  · (try split) <;> (first | rfl | (rw [foldl_keeps (·.rings) _ (fun t x => by (try dsimp only); (try split) <;> simp)]; try simp))
  · (try split) <;> (first | rfl | (rw [foldl_keeps (·.backlog) _ (fun t x => by (try dsimp only); (try split) <;> simp)]; try simp))
  · (try split) <;> (first | rfl | (rw [foldl_keeps (·.irq) _ (fun t x => by (try dsimp only); (try split) <;> simp)]; try simp))
  · (try split) <;> (first | rfl | (rw [foldl_keeps (·.reqs) _ (fun t x => by (try dsimp only); (try split) <;> simp)]; try simp))
  · (try split) <;> (first | rfl | (rw [foldl_keeps (·.bmc) _ (fun t x => by (try dsimp only); (try split) <;> simp)]; try simp))
  · (try split) <;> (first | rfl | (rw [foldl_keeps (·.table) _ (fun t x => by (try dsimp only); (try split) <;> simp)]; try simp))
  · (try split) <;> (first | rfl | (rw [foldl_keeps (·.sched) _ (fun t x => by (try dsimp only); (try split) <;> simp)]; try simp))
  · (try split) <;> (first | rfl | (rw [foldl_keeps (·.pool) _ (fun t x => by (try dsimp only); (try split) <;> simp)]; try simp))
  · (try split) <;> (first | rfl | (rw [foldl_keeps (·.regions) _ (fun t x => by (try dsimp only); (try split) <;> simp)]; try simp))
  · (try split) <;> (first | rfl | (rw [foldl_keeps (·.hme) _ (fun t x => by (try dsimp only); (try split) <;> simp)]; try simp))
  · (try split) <;> (first | rfl | (rw [foldl_keeps (·.pending) _ (fun t x => by (try dsimp only); (try split) <;> simp)]; try simp))

@[simp] theorem fifoRemove_frame (p : FifoEntry → Bool) (s : State) :
    (fifoRemove p s).now = s.now ∧ (fifoRemove p s).start = s.start ∧ (fifoRemove p s).settings = s.settings ∧ (fifoRemove p s).rings = s.rings ∧
    (fifoRemove p s).backlog = s.backlog ∧ (fifoRemove p s).irq = s.irq ∧ (fifoRemove p s).reqs = s.reqs ∧ (fifoRemove p s).bmc = s.bmc ∧
    (fifoRemove p s).table = s.table ∧ (fifoRemove p s).sched = s.sched ∧ (fifoRemove p s).pool = s.pool ∧ (fifoRemove p s).regions = s.regions ∧
    (fifoRemove p s).hme = s.hme ∧ (fifoRemove p s).pending = s.pending := by
  unfold fifoRemove; (try dsimp only); (repeat' split) <;> simp

@[simp] theorem releaseInbound_frame (c : CtxNo) (k : Key) (s : State) :
    (releaseInbound c k s).now = s.now ∧ (releaseInbound c k s).start = s.start ∧ (releaseInbound c k s).settings = s.settings ∧
    (releaseInbound c k s).rings = s.rings ∧ (releaseInbound c k s).backlog = s.backlog ∧ (releaseInbound c k s).irq = s.irq ∧
    (releaseInbound c k s).reqs = s.reqs ∧ (releaseInbound c k s).bmc = s.bmc ∧ (releaseInbound c k s).sched = s.sched ∧
    (releaseInbound c k s).inbound = s.inbound ∧ (releaseInbound c k s).regions = s.regions ∧ (releaseInbound c k s).wan = s.wan ∧
    (releaseInbound c k s).hme = s.hme ∧ (releaseInbound c k s).pending = s.pending := by
  unfold releaseInbound; (try dsimp only); (repeat' split) <;> simp

@[simp] theorem drainFree_frame (c : CtxNo) (i : InCtx) (w : CancelReason) (s : State) :
    (drainFree c i w s).now = s.now ∧ (drainFree c i w s).start = s.start ∧ (drainFree c i w s).settings = s.settings ∧
    (drainFree c i w s).rings = s.rings ∧ (drainFree c i w s).irq = s.irq ∧ (drainFree c i w s).reqs = s.reqs ∧ (drainFree c i w s).bmc = s.bmc ∧
    (drainFree c i w s).sched = s.sched ∧ (drainFree c i w s).inbound = s.inbound ∧ (drainFree c i w s).regions = s.regions ∧
    (drainFree c i w s).wan = s.wan ∧ (drainFree c i w s).hme = s.hme ∧ (drainFree c i w s).pending = s.pending := by
  unfold drainFree; (try dsimp only); (repeat' split) <;> simp

@[simp] theorem cancelDrain_frame (c : CtxNo) (w : CancelReason) (s : State) :
    (cancelDrain c w s).now = s.now ∧ (cancelDrain c w s).start = s.start ∧ (cancelDrain c w s).settings = s.settings ∧
    (cancelDrain c w s).rings = s.rings ∧ (cancelDrain c w s).irq = s.irq ∧ (cancelDrain c w s).reqs = s.reqs ∧ (cancelDrain c w s).bmc = s.bmc ∧
    (cancelDrain c w s).sched = s.sched ∧ (cancelDrain c w s).regions = s.regions ∧ (cancelDrain c w s).pending = s.pending := by
  unfold cancelDrain; (try dsimp only); (repeat' split) <;> simp

@[simp] theorem abortRegion_frame (x : Region) (s : State) :
    (abortRegion x s).now = s.now ∧ (abortRegion x s).start = s.start ∧ (abortRegion x s).settings = s.settings ∧ (abortRegion x s).rings = s.rings ∧
    (abortRegion x s).backlog = s.backlog ∧ (abortRegion x s).irq = s.irq ∧ (abortRegion x s).reqs = s.reqs ∧ (abortRegion x s).bmc = s.bmc ∧
    (abortRegion x s).inbound = s.inbound ∧ (abortRegion x s).regions = s.regions ∧ (abortRegion x s).pending = s.pending := by
  unfold abortRegion; (try dsimp only); refine ⟨?_, ?_, ?_, ?_, ?_, ?_, ?_, ?_, ?_, ?_, ?_⟩
  · (try split) <;> (first | rfl | (rw [foldl_keeps (·.now) _ (fun t x => by (try dsimp only); (try split) <;> simp)]; try simp))
  · (try split) <;> (first | rfl | (rw [foldl_keeps (·.start) _ (fun t x => by (try dsimp only); (try split) <;> simp)]; try simp))
  · (try split) <;> (first | rfl | (rw [foldl_keeps (·.settings) _ (fun t x => by (try dsimp only); (try split) <;> simp)]; try simp))
  · (try split) <;> (first | rfl | (rw [foldl_keeps (·.rings) _ (fun t x => by (try dsimp only); (try split) <;> simp)]; try simp))
  · (try split) <;> (first | rfl | (rw [foldl_keeps (·.backlog) _ (fun t x => by (try dsimp only); (try split) <;> simp)]; try simp))
  · (try split) <;> (first | rfl | (rw [foldl_keeps (·.irq) _ (fun t x => by (try dsimp only); (try split) <;> simp)]; try simp))
  · (try split) <;> (first | rfl | (rw [foldl_keeps (·.reqs) _ (fun t x => by (try dsimp only); (try split) <;> simp)]; try simp))
  · (try split) <;> (first | rfl | (rw [foldl_keeps (·.bmc) _ (fun t x => by (try dsimp only); (try split) <;> simp)]; try simp))
  · (try split) <;> (first | rfl | (rw [foldl_keeps (·.inbound) _ (fun t x => by (try dsimp only); (try split) <;> simp)]; try simp))
  · (try split) <;> (first | rfl | (rw [foldl_keeps (·.regions) _ (fun t x => by (try dsimp only); (try split) <;> simp)]; try simp))
  · (try split) <;> (first | rfl | (rw [foldl_keeps (·.pending) _ (fun t x => by (try dsimp only); (try split) <;> simp)]; try simp))

@[simp] theorem becomeDark_frame (x : Region) (s : State) :
    (becomeDark x s).now = s.now ∧ (becomeDark x s).start = s.start ∧ (becomeDark x s).settings = s.settings ∧ (becomeDark x s).rings = s.rings ∧
    (becomeDark x s).irq = s.irq ∧ (becomeDark x s).reqs = s.reqs ∧ (becomeDark x s).bmc = s.bmc ∧ (becomeDark x s).inbound = s.inbound ∧
    (becomeDark x s).pending = s.pending := by
  unfold becomeDark; (try dsimp only); (repeat' split) <;> simp

@[simp] theorem splice_frame (x : Region) (s : State) :
    (splice x s).now = s.now ∧ (splice x s).start = s.start ∧ (splice x s).settings = s.settings ∧ (splice x s).rings = s.rings ∧
    (splice x s).backlog = s.backlog ∧ (splice x s).irq = s.irq ∧ (splice x s).reqs = s.reqs ∧ (splice x s).bmc = s.bmc ∧
    (splice x s).pool = s.pool ∧ (splice x s).inbound = s.inbound ∧ (splice x s).regions = s.regions ∧ (splice x s).wan = s.wan ∧
    (splice x s).hme = s.hme ∧ (splice x s).pending = s.pending := by
  unfold splice; (try dsimp only); refine ⟨?_, ?_, ?_, ?_, ?_, ?_, ?_, ?_, ?_, ?_, ?_, ?_, ?_, ?_⟩
  · (try split) <;> (first | rfl | (rw [foldl_keeps (·.now) _ (fun t x => by (try dsimp only); (try split) <;> simp)]; try simp))
  · (try split) <;> (first | rfl | (rw [foldl_keeps (·.start) _ (fun t x => by (try dsimp only); (try split) <;> simp)]; try simp))
  · (try split) <;> (first | rfl | (rw [foldl_keeps (·.settings) _ (fun t x => by (try dsimp only); (try split) <;> simp)]; try simp))
  · (try split) <;> (first | rfl | (rw [foldl_keeps (·.rings) _ (fun t x => by (try dsimp only); (try split) <;> simp)]; try simp))
  · (try split) <;> (first | rfl | (rw [foldl_keeps (·.backlog) _ (fun t x => by (try dsimp only); (try split) <;> simp)]; try simp))
  · (try split) <;> (first | rfl | (rw [foldl_keeps (·.irq) _ (fun t x => by (try dsimp only); (try split) <;> simp)]; try simp))
  · (try split) <;> (first | rfl | (rw [foldl_keeps (·.reqs) _ (fun t x => by (try dsimp only); (try split) <;> simp)]; try simp))
  · (try split) <;> (first | rfl | (rw [foldl_keeps (·.bmc) _ (fun t x => by (try dsimp only); (try split) <;> simp)]; try simp))
  · (try split) <;> (first | rfl | (rw [foldl_keeps (·.pool) _ (fun t x => by (try dsimp only); (try split) <;> simp)]; try simp))
  · (try split) <;> (first | rfl | (rw [foldl_keeps (·.inbound) _ (fun t x => by (try dsimp only); (try split) <;> simp)]; try simp))
  · (try split) <;> (first | rfl | (rw [foldl_keeps (·.regions) _ (fun t x => by (try dsimp only); (try split) <;> simp)]; try simp))
  · (try split) <;> (first | rfl | (rw [foldl_keeps (·.wan) _ (fun t x => by (try dsimp only); (try split) <;> simp)]; try simp))
  · (try split) <;> (first | rfl | (rw [foldl_keeps (·.hme) _ (fun t x => by (try dsimp only); (try split) <;> simp)]; try simp))
  · (try split) <;> (first | rfl | (rw [foldl_keeps (·.pending) _ (fun t x => by (try dsimp only); (try split) <;> simp)]; try simp))

@[simp] theorem becomeLive_frame (x : Region) (s : State) :
    (becomeLive x s).now = s.now ∧ (becomeLive x s).start = s.start ∧ (becomeLive x s).settings = s.settings ∧ (becomeLive x s).rings = s.rings ∧
    (becomeLive x s).irq = s.irq ∧ (becomeLive x s).reqs = s.reqs ∧ (becomeLive x s).bmc = s.bmc ∧ (becomeLive x s).pool = s.pool ∧
    (becomeLive x s).inbound = s.inbound ∧ (becomeLive x s).wan = s.wan ∧ (becomeLive x s).hme = s.hme ∧ (becomeLive x s).pending = s.pending := by
  unfold becomeLive; (try dsimp only); (repeat' split) <;> simp

@[simp] theorem heardFrom_frame (x : Region) (s : State) :
    (heardFrom x s).now = s.now ∧ (heardFrom x s).start = s.start ∧ (heardFrom x s).settings = s.settings ∧ (heardFrom x s).rings = s.rings ∧
    (heardFrom x s).irq = s.irq ∧ (heardFrom x s).reqs = s.reqs ∧ (heardFrom x s).bmc = s.bmc ∧ (heardFrom x s).inbound = s.inbound ∧
    (heardFrom x s).wan = s.wan ∧ (heardFrom x s).hme = s.hme ∧ (heardFrom x s).pending = s.pending := by
  unfold heardFrom; exact ⟨handingOn_keeps (·.now) (fun _ _ => rfl) x _ (fun t => by dsimp only; split <;> simp) s, handingOn_keeps (·.start) (fun _ _ => rfl) x _ (fun t => by dsimp only; split <;> simp) s, handingOn_keeps (·.settings) (fun _ _ => rfl) x _ (fun t => by dsimp only; split <;> simp) s, handingOn_keeps (·.rings) (fun _ _ => rfl) x _ (fun t => by dsimp only; split <;> simp) s, handingOn_keeps (·.irq) (fun _ _ => rfl) x _ (fun t => by dsimp only; split <;> simp) s, handingOn_keeps (·.reqs) (fun _ _ => rfl) x _ (fun t => by dsimp only; split <;> simp) s, handingOn_keeps (·.bmc) (fun _ _ => rfl) x _ (fun t => by dsimp only; split <;> simp) s, handingOn_keeps (·.inbound) (fun _ _ => rfl) x _ (fun t => by dsimp only; split <;> simp) s, handingOn_keeps (·.wan) (fun _ _ => rfl) x _ (fun t => by dsimp only; split <;> simp) s, handingOn_keeps (·.hme) (fun _ _ => rfl) x _ (fun t => by dsimp only; split <;> simp) s, handingOn_keeps (·.pending) (fun _ _ => rfl) x _ (fun t => by dsimp only; split <;> simp) s⟩

@[simp] theorem suspend_frame (x : Region) (s : State) :
    (suspend x s).now = s.now ∧ (suspend x s).start = s.start ∧ (suspend x s).settings = s.settings ∧ (suspend x s).rings = s.rings ∧
    (suspend x s).irq = s.irq ∧ (suspend x s).reqs = s.reqs ∧ (suspend x s).bmc = s.bmc ∧ (suspend x s).inbound = s.inbound ∧
    (suspend x s).pending = s.pending := by
  unfold suspend; (try dsimp only); (repeat' split) <;> simp

@[simp] theorem unsuspend_frame (x : Region) (s : State) :
    (unsuspend x s).now = s.now ∧ (unsuspend x s).start = s.start ∧ (unsuspend x s).settings = s.settings ∧ (unsuspend x s).rings = s.rings ∧
    (unsuspend x s).irq = s.irq ∧ (unsuspend x s).reqs = s.reqs ∧ (unsuspend x s).bmc = s.bmc ∧ (unsuspend x s).table = s.table ∧
    (unsuspend x s).sched = s.sched ∧ (unsuspend x s).pool = s.pool ∧ (unsuspend x s).inbound = s.inbound ∧ (unsuspend x s).wan = s.wan ∧
    (unsuspend x s).hme = s.hme ∧ (unsuspend x s).pending = s.pending := by
  unfold unsuspend; (try dsimp only); (repeat' split) <;> simp

@[simp] theorem joinTargets_frame (k : Key) (xs : List Region) (s : State) :
    (joinTargets k xs s).now = s.now ∧ (joinTargets k xs s).start = s.start ∧ (joinTargets k xs s).settings = s.settings ∧
    (joinTargets k xs s).rings = s.rings ∧ (joinTargets k xs s).backlog = s.backlog ∧ (joinTargets k xs s).irq = s.irq ∧
    (joinTargets k xs s).reqs = s.reqs ∧ (joinTargets k xs s).bmc = s.bmc ∧ (joinTargets k xs s).table = s.table ∧
    (joinTargets k xs s).pool = s.pool ∧ (joinTargets k xs s).inbound = s.inbound ∧ (joinTargets k xs s).regions = s.regions ∧
    (joinTargets k xs s).wan = s.wan ∧ (joinTargets k xs s).hme = s.hme ∧ (joinTargets k xs s).pending = s.pending := by
  unfold joinTargets; (try dsimp only); refine ⟨?_, ?_, ?_, ?_, ?_, ?_, ?_, ?_, ?_, ?_, ?_, ?_, ?_, ?_, ?_⟩
  · (try split) <;> (first | rfl | (rw [foldl_keeps (·.now) _ (fun t x => by (try dsimp only); (try split) <;> simp)]; try simp))
  · (try split) <;> (first | rfl | (rw [foldl_keeps (·.start) _ (fun t x => by (try dsimp only); (try split) <;> simp)]; try simp))
  · (try split) <;> (first | rfl | (rw [foldl_keeps (·.settings) _ (fun t x => by (try dsimp only); (try split) <;> simp)]; try simp))
  · (try split) <;> (first | rfl | (rw [foldl_keeps (·.rings) _ (fun t x => by (try dsimp only); (try split) <;> simp)]; try simp))
  · (try split) <;> (first | rfl | (rw [foldl_keeps (·.backlog) _ (fun t x => by (try dsimp only); (try split) <;> simp)]; try simp))
  · (try split) <;> (first | rfl | (rw [foldl_keeps (·.irq) _ (fun t x => by (try dsimp only); (try split) <;> simp)]; try simp))
  · (try split) <;> (first | rfl | (rw [foldl_keeps (·.reqs) _ (fun t x => by (try dsimp only); (try split) <;> simp)]; try simp))
  · (try split) <;> (first | rfl | (rw [foldl_keeps (·.bmc) _ (fun t x => by (try dsimp only); (try split) <;> simp)]; try simp))
  · (try split) <;> (first | rfl | (rw [foldl_keeps (·.table) _ (fun t x => by (try dsimp only); (try split) <;> simp)]; try simp))
  · (try split) <;> (first | rfl | (rw [foldl_keeps (·.pool) _ (fun t x => by (try dsimp only); (try split) <;> simp)]; try simp))
  · (try split) <;> (first | rfl | (rw [foldl_keeps (·.inbound) _ (fun t x => by (try dsimp only); (try split) <;> simp)]; try simp))
  · (try split) <;> (first | rfl | (rw [foldl_keeps (·.regions) _ (fun t x => by (try dsimp only); (try split) <;> simp)]; try simp))
  · (try split) <;> (first | rfl | (rw [foldl_keeps (·.wan) _ (fun t x => by (try dsimp only); (try split) <;> simp)]; try simp))
  · (try split) <;> (first | rfl | (rw [foldl_keeps (·.hme) _ (fun t x => by (try dsimp only); (try split) <;> simp)]; try simp))
  · (try split) <;> (first | rfl | (rw [foldl_keeps (·.pending) _ (fun t x => by (try dsimp only); (try split) <;> simp)]; try simp))

@[simp] theorem withdrawAll_frame (r : Record) (s : State) :
    (withdrawAll r s).now = s.now ∧ (withdrawAll r s).start = s.start ∧ (withdrawAll r s).settings = s.settings ∧ (withdrawAll r s).rings = s.rings ∧
    (withdrawAll r s).backlog = s.backlog ∧ (withdrawAll r s).irq = s.irq ∧ (withdrawAll r s).reqs = s.reqs ∧ (withdrawAll r s).bmc = s.bmc ∧
    (withdrawAll r s).sched = s.sched ∧ (withdrawAll r s).inbound = s.inbound ∧ (withdrawAll r s).regions = s.regions ∧
    (withdrawAll r s).pending = s.pending := by
  unfold withdrawAll; (try dsimp only); refine ⟨?_, ?_, ?_, ?_, ?_, ?_, ?_, ?_, ?_, ?_, ?_, ?_⟩
  · (try split) <;> (first | rfl | (rw [foldl_keeps (·.now) _ (fun t x => by (try dsimp only); (try split) <;> simp)]; try simp))
  · (try split) <;> (first | rfl | (rw [foldl_keeps (·.start) _ (fun t x => by (try dsimp only); (try split) <;> simp)]; try simp))
  · (try split) <;> (first | rfl | (rw [foldl_keeps (·.settings) _ (fun t x => by (try dsimp only); (try split) <;> simp)]; try simp))
  · (try split) <;> (first | rfl | (rw [foldl_keeps (·.rings) _ (fun t x => by (try dsimp only); (try split) <;> simp)]; try simp))
  · (try split) <;> (first | rfl | (rw [foldl_keeps (·.backlog) _ (fun t x => by (try dsimp only); (try split) <;> simp)]; try simp))
  · (try split) <;> (first | rfl | (rw [foldl_keeps (·.irq) _ (fun t x => by (try dsimp only); (try split) <;> simp)]; try simp))
  · (try split) <;> (first | rfl | (rw [foldl_keeps (·.reqs) _ (fun t x => by (try dsimp only); (try split) <;> simp)]; try simp))
  · (try split) <;> (first | rfl | (rw [foldl_keeps (·.bmc) _ (fun t x => by (try dsimp only); (try split) <;> simp)]; try simp))
  · (try split) <;> (first | rfl | (rw [foldl_keeps (·.sched) _ (fun t x => by (try dsimp only); (try split) <;> simp)]; try simp))
  · (try split) <;> (first | rfl | (rw [foldl_keeps (·.inbound) _ (fun t x => by (try dsimp only); (try split) <;> simp)]; try simp))
  · (try split) <;> (first | rfl | (rw [foldl_keeps (·.regions) _ (fun t x => by (try dsimp only); (try split) <;> simp)]; try simp))
  · (try split) <;> (first | rfl | (rw [foldl_keeps (·.pending) _ (fun t x => by (try dsimp only); (try split) <;> simp)]; try simp))

@[simp] theorem cancelInbound_frame (r : Record) (s : State) :
    (cancelInbound r s).now = s.now ∧ (cancelInbound r s).start = s.start ∧ (cancelInbound r s).settings = s.settings ∧
    (cancelInbound r s).rings = s.rings ∧ (cancelInbound r s).irq = s.irq ∧ (cancelInbound r s).reqs = s.reqs ∧ (cancelInbound r s).bmc = s.bmc ∧
    (cancelInbound r s).sched = s.sched ∧ (cancelInbound r s).regions = s.regions ∧ (cancelInbound r s).pending = s.pending := by
  unfold cancelInbound; (try dsimp only); (repeat' split) <;> simp

@[simp] theorem supersedeNotice_frame (r : Record) (v : Version) (ro : Role) (s : State) :
    (supersedeNotice r v ro s).now = s.now ∧ (supersedeNotice r v ro s).start = s.start ∧ (supersedeNotice r v ro s).settings = s.settings ∧
    (supersedeNotice r v ro s).rings = s.rings ∧ (supersedeNotice r v ro s).irq = s.irq ∧ (supersedeNotice r v ro s).reqs = s.reqs ∧
    (supersedeNotice r v ro s).bmc = s.bmc ∧ (supersedeNotice r v ro s).sched = s.sched ∧ (supersedeNotice r v ro s).pool = s.pool ∧
    (supersedeNotice r v ro s).inbound = s.inbound ∧ (supersedeNotice r v ro s).regions = s.regions ∧ (supersedeNotice r v ro s).wan = s.wan ∧
    (supersedeNotice r v ro s).hme = s.hme ∧ (supersedeNotice r v ro s).pending = s.pending := by
  unfold supersedeNotice; (try dsimp only); (repeat' split) <;> simp

@[simp] theorem replyNewerSend_frame (r : Record) (v : Version) (s : State) :
    (replyNewerSend r v s).now = s.now ∧ (replyNewerSend r v s).start = s.start ∧ (replyNewerSend r v s).settings = s.settings ∧
    (replyNewerSend r v s).rings = s.rings ∧ (replyNewerSend r v s).backlog = s.backlog ∧ (replyNewerSend r v s).irq = s.irq ∧
    (replyNewerSend r v s).reqs = s.reqs ∧ (replyNewerSend r v s).bmc = s.bmc ∧ (replyNewerSend r v s).table = s.table ∧
    (replyNewerSend r v s).sched = s.sched ∧ (replyNewerSend r v s).pool = s.pool ∧ (replyNewerSend r v s).inbound = s.inbound ∧
    (replyNewerSend r v s).regions = s.regions ∧ (replyNewerSend r v s).hme = s.hme ∧ (replyNewerSend r v s).pending = s.pending := by
  unfold replyNewerSend; (try dsimp only); (repeat' split) <;> simp

@[simp] theorem supersede_frame (r : Record) (c : Content) (ro : Role) (st : RecState) (xs : List Region) (s : State) :
    (supersede r c ro st xs s).now = s.now ∧ (supersede r c ro st xs s).start = s.start ∧ (supersede r c ro st xs s).settings = s.settings ∧
    (supersede r c ro st xs s).rings = s.rings ∧ (supersede r c ro st xs s).irq = s.irq ∧ (supersede r c ro st xs s).reqs = s.reqs ∧
    (supersede r c ro st xs s).bmc = s.bmc ∧ (supersede r c ro st xs s).regions = s.regions ∧ (supersede r c ro st xs s).pending = s.pending := by
  unfold supersede; (try dsimp only); (repeat' split) <;> simp

end Sys2Proof.Machine
end

