-- ==== Sys2Proof/Laws/Vocabulary.lean ====
section
/-! SUPPORT. What the shared operations do, in the words of the statements: the pressure comparison, a record notice, control frames one after the other, the end of holding, the service of owed notices. -/

namespace Sys2Proof.Machine

/-! ## Pressure (R20, R21) -/

/-- The comparison reports a change by at most one PRESSURE notice, at the Backlog's tail, and leaves the records and lists alone. -/
theorem pressureCheck_compares (s : State) :
    ∃ es, PressureCompared (s.hasRoom 1) es s (pressureCheck s) ∧ (pressureCheck s).backlog.entries = s.backlog.entries ++ es ∧
      (pressureCheck s).table.records = s.table.records ∧ (pressureCheck s).table.linger = s.table.linger ∧
      (pressureCheck s).backlog.owedList = s.backlog.owedList ∧ (pressureCheck s).backlog.reservations = s.backlog.reservations := by
  have reports : ∀ b : Bool, s.table.rising ≠ b → pressureAfter s.table.rising (s.setting 12) s.table.records.length = b →
      ∃ es, PressureCompared (s.hasRoom 1) es s (reportPressure (s.withTable { s.table with rising := b })) ∧
        (reportPressure (s.withTable { s.table with rising := b })).backlog.entries = s.backlog.entries ++ es ∧
        (reportPressure (s.withTable { s.table with rising := b })).table.records = s.table.records ∧
        (reportPressure (s.withTable { s.table with rising := b })).table.linger = s.table.linger ∧
        (reportPressure (s.withTable { s.table with rising := b })).backlog.owedList = s.backlog.owedList ∧
        (reportPressure (s.withTable { s.table with rising := b })).backlog.reservations = s.backlog.reservations := by
    intro b hb ha
    unfold reportPressure
    by_cases hr : s.fits 1 = true
    · rw [if_pos (show (s.withTable { s.table with rising := b }).fits 1 = true from hr)]
      exact ⟨waitingEntries [.notice (.pressure b s.table.records.length) false],
        ⟨ha.symm, fun h => absurd h.symm hb, fun _ => ⟨fun _ => ⟨rfl, rfl, rfl⟩, fun h => absurd hr h⟩⟩, rfl, rfl, rfl, rfl, rfl⟩
    · rw [if_neg (show ¬ (s.withTable { s.table with rising := b }).fits 1 = true from hr)]
      exact ⟨[], ⟨ha.symm, fun h => absurd h.symm hb, fun _ => ⟨fun h => absurd h hr, fun _ => ⟨rfl, rfl, rfl⟩⟩⟩, (List.append_nil _).symm, rfl, rfl, rfl, rfl⟩
  unfold pressureCheck
  dsimp only
  split
  · rename_i h
    have h : s.table.rising = false ∧ s.setting 12 ≤ s.table.records.length := by simpa using h
    exact reports true (by rw [h.1]; decide) (by simp [pressureAfter, h])
  · split
    · rename_i h
      have h : s.table.rising = true ∧ s.table.records.length < s.setting 12 - 8192 := by
        rwa [Bool.and_eq_true, decide_eq_true_eq] at h
      exact reports false (by rw [h.1]; decide) (by rw [pressureAfter, if_pos h.1]; exact decide_eq_false (Nat.not_le.mpr h.2))
    · rename_i h1 h2
      have h1 : s.table.rising = false → s.table.records.length < s.setting 12 := by simpa using h1
      have h2 : s.table.rising = true → s.setting 12 - 8192 ≤ s.table.records.length := fun hr => by
        rw [Bool.and_eq_true, decide_eq_true_eq, not_and] at h2
        exact Nat.not_lt.mp (h2 hr)
      refine ⟨[], ⟨?_, fun _ => ⟨rfl, rfl, rfl, rfl⟩, fun h => absurd rfl h⟩, (List.append_nil _).symm, rfl, rfl, rfl, rfl⟩
      show s.table.rising = pressureAfter s.table.rising (s.setting 12) s.table.records.length
      cases hr : s.table.rising with
      | true => simp only [pressureAfter, if_true]; exact (decide_eq_true (h2 hr)).symm
      | false => simp only [pressureAfter]; exact (decide_eq_false (Nat.not_le.mpr (h1 hr))).symm

/-! ## Record notices (R187) -/

/-- A notice has as many entries as its length says. -/
@[simp] theorem Notice.bodies_length (n : Notice) : n.bodies.length = n.length := by cases n <;> rfl

/-- The record of a key after a change of it that leaves its key alone. -/
theorem find_modRec (k : Key) (f : Record → Record) (s : State) (hf : ∀ r, (f r).key = r.key) :
    (modRec k f s).table.find k = (s.table.find k).map f := by
  show (s.table.records.map _).find? _ = (s.table.records.find? _).map f
  induction s.table.records with
  | nil => rfl
  | cons r rest ih =>
    rw [List.map_cons, List.find?_cons, List.find?_cons]
    by_cases h : (r.key == k) = true
    · simp [h, hf]
    · rw [if_neg h, ih]
      simp only [h]

/-- R187: a notice on a record that stands is placed, or the record is owed with the cancel it tells of. -/
theorem emitRecord_gives (k : Key) (n : Notice) (s : State) (r : Record) (h : s.table.find k = some r) :
    RecordNotices s.hasRoom k [n] [] s (emitRecord k n s) := by
  unfold emitRecord
  by_cases hr : s.fits n.length = true
  · rw [if_pos hr]
    refine ⟨⟨[n], [], rfl, ?_, fun _ => ?_, fun _ => ⟨rfl, ?_⟩, fun _ _ h => by cases h⟩, rfl, rfl, rfl⟩
    · simp [place, waitingEntries, entriesOf]
    · simpa [State.hasRoom, entriesOf] using hr
    · intro q hq
      exact ⟨by simp [State.owedCancel, show s.table.find k = some q from hq], fun r' hr' => by cases hr'.symm.trans hq; rfl⟩
  · rw [if_neg hr, oweRecord, if_pos (by simp [h])]
    refine ⟨⟨[], [n], rfl, ?_, fun h => absurd rfl h, (fun h => by cases h), ?_⟩, rfl, rfl, rfl⟩
    · simp [entriesOf, waitingEntries, modRec]
    · intro m rest hm
      cases hm
      refine ⟨by simpa [State.hasRoom, entriesOf] using hr, rfl, ?_, ?_⟩
      · show (if (s.backlog.owedList.contains k) = true then s.backlog.owedList else s.backlog.owedList ++ [k]) = owedWith k s.backlog.owedList
        simp [owedWith]
      · let owed : Record → Record := fun r => { r with owed := true, owedCancel := if n.cancel.isSome then n.cancel else r.owedCancel }
        have found : (modRec k owed s).table.find k = some (owed r) := by rw [find_modRec k owed s fun _ => rfl, h]; rfl
        refine ⟨owed r, found, rfl, ?_⟩
        simp only [List.foldl_cons, List.foldl_nil, State.owedCancel, h, Option.bind_some]
        cases n <;> rfl

/-! ## Control frames (R162) and the end of holding (R131) -/

/-- One frame presented. -/
theorem sendCtl_sends (x : Region) (b : CtlBody) (s : State) : FramesSent [{ dest := x, body := b }] s (sendCtl x b s) := by
  show (sendCtl x b s).wan.queue = if _ then _ else _
  unfold sendCtl
  by_cases h : (s.region x).state = .suspended ∨ s.wan.carrier = false ∨ 128 ≤ s.wan.queue.length
  · rw [if_pos h, if_pos]
    simp only [Bool.or_eq_true, beq_iff_eq, Bool.not_eq_true', decide_eq_true_eq]
    exact or_assoc.mpr h
  · rw [if_neg h, if_neg]
    · rfl
    · simp only [Bool.or_eq_true, beq_iff_eq, Bool.not_eq_true', decide_eq_true_eq]
      exact fun hh => h (or_assoc.mp hh)

/-- A frame presented behind others. -/
theorem FramesSent.snoc {fs : List CtlFrame} {s t : State} (h : FramesSent fs s t) (hr : t.regions = s.regions) (hc : t.wan.carrier = s.wan.carrier)
    (x : Region) (b : CtlBody) : FramesSent (fs ++ [{ dest := x, body := b }]) s (sendCtl x b t) := by
  have h1 := sendCtl_sends x b t
  unfold FramesSent at h h1 ⊢
  rw [h1, List.foldl_append, ← h]
  simp only [List.foldl_cons, List.foldl_nil, State.region, hr, hc]
  congr 1

/-- Presenting a frame leaves the carrier alone. -/
@[simp] theorem sendCtl_carrier (x : Region) (b : CtlBody) (s : State) : (sendCtl x b s).wan.carrier = s.wan.carrier := by
  unfold sendCtl; split <;> rfl

/-- The same frame presented to one region after the other. -/
theorem foldl_sendCtl_sends (b : CtlBody) (l : List Region) (s : State) :
    FramesSent (l.map fun x => { dest := x, body := b }) s (l.foldl (fun t x => sendCtl x b t) s) := by
  induction l using List.reverseRecOn with
  | nil => rfl
  | append_singleton l x ih =>
    rw [List.map_append, List.foldl_append]
    exact ih.snoc (foldl_keeps (·.regions) _ (fun t y => by simp) l s) (foldl_keeps (·.wan.carrier) _ (fun t y => by simp) l s) x b

/-- R131: the test after a fall of the occupancy ends holding at 16 entries, and presents RESUME to each held region. -/
theorem resumeCheck_resumes (s : State) :
    HoldingFollows s (resumeCheck s) ∧ FramesSent (s.resumesAt s.inbound.fifo.length) s (resumeCheck s) ∧ (resumeCheck s).inbound.fifo = s.inbound.fifo := by
  unfold resumeCheck
  by_cases h : s.inbound.holding = true ∧ s.inbound.fifo.length ≤ 16
  · rw [if_pos (by rw [Bool.and_eq_true, decide_eq_true_eq]; exact h)]
    have hi : ∀ u : State, (s.inbound.heldRegions.foldl (fun t x => sendCtl x .resume t) u).inbound = u.inbound :=
      fun u => foldl_keeps (·.inbound) _ (fun t y => by simp) _ u
    refine ⟨?_, ?_, by rw [hi]; rfl⟩
    · simp only [HoldingFollows, hi]
      exact ⟨fun _ => ⟨rfl, fun x => by simp [vget]⟩, fun hn => absurd h hn⟩
    · rw [State.resumesAt, if_pos h]
      exact foldl_sendCtl_sends .resume s.inbound.heldRegions _
  · rw [if_neg (by rw [Bool.and_eq_true, decide_eq_true_eq]; exact h)]
    refine ⟨⟨fun hh => absurd hh h, fun _ => ⟨rfl, rfl⟩⟩, ?_, rfl⟩
    rw [State.resumesAt, if_neg h]
    rfl

/-! ## Owed notices (R188) -/

@[simp] theorem served_zero (s : State) : served 0 s = some s := rfl

@[simp] theorem served_succ (n : Nat) (s : State) : served (n + 1) s = (serveOne s).bind (served n) := rfl

/-- What the bounded service reaches is reached by serving item after item. -/
theorem serveUpTo_served (n : Nat) (s : State) : ∃ k, served k s = some (serveUpTo n s) := by
  induction n generalizing s with
  | zero => exact ⟨0, rfl⟩
  | succ n ih =>
    unfold serveUpTo
    cases h : serveOne s with
    | none => exact ⟨0, rfl⟩
    | some s' => obtain ⟨k, hk⟩ := ih s'; exact ⟨k + 1, by simp [h, hk]⟩

end Sys2Proof.Machine
end

