-- ==== Sys2Proof/WellFormed.lean ====
section
/-! DEFINITION. Which terms of `Instr` are commands the part can meet: the checks that the operand types leave over. -/

namespace Sys2Proof

/-- A term is well-formed when it is a command its row stands for: a flash image of at most the image's length (R203), a control write with
the position of its row (R201), a restart or fault-clear write with bit 0 set (R201), a reason that no table defines (R202), a segment of 1 to
8,192 bytes (R159), and burst data of at most one burst (R170). -/
def Instr.WellFormed (i : Instr) : Bool :=
  match i with
  | .coldReset => true
  | .imageLoad flash => decide ((flash.getD []).length ≤ Config.imageBytes)
  | .run word => decide (word.getLsbD 0 ∧ ¬ word.getLsbD 1)
  | .functionReset word => decide (word.getLsbD 1)
  | .pcieFunctionReset => true
  | .drainEnd => true
  | .producerIndexWrite _ _ => true
  | .completionConsumerIndexWrite _ => true
  | .restart _ word => decide (word.getLsbD 0)
  | .ringRestartEffect _ => true
  | .triggerLevelWrite _ => true
  | .coalescingTimeWrite _ => true
  | .faultClear word => decide (word.getLsbD 0)
  | .causeRead => true
  | .registerWrite _ _ => true
  | .vectorUnmask => true
  | .carrierLoss => true
  | .carrierReturn => true
  | .ringFetch _ => true
  | .requestTake _ => true
  | .ringFetchFail _ => true
  | .publish _ _ => true
  | .delete _ _ => true
  | .extentTableReadDone _ => true
  | .extentTableReadFail _ => true
  | .tableControllerApply _ => true
  | .lookup _ _ _ => true
  | .lookupBatch _ _ => true
  | .keyTableReadDone _ => true
  | .keyTableReadFail _ => true
  | .resultWriteDone _ => true
  | .resultWriteFail _ => true
  | .accept _ _ => true
  | .landingTableReadDone _ => true
  | .landingTableReadFail _ => true
  | .decline _ _ _ _ _ => true
  | .commit _ _ _ _ => true
  | .reject _ _ _ _ => true
  | .abandon _ _ _ _ => true
  | .retry _ _ _ _ => true
  | .defer _ _ _ => true
  | .settingsSet _ _ _ _ => true
  | .settingsGet _ _ _ => true
  | .regionSet _ _ => true
  | .regionGet _ _ _ => true
  | .bucketLoad _ _ => true
  | .bucketDeny _ _ _ _ => true
  | .bucketFlush _ _ _ _ _ => true
  | .missDeadlineExpiry _ => true
  | .grant => true
  | .replyTimerExpiry _ => true
  | .frameReceive _ _ => true
  | .frameHeard _ => true
  | .offer _ _ => true
  | .replyAccepted _ _ _ _ => true
  | .replyPending _ _ _ => true
  | .replyBusy _ _ _ => true
  | .replyTimeout _ _ _ => true
  | .replyHave _ _ _ => true
  | .replyNewer _ _ _ _ => true
  | .replyLanded _ _ _ => true
  | .replyDeclined _ _ _ => true
  | .replyAborted _ _ _ => true
  | .replyUnknownReason _ _ _ reason => decide (reason = 0 ∨ 9 < reason.toNat)
  | .segmentReadIssue _ => true
  | .segmentReadDone _ _ => true
  | .segmentReadFail _ _ => true
  | .portReady => true
  | .ack _ _ _ _ => true
  | .stallTimerExpiry _ => true
  | .confirmCommitted _ _ _ => true
  | .confirmRejected _ _ _ => true
  | .confirmDeadlineExpiry _ => true
  | .segment _ frame => decide (1 ≤ frame.payload.length ∧ frame.payload.length ≤ Config.segmentBytes)
  | .fifoWriteIssue => true
  | .segmentWriteDone _ => true
  | .segmentWriteFail _ => true
  | .withdraw _ _ _ => true
  | .acceptTimerExpiry _ => true
  | .idleTimerExpiry _ => true
  | .hold _ _ => true
  | .resume _ => true
  | .probe _ => true
  | .echo _ => true
  | .probeTimerExpiry => true
  | .backoffExpiry _ => true
  | .holdExpiry _ => true
  | .paceWindowEnd _ => true
  | .lingerExpiry _ => true
  | .completionEntryHand => true
  | .completionWriteDone _ => true
  | .completionWriteFail _ => true
  | .coalescingTimerExpiry => true
  | .burstIssue => true
  | .burstComplete _ data => decide (data.length ≤ Config.burstBytes)
  | .burstFail _ _ => true
  | .burstTimeout _ => true
  | .vectorMask => true

end Sys2Proof
end

