-- ==== Sys2Proof/Tests/Slice0.lean ====
section
/-! SUPPORT. Tests: the checks of WellFormed, the worked values of the spec, single steps on small states, and for every obligation with hypotheses a state and operands that meet them, clause by clause. -/

set_option Elab.async false

namespace Sys2Proof.Tests

open Sys2Proof Sys2Proof.Machine

/-! ## Small states -/

def key1 : Key := { tenant := 7, bucket := 0x1234, object := 0xA500001000 }
def key2 : Key := { tenant := 7, bucket := 0x1234, object := 0xA500001001 }

def stationOf (i : Nat) : BitVec 48 := BitVec.ofNat 48 (0x020000000001 + i)

def image5 : Image :=
  { n := 5, own := 1, frameType := 0x88B5, stations := Vector.ofFn fun i => stationOf i.val
    settings := #v[2000, 3000, 5, 5000, 10000, 60000, 500, 3, 1000, 20, 30000, 500, 65536, 4]
    pace := Vector.replicate 8 { mode := .off, run := false, sendWindow := 1, quietWindow := 1 } }

def liveEntry (i : Nat) : RegionEntry := { RegionEntry.absent with station := stationOf i, state := .live, lastReported := .live }

/-- A part in RUNNING: five regions, own index 1, the others LIVE, three ACTIVE rings, the carrier up. -/
def up : State :=
  { State.reset with
    now := 1000000
    start := { StartUp.reset with state := .running, image := some image5 }
    settings := image5.settings
    rings := { Rings.reset with
      data := { Ring.reset with base := 4096, size := 64, state := .active }
      mgmt := { Ring.reset with base := 8192, size := 16, state := .active }
      comp := { Ring.reset with base := 12288, size := 128, state := .active } }
    regions :=
      { entry := #v[liveEntry 0, { liveEntry 1 with state := .own }, liveEntry 2, liveEntry 3, liveEntry 4, .absent, .absent, .absent], probe := some 1500000 }
    wan := { Wan.reset with carrier := true } }

/-- The same part with another start-up state. -/
def upAs (st : StartState) : State := up.withStart { up.start with state := st }

def slotAt (st : SlotState) (c : Option CtxNo) : Slot := { state := st, retries := 0, ctx := c, reason := none }

/-- A LOCAL OPEN record of two chunks. -/
def localRec : Record :=
  { key := key1, version := { seq := 5, origin := 1 }, kind := .content, size := 300000, chunks := 2, contentTag := 7, role := .localRole, state := .opened,
    outcome := none, slots := Vector.replicate 8 emptySlot, extents := [{ addr := 0x100000, len := 300000 }], inbound := none, linger := none,
    owed := false, owedCancel := none }

/-- A REMOTE record of region 2, with its bound context. -/
def remoteRec (st : RecState) (c : Option CtxNo) : Record :=
  { localRec with version := { seq := 5, origin := 2 }, role := .remoteRole, state := st, extents := [], inbound := c }

def localWith (st : SlotState) (c : Option CtxNo) : Record := localRec.withSlot 2 (slotAt st c)

def keeping (rs : List Record) (s : State) : State := s.withTable { s.table with records := rs }

/-- An outbound context of the LOCAL record to region 2. -/
def outOf (st : OutState) : OutCtx :=
  { key := key1, version := localRec.version, dest := 2, chunks := 2, state := st, next := 0, acked := 0, readChunk := 0, readSeg := 0,
    bufs := #v[.free, .free], acc := 0, burst := 0, timer := some 900000, order := 0 }

/-- An inbound context of the REMOTE record from region 2. -/
def inOf (st : InState) : InCtx :=
  { key := key1, version := { seq := 5, origin := 2 }, source := 2, kind := .content, size := 300000, chunks := 2, state := st,
    landing := [{ addr := 0x200000, len := 300000 }], expected := 0, received := Vector.replicate 32 none, carried := none, acked := 0,
    timer := some 900000, cancel := none }

/-- The LOCAL record with one context out to region 2. -/
def sending (sl : SlotState) (o : OutCtx) : State := setCtx 0 (.out o) (keeping [localWith sl (some 0)] up)

/-- The REMOTE record with one context in. -/
def receiving (st : RecState) (i : InCtx) : State := setCtx 0 (.inb i) (keeping [remoteRec st (some 0)] up)

def burstAt (n : Nat) (st : BurstState) : Burst := { addr := 0x100000, len := n, bytes := [], state := st }

/-- One operation in the engine, of one burst. -/
def working (use : OpUse) (st : BurstState) (fail : Option (FailKind × Addr)) (s : State) : State :=
  s.withHme { s.hme with ops := [{ id := 4, use := use, bursts := [burstAt 16 st], failure := fail }], nextOp := 5 }

def opOf (use : OpUse) (st : BurstState) (fail : Option (FailKind × Addr)) : Op := { id := 4, use := use, bursts := [burstAt 16 st], failure := fail }

/-- What a command's next state shows; false when there is none. -/
def shows (c : Instr) (s : State) (p : State → Bool) : Bool :=
  match exec c s with
  | .next t => p t
  | _ => false

/-! ## Checks of well-formedness: each refuses an ill-formed term -/

theorem test_ill_formed_image : (Instr.imageLoad (some (List.replicate 209 0))).WellFormed = false ∧
    (Instr.imageLoad (some (List.replicate 208 0))).WellFormed = true := by decide +kernel
theorem test_ill_formed_run : (Instr.run 0).WellFormed = false ∧ (Instr.run 3).WellFormed = false ∧ (Instr.run 1).WellFormed = true := by decide +kernel
theorem test_ill_formed_functionReset : (Instr.functionReset 1).WellFormed = false ∧ (Instr.functionReset 3).WellFormed = true := by decide +kernel
theorem test_ill_formed_restart : (Instr.restart .data 2).WellFormed = false ∧ (Instr.restart .data 1).WellFormed = true := by decide +kernel
theorem test_ill_formed_faultClear : (Instr.faultClear 0).WellFormed = false ∧ (Instr.faultClear 1).WellFormed = true := by decide +kernel
theorem test_ill_formed_reason : (Instr.replyUnknownReason 2 key1 { seq := 5, origin := 1 } 9).WellFormed = false ∧
    (Instr.replyUnknownReason 2 key1 { seq := 5, origin := 1 } 10).WellFormed = true := by decide +kernel
theorem test_ill_formed_segment :
    let g : SegmentFrame := { key := key1, version := { seq := 5, origin := 2 }, chunk := 0, seg := 0, check := 0, presence := 0, chunkCheck := 0, payload := [] }
    (Instr.segment 2 g).WellFormed = false ∧ (Instr.segment 2 { g with payload := [1] }).WellFormed = true ∧
    (Instr.segment 2 { g with payload := List.replicate 8193 0 }).WellFormed = false := by decide +kernel
theorem test_ill_formed_burst : (Instr.burstComplete { op := 0, burst := 0, reissue := false } (List.replicate 4097 0)).WellFormed = false ∧
    (Instr.burstComplete { op := 0, burst := 0, reissue := false } []).WellFormed = true := by decide +kernel

/-! ## Worked values of the spec -/

/-- The check values of the two CRCs (section 12.1). -/
theorem test_check_values : crc32c [0x31, 0x32, 0x33, 0x34, 0x35, 0x36, 0x37, 0x38, 0x39] = 0xE3069283 ∧
    crc32 [0x31, 0x32, 0x33, 0x34, 0x35, 0x36, 0x37, 0x38, 0x39] = 0xCBF43926 := by decide +kernel

/-- The set of the key that section 1.2 works out. -/
theorem test_set_number : setOf key1 = 9392 := by decide +kernel

/-- R203: identification 0 carries the part code; CAUSE is 0 after reset. -/
theorem test_reset_cause : State.reset.cause = 0 ∧ Config.partCode = 0x0840 := by decide +kernel

/-- No row of the table gives bits, so no word spells a command and the queue stays as it was. -/
theorem test_no_table_word (nbits w : Nat) : decodeTableWord nbits w = none ∧ up.withFetchWord nbits w = up := ⟨rfl, rfl⟩

/-! ## States and operands that meet the hypotheses of the obligations, clause by clause -/

theorem test_meets_StepRunsTheFrontCommand : (up.withPending [.causeRead, .grant]).pending = .causeRead :: [.grant] := rfl

theorem test_meets_EmptyQueuePassesTime : State.reset.pending = [] ∧ up.pending = [] := ⟨rfl, rfl⟩

theorem no_cached_entry (i : Fin 32) : vget up.bmc.entries i = none := by revert i; decide +kernel

theorem no_parked_request (n : Fin 4) : vget up.bmc.hold n = none := by revert n; decide +kernel

theorem test_meets_StepKeepsQueuesRegistersAndContextsLegal :
    ControlQueueBounded up ∧ StagingBounded up ∧ InterruptLegal up ∧ NumbersFresh up ∧ LoadsFresh up ∧ ContextsBounded up ∧ step up = .next (tick up) := by
  refine ⟨?_, ?_, ?_, ?_, fun _ h => (List.not_mem_nil h).elim, ?_, rfl⟩
  · exact Nat.zero_le _
  · exact Nat.zero_le _
  · exact ⟨.inl rfl, Nat.zero_le _⟩
  · refine ⟨by decide +kernel, fun n p h => ?_, by decide +kernel, by decide +kernel⟩
    rw [no_parked_request n] at h
    cases h
  · unfold ContextsBounded
    decide +kernel

theorem test_meets_StepKeepsTheBacklogBounded : BacklogBounded up ∧ step up = .next (tick up) := by
  refine ⟨?_, rfl⟩
  unfold BacklogBounded
  decide +kernel

theorem test_meets_StepKeepsTheReplicaTableLegal : TableLegal (keeping [localRec] up) ∧ step (keeping [localRec] up) = .next (tick (keeping [localRec] up)) :=
  ⟨⟨List.pairwise_singleton _ _, fun _ => (List.length_filter_le _ _).trans (by decide +kernel)⟩, rfl⟩

theorem test_meets_StepKeepsRegionStatesLegal : RegionsLegal up ∧ step up = .next (tick up) := by
  refine ⟨?_, rfl⟩
  show ∀ x : Region, if x.val = image5.own.toNat ∧ x.val < image5.n.toNat then (up.region x).state = .own
    else if image5.n.toNat ≤ x.val then (up.region x).state = .absent
    else (up.region x).state = .suspended ∨ (up.region x).state = .dark ∨ (up.region x).state = .live
  decide +kernel

/-- Outside RUNNING; a ring that may not be taken from, at the edge of 48 reservations; a frame of a region that is not admitted. -/
theorem test_meets_CommandsWithoutTheirClaimChangeNothing :
    (actsOutsideRunning .grant = false ∧ (upAs .ready).running = false) ∧
    (let s := up.withBacklog { up.backlog with reservations := 48 }
     requestRing (.lookup .data 0 key1) = some .data ∧ s.takeOk .data = false ∧ (s.withBacklog { s.backlog with reservations := 47 }).takeOk .data = true) ∧
    (frameSource (.probe 5) = some 5 ∧ up.admits 5 = false ∧ up.admits 1 = false ∧ up.admits 4 = true) := by decide +kernel

/-- Every out-of-range field at its edges, and both rings. -/
theorem test_meets_RefusedRequestsOnlyComplete :
    up.takeOk .data = true ∧ up.takeOk .management = true ∧ ((0 : Byte).toNat < 1 ∧ 64 < (65 : Byte).toNat) ∧
    ((0 : Byte).toNat ∉ [1, 2, 3] ∧ (4 : Byte).toNat ∉ [1, 2, 3] ∧ (3 : Byte).toNat ∈ [1, 2, 3]) ∧ ((0 : Byte).toNat ∉ [1, 2] ∧ (3 : Byte).toNat ∉ [1, 2]) ∧
    ((0x4000 : BitVec 16).getLsbD 14 = true ∧ (0x8000 : BitVec 16).getLsbD 15 = true ∧ (0x3FFF : BitVec 16).getLsbD 14 = false ∧
      (0x3FFF : BitVec 16).getLsbD 15 = false) ∧ 13 < (14 : Byte).toNat := by decide +kernel

/-- The fields of an image for `n` regions with own index `own`, every run flag `run`. -/
def flashBody (n own run : Byte) : List Byte :=
  let settings := [1500, 3000, 6, 5000, 10000, 60000, 500, 4, 1000, 200, 30000, 200, 114688, 2]
  [n, own] ++ leBytes 2 0x88B5 ++ ((List.range 8).flatMap fun i => [0x02, 0, 0, 0, 0, BitVec.ofNat 8 (i + 1)]) ++
    settings.flatMap (leBytes 4) ++ (List.range 8).flatMap fun _ => [0, run, 0, 0] ++ leBytes 4 1 ++ leBytes 4 1

/-- The image of those fields, with its check. -/
def flashOf (n own run : Byte) : List Byte := flashBody n own run ++ leBytes 4 (crc32c (flashBody n own run)).toNat

theorem leNat_leBytes (n : Nat) (h : n < 2 ^ 32) : leNat (leBytes 4 n) = n := by
  simp only [leBytes, List.range_succ, List.range_zero, List.nil_append, List.cons_append, List.map_cons, List.map_nil, leNat, BitVec.toNat_ofNat,
    Nat.shiftRight_eq_div_pow]
  omega

theorem flash_take (n own run : Byte) (c : BitVec 32) : (flashBody n own run ++ leBytes 4 c.toNat).take 204 = flashBody n own run := by
  have h : (flashBody n own run).length = 204 := rfl
  rw [← h, List.take_left]

theorem flash_stored (n own run : Byte) (c : BitVec 32) : BitVec.ofNat 32 (leAt (flashBody n own run ++ leBytes 4 c.toNat) 204 4) = c := by
  have h : (flashBody n own run).length = 204 := rfl
  have hf : byteField (flashBody n own run ++ leBytes 4 c.toNat) 204 4 = leBytes 4 c.toNat := by simp [byteField, leBytes, List.range_succ, h]
  rw [leAt, hf, leNat_leBytes _ c.isLt]
  simp

theorem flash_check (n own run : Byte) : crc32c ((flashOf n own run).take 204) = BitVec.ofNat 32 (leAt (flashOf n own run) 204 4) := by
  rw [flashOf, flash_take, flash_stored]

/-- The same fields with a wrong check. -/
def flashSpoilt : List Byte := flashBody 5 1 0 ++ leBytes 4 (crc32c (flashBody 5 1 0) ^^^ 1).toNat

theorem flash_spoilt : ¬ crc32c (flashSpoilt.take 204) = BitVec.ofNat 32 (leAt flashSpoilt 204 4) := by
  rw [flashSpoilt, flash_take, flash_stored]
  intro h
  have h' := congrArg (crc32c (flashBody 5 1 0) ^^^ ·) h
  simp only [BitVec.xor_self, ← BitVec.xor_assoc, BitVec.zero_xor] at h'
  exact absurd h' (by decide)

theorem flash_good (run : Byte) (h : run = 0 ∨ run = 1) : ImageGood (flashOf 5 1 run) := by
  have hs : ∀ r ∈ [(0 : Byte), 1], let bs := flashOf 5 1 r
      208 ≤ bs.length ∧ (2 ≤ (byteAt bs 0).toNat ∧ (byteAt bs 0).toNat ≤ 8 ∧ (byteAt bs 1).toNat < (byteAt bs 0).toNat ∧ 0x0600 ≤ leAt bs 2 2) ∧
      (∀ i, i < 5 → (byteAt bs (4 + 6 * i)).getLsbD 0 = false) ∧
      (∀ i, i < 5 → ∀ j, j < 5 → i ≠ j → byteField bs (4 + 6 * i) 6 ≠ byteField bs (4 + 6 * j) 6) ∧
      (∀ i : Fin 14, (vget Config.settingRange i).1 ≤ leAt bs (52 + 4 * i.val) 4 ∧ leAt bs (52 + 4 * i.val) 4 ≤ (vget Config.settingRange i).2) ∧
      ∀ i, i < 5 → (byteAt bs (108 + 12 * i)).toNat ≤ 2 ∧ 1 ≤ leAt bs (112 + 12 * i) 4 ∧ leAt bs (112 + 12 * i) 4 ≤ 86400 ∧
        1 ≤ leAt bs (116 + 12 * i) 4 ∧ leAt bs (116 + 12 * i) 4 ≤ 86400 := by decide +kernel
  obtain ⟨hl, ⟨h2, h8, ho, hf⟩, hg, hd, hr, hp⟩ := hs run (by rcases h with rfl | rfl <;> decide)
  exact ⟨hl, flash_check 5 1 run, h2, h8, ho, hf, hg, fun i j hi hj => hd i hi j hj, hr, hp⟩

/-- A part not in LOADING; in LOADING no image, a short one, one with a wrong check, N of 1 and of 9, an own index of N, and a good image with every run flag 0 and with
every one 1, with the indices 0 and 4 below N and 5 and 7 not. -/
theorem test_meets_ColdResetAndImageLoad :
    up.start.state ≠ .loading ∧ State.reset.start.state = .loading ∧ (ImageGood (flashOf 5 1 0) ∧ ImageGood (flashOf 5 1 1)) ∧ (∀ bs, some [] = some bs → ¬ ImageGood bs) ∧
    (∀ run ∈ [(0 : Byte), 1], let bs := flashOf 5 1 run
     (4 : Region).val < (byteAt bs 0).toNat ∧ (byteAt bs 0).toNat ≤ (5 : Region).val ∧ byteAt bs (109 + 12 * 0) = run ∧ byteAt bs (109 + 12 * 4) = run) ∧
    ((flashOf 5 1 0).take 207).length < 208 ∧
    (208 ≤ flashSpoilt.length ∧ ¬ crc32c (flashSpoilt.take 204) = BitVec.ofNat 32 (leAt flashSpoilt 204 4)) ∧
    (∀ n own run : Byte, 208 ≤ (flashOf n own run).length ∧ crc32c ((flashOf n own run).take 204) = BitVec.ofNat 32 (leAt (flashOf n own run) 204 4)) ∧
    (byteAt (flashOf 1 0 0) 0).toNat < 2 ∧ 8 < (byteAt (flashOf 9 0 0) 0).toNat ∧
    (2 ≤ (byteAt (flashOf 8 8 0) 0).toNat ∧ (byteAt (flashOf 8 8 0) 0).toNat ≤ 8 ∧ byteAt (flashOf 8 8 0) 0 ≤ byteAt (flashOf 8 8 0) 1) := by
  refine ⟨by decide +kernel, by decide +kernel, ⟨flash_good 0 (.inl rfl), flash_good 1 (.inr rfl)⟩, fun bs h => ?_, by decide +kernel, by decide +kernel, ?_,
    fun n own run => ⟨Nat.le_refl 208, flash_check n own run⟩, by decide +kernel, by decide +kernel, by decide +kernel⟩
  · cases h
    exact fun h => absurd h.1 (by decide +kernel)
  · exact ⟨Nat.le_refl 208, flash_spoilt⟩

/-- READY with every ring good; with the Data Ring of a size that is no power of two; with the Completion Ring alone at a base that is no multiple of 64. -/
theorem test_meets_RunStartsTheRingsOrRecordsAFault :
    ((1 : Word).getLsbD 0 = true ∧ (1 : Word).getLsbD 1 = false) ∧ up.start.state ≠ .ready ∧ (upAs .ready).start.state = .ready ∧
    (let s := upAs .ready
     ∀ n ∈ [RingName.data, .management, .completion], (∃ e, e < 17 ∧ (s.rings.get n).size.toNat = 2 ^ e) ∧ (sizeRange n).1 ≤ (s.rings.get n).size.toNat ∧
       (s.rings.get n).size.toNat ≤ (sizeRange n).2 ∧ (s.rings.get n).base.toNat % 64 = 0) ∧
    (let s := (upAs .ready).withRings { up.rings with data := { up.rings.data with size := 96 } }
     (∀ e, e < 17 → (s.rings.get .data).size.toNat ≠ 2 ^ e) ∧ [RingName.data, .management, .completion].takeWhile (· != .data) = []) ∧
    (let s := (upAs .ready).withRings { up.rings with comp := { up.rings.comp with base := 32 } }
     (s.rings.get .completion).base.toNat % 64 ≠ 0 ∧ [RingName.data, .management, .completion].takeWhile (· != .completion) = [.data, .management]) := by decide +kernel

/-- LOADING and READY; RESETTING with a burst out, and drained with an image; the indices 4 below N and 5 from N on. -/
theorem test_meets_FunctionResetDrainsAndReturnsToReady :
    (2 : Word).getLsbD 1 = true ∧ State.reset.start.state ∉ [StartState.ready, .running] ∧ (upAs .ready).start.state ∈ [StartState.ready, .running] ∧
    up.start.state ∈ [StartState.ready, .running] ∧
    (let s := working .completion (.issued false 5) none (upAs .resetting)
     s.start.state = .resetting ∧ ∃ op ∈ s.hme.ops, ∃ b ∈ op.bursts, b.state = .issued false 5) ∧
    (let s := working .completion (.done []) none (upAs .resetting)
     s.start.state = .resetting ∧ (∀ op ∈ s.hme.ops, ∀ b ∈ op.bursts, b.state = .done []) ∧ s.start.image = some image5) ∧
    ((4 : Region).val < image5.n.toNat ∧ image5.n.toNat ≤ (5 : Region).val) := by decide +kernel

/-- A ring that is not ACTIVE; the edges 63 and 64 of a producer index; the edges of a completion consumer index with the producer index at 3. -/
theorem test_meets_IndexWrites :
    (upAs .ready).running = false ∧ (up.running = true ∧ (up.rings.get .data).state = .active ∧ (63 : Word).toNat < (up.rings.get .data).size.toNat) ∧
    (up.rings.get .data).size.toNat ≤ (64 : Word).toNat ∧ (State.reset.rings.comp.state ≠ .active ∧ (upAs .resetting).start.state ∈ [StartState.loading, .resetting]) ∧
    (let r := { up.rings.comp with prod := 3 }
     r.state = .active ∧ ((3 : Word).toNat < r.size.toNat ∧ (3 + r.size.toNat - r.cons) % r.size.toNat ≤ (r.prod + r.size.toNat - r.cons) % r.size.toNat) ∧
     ¬ (4 + r.size.toNat - r.cons) % r.size.toNat ≤ (r.prod + r.size.toNat - r.cons) % r.size.toNat ∧ ¬ (128 : Word).toNat < r.size.toNat) := by decide +kernel

def faulted (n : RingName) (restart : Bool) (base : Addr) : State :=
  modRing n (fun r => { r with state := .faulted, reason := some .fetchError, restart := restart, base := base }) up

/-- An ACTIVE and a FAULTED ring; a restart due with a good base, for a request ring and the Completion Ring, and with a bad one; not due while its client works. -/
theorem test_meets_RestartTakesEffectWhenTheClientIsIdle :
    (1 : Word).getLsbD 0 = true ∧ (up.rings.get .data).state ≠ .faulted ∧ ((faulted .data false 64).running = true ∧ ((faulted .data false 64).rings.get .data).state = .faulted) ∧
    (∀ n ∈ [RingName.data, .completion], let s := faulted n true 64
     s.running = true ∧ (s.rings.get n).state = .faulted ∧ (s.rings.get n).restart = true ∧ (∀ op ∈ s.hme.ops, op.use.client ≠ ringClient n) ∧
     sizeOk n (s.rings.get n).size = true ∧ (s.rings.get n).base.toNat % 64 = 0) ∧
    ((faulted .data true 65).rings.get .data).base.toNat % 64 ≠ 0 ∧
    (let s := working (.fetch .data) .unissued none (faulted .data true 64)
     ∃ op ∈ s.hme.ops, op.use.client = ringClient .data) := by decide +kernel

/-- A register write that is and is not heard; levels 64 and 2, times 1,000 and 1,001; the count below and at the level; a latch set and clear; a held message. -/
theorem test_meets_InterruptControls :
    State.reset.writable = false ∧ up.writable = true ∧ (64 : Word).toNat ∈ [1, 4, 16, 64] ∧ (2 : Word).toNat ∉ [1, 4, 16, 64] ∧
    (up.irq.unsignalled < (64 : Word).toNat ∧ ((64 : Word).toNat ≤ (up.withIrq { up.irq with unsignalled := 64 }).irq.unsignalled ∧ up.mayRaise = true)) ∧
    ((1000 : Word).toNat ≤ 1000 ∧ 1000 < (1001 : Word).toNat) ∧ (1 : Word).getLsbD 0 = true ∧ State.reset.start.state = .loading ∧ up.start.state ≠ .loading ∧
    ((working .completion .failed none up).hme.latch = none ∧ up.irq.held = false) ∧ (up.withIrq { up.irq with held := true }).irq.held = true := by decide +kernel

/-- A second failure of the write client has been latched. -/
def latched : State := up.withHme { up.hme with latch := some { client := 3, kind := .timeout, addr := 0x123456789A, multiple := true } }

/-- The three ring groups, closed in RUNNING while ACTIVE and open in READY and while FAULTED; an offset that names no register. Reads in LOADING and outside it, with an image and
without, with a start fault and without, with the latch set and clear, at the first and the last index of the window. -/
theorem test_meets_RegisterWritesActAtTheirOffsets :
    (RingName.completion, 24) ∈ [(RingName.data, 8), (.management, 16), (.completion, 24)] ∧
    ¬ (up.start.state ∈ [StartState.loadFailed, .ready] ∨ (up.running = true ∧ (up.rings.get .completion).state = .faulted)) ∧
    (upAs .ready).start.state ∈ [StartState.loadFailed, .ready] ∧ ((faulted .completion false 0).running = true ∧ ((faulted .completion false 0).rings.get .completion).state = .faulted) ∧
    (1023 : BitVec 10).toNat ∉ [4, 8, 9, 10, 11, 14, 16, 17, 18, 19, 22, 24, 25, 26, 28, 30, 33, 34, 40] ∧
    (State.reset.start.state = .loading ∧ State.reset.start.image = none ∧ State.reset.start.startFault = none ∧ 4 ≤ 1023 ∧ 1023 < 1024) ∧
    (up.start.state ≠ .loading ∧ up.start.image = some image5 ∧ up.hme.latch = none ∧
      ∀ n ∈ [RingName.data, .management, .completion], (up.rings.get n).prod < 2 ^ 32 ∧ (up.rings.get n).cons < 2 ^ 32) ∧
    (up.withStart { up.start with startFault := some (.completion, .badSize) }).start.startFault = some (.completion, .badSize) ∧
    (latched.start.state ≠ .loading ∧ latched.hme.latch.isSome = true) ∧
    (∀ n ∈ [5, 7, 15, 23, 31, 35, 37, 41, 1023],
      n < 1024 ∧ n ∉ [0, 1, 2, 3, 4, 8, 9, 10, 11, 12, 13, 14, 16, 17, 18, 19, 20, 21, 22, 24, 25, 26, 27, 28, 29, 30, 32, 33, 34, 36, 38, 39, 40]) := by decide +kernel

def offered (n : RingName) : State := modRing n (fun r => { r with prod := 1 }) up

/-- The fetch conditions met on both rings and not met on an empty ring; a failed fetch and a failed completion write, with the ring ACTIVE and FAULTED. -/
theorem test_meets_RingFetchesReadTheNextEntryAndFailuresFaultTheRing :
    (∀ ring ∈ [ReqRing.data, .management], let s := offered (ringName ring)
     let r := s.rings.get (ringName ring)
     s.running = true ∧ r.state = .active ∧ 0 < (r.prod + r.size.toNat - r.cons) % r.size.toNat ∧ (∀ op ∈ s.hme.ops, op.use ≠ .fetch ring) ∧
     s.backlog.entries.length + s.backlog.reservations < 64 ∧ s.backlog.reservations < 48 ∧ s.backlog.owedPressure = false ∧ (∀ x, (s.region x).owed = false) ∧
     s.bmc.hold = up.bmc.hold ∧ s.backlog.owedList = [] ∧ (∃ n, vget s.bmc.hold n = none) ∧ r.base.toNat % 64 = 0) ∧
    ¬ 0 < ((up.rings.get .data).prod + 64 - (up.rings.get .data).cons) % 64 ∧
    (let op := opOf (.fetch .data) .failed (some (.abort, 5))
     (working (.fetch .data) .failed (some (.abort, 5)) up).hme.find (.fetch .data) Op.failed = some op ∧
     (working (.fetch .data) .failed (some (.abort, 5)) (faulted .data false 0)).hme.find (.fetch .data) Op.failed = some op ∧
     ((faulted .data false 0).rings.get .data).state = .faulted ∧ (up.rings.get .data).state ≠ .faulted) ∧
    (∃ op ∈ (working .completion .failed (some (.abort, 5)) up).hme.ops, op.id = 4 ∧ op.use = .completion ∧ op.failed = true) := by decide +kernel

/-- A fetched LOOKUP and an entry of an unknown kind, the conditions holding; the conditions gone; no fetch. -/
theorem test_meets_RequestTakeRunsTheCommandOfTheEntry :
    up.hme.find (.fetch .data) Op.succeeded = none ∧
    (let entry := (0x03 : Byte) :: List.replicate 63 0
     let s := working (.fetch .data) (.done entry) none (offered .data)
     s.hme.find (.fetch .data) Op.succeeded = some (opOf (.fetch .data) (.done entry) none) ∧ s.running = true ∧
     commandOfEntry .data entry = some (.lookup .data 0 { tenant := 0, bucket := 0, object := 0 }) ∧
     commandOfEntry .data ((0xFF : Byte) :: List.replicate 63 0) = none ∧ (s.withHme up.hme).takeOk .data = true) ∧
    (working (.fetch .data) (.done []) none (faulted .data false 0)).running = true := by decide +kernel

def aBody : EntryBody := .completion { ring := .data, tag := 1, kind := 3, status := .notTracked, body := .plain }

def backlogOf (es : List BacklogEntry) (s : State) : State := s.withBacklog { s.backlog with entries := es }

/-- An entry waits behind one being written; none waits; the ring full at 127 entries; a completed write that empties the head, with a notice owed
and with none; a running coalescing timer. -/
theorem test_meets_CompletionEntriesAreWrittenInOrderAndSignalled :
    (let s := backlogOf [{ body := aBody, write := .writing 4 }, { body := aBody, write := .waiting }] up
     s.running = true ∧ s.rings.comp.state = .active ∧ (s.rings.writePos + s.rings.comp.size.toNat - s.rings.comp.cons) % s.rings.comp.size.toNat + 1 < s.rings.comp.size.toNat ∧
     s.backlog.entries = [{ body := aBody, write := .writing 4 }] ++ { body := aBody, write := .waiting } :: [] ∧
     (∀ e ∈ [({ body := aBody, write := .writing 4 } : BacklogEntry)], e.write ≠ .waiting) ∧ s.rings.writePos + 1 < s.rings.comp.size.toNat) ∧
    (∀ e ∈ up.backlog.entries, e.write ≠ .waiting) ∧
    (let s := up.withRings { up.rings with writePos := 127 }
     ¬ (s.rings.writePos + s.rings.comp.size.toNat - s.rings.comp.cons) % s.rings.comp.size.toNat + 1 < s.rings.comp.size.toNat ∧
     s.rings.comp.size.toNat ≤ s.rings.writePos + 1) ∧
    (let s := working .completion (.done []) none (backlogOf [{ body := aBody, write := .writing 4 }, { body := aBody, write := .waiting }] up)
     s.running = true ∧ (∃ op ∈ s.hme.ops, op.id = 4 ∧ op.use = .completion ∧ op.succeeded = true) ∧
     0 < ((s.backlog.entries.map fun e => if e.write = .writing 4 then { e with write := .written } else e).takeWhile fun e => e.write == .written).length ∧
     s.irq.trigger.toNat ≤ s.irq.unsignalled + 1 ∧ s.irq.unsignalled + 1 < (s.withIrq { s.irq with trigger := 4 }).irq.trigger.toNat ∧
     s.anyOwed = false ∧ (let o := modRegion 2 (fun e => { e with owed := true }) s; o.anyOwed = true ∧ serveOne o ≠ none)) ∧
    ((up.withIrq { up.irq with timer := some 1000000 }).irq.timer = some 1000000 ∧ 1000000 ≤ up.now ∧ up.now < 1000001) := by decide +kernel

def owing (b : Backlog → Backlog) (s : State) : State := s.withBacklog (b s.backlog)

/-- A parked PUBLISH of three bytes. -/
def parkedReq (owed : Bool) (x : ExtentStage) : Parked :=
  { pub := { id := 9, ring := .data, tag := 1, kind := .content, key := key1, seq := 6, contentTag := 7, size := 3, extents := x, stage := .parked },
    order := 0, deadline := 900000, owed := owed }

def parkedAt (n : Fin 4) (owed : Bool) (x : ExtentStage) (s : State) : State := s.withBmc { s.bmc with hold := vset s.bmc.hold n (some (parkedReq owed x)) }

def fullBacklog : State := owing (fun b => { b with reservations := 48, entries := List.replicate 16 { body := aBody, write := .waiting } }) up

/-- Each kind of owed item first in the order, with a place free and with none; a record last on the Owed List with room for PRESSURE behind its notice, and without; a pressure flag whose state
has been reported; and nothing owed. -/
theorem test_meets_NoticesAreServedInOrder :
    (let s := (owing (fun b => { b with owedPressure := true }) up).withTable { up.table with rising := true }
     s.backlog.owedPressure = true ∧ s.table.rising ≠ s.table.lastReported ∧ 0 < s.backlog.free) ∧
    (let s := owing (fun b => { b with owedPressure := true }) up
     s.backlog.owedPressure = true ∧ s.table.rising = s.table.lastReported) ∧
    (let s := (owing (fun b => { b with owedPressure := true }) fullBacklog).withTable { up.table with rising := true }
     s.backlog.owedPressure = true ∧ s.table.rising ≠ s.table.lastReported ∧ s.backlog.free = 0) ∧
    (let s := modRegion 2 (fun e => { e with owed := true }) up
     s.backlog.owedPressure = false ∧ (s.region 2).owed = true ∧ (∀ y, y < 2 → (s.region y).owed = false) ∧ 0 < s.backlog.free) ∧
    fullBacklog.backlog.free = 0 ∧
    (let s := parkedAt 1 true .reading up
     (∀ x, (s.region x).owed = false) ∧ (vget s.bmc.hold 1).map (·.owed) = some true ∧ vget s.bmc.hold 0 = none ∧ 0 < s.backlog.free) ∧
    (let s := keeping [localRec] (owing (fun b => { b with owedList := [key1] }) up)
     s.backlog.owedList = key1 :: [] ∧ s.table.find key1 = some localRec ∧ 2 + 1 ≤ s.backlog.free ∧ localRec.owedCancel = none ∧
     (owing (fun b => { b with reservations := 46 }) fullBacklog).backlog.free = 2) ∧
    up.anyOwed = false := by decide +kernel

/-- The pressure mark at its edges, with as many records; the last fitting place and the one behind it. -/
theorem test_meets_pressure :
    (keeping (List.replicate 8192 localRec) up).table.records.length = 8192 ∧ pressureAfter false 8192 8192 = true ∧ pressureAfter false 8192 8191 = false ∧
    pressureAfter true 16384 8192 = true ∧ pressureAfter true 16385 8192 = false ∧ pressureAfter true 8192 0 = true ∧
    (up.hasRoom 48 ∧ up.hasRoom 64 ∧ ¬ up.hasRoom 65 ∧ ¬ fullBacklog.hasRoom 1) ∧ (up.roomOnceTaken 63 ∧ ¬ up.roomOnceTaken 64) := by
  unfold State.hasRoom State.roomOnceTaken
  exact ⟨List.length_replicate, by decide +kernel⟩

/-- A SETTLED record that is due and held by no context, one that is owed, one whose deadline is to come, and one whose key a context holds. -/
theorem test_meets_retires :
    let r : Record := { localRec with state := .settled, outcome := some .converged, linger := some 1000000 }
    Retires True r up up ∧ ¬ Retires True { r with owed := true } up up ∧ ¬ Retires True { r with linger := some 1000001 } up up ∧
    ¬ Retires True r up (sending .sending (outOf .sending)) ∧ ¬ Retires False r up up := by
  refine ⟨⟨trivial, rfl, ⟨1000000, rfl, by decide⟩, rfl, by decide +kernel⟩, ?_, ?_, ?_, ?_⟩
  · rintro ⟨_, _, _, h, _⟩
    cases h
  · rintro ⟨_, _, ⟨d, h, hd⟩, _⟩
    cases h
    exact absurd hd (by decide)
  · rintro ⟨_, _, _, _, h⟩
    exact h 0 (by decide +kernel)
  · exact fun h => h.1

/-- An owed IN_CANCELLED keeps its version and reason, and another notice the cancel that was owed. -/
theorem test_meets_cancelOwed :
    cancelOwed none (.inCancelled key1 { seq := 5, origin := 2 } .idle) = some ({ seq := 5, origin := 2 }, .idle) ∧
    cancelOwed (some ({ seq := 5, origin := 2 }, .idle)) (.landed key1 { seq := 6, origin := 2 } .content 3) = some ({ seq := 5, origin := 2 }, .idle) := ⟨rfl, rfl⟩

/-- A key with and without a record, on either ring. -/
theorem test_meets_LookupAnswersFromTheRecord :
    up.takeOk .data = true ∧ up.takeOk .management = true ∧ up.table.find key1 = none ∧ (keeping [localRec] up).table.find key1 = some localRec ∧
    (keeping [localRec] up).takeOk .data = true := by decide +kernel

def batchAt (keys : List Key) (done : Nat) : Batch :=
  { id := 3, ring := .data, req := { tag := 1, count := 2, keyTable := 4096, resultTable := 8192 }, keys := keys, done := done }

def batching (keys : List Key) (done : Nat) (s : State) : State := s.withReqs { s.reqs with batches := [batchAt keys done] }

def keyTable : List Byte := leBytes 8 0xA500001000 ++ leBytes 4 0x1234 ++ leBytes 4 7 ++ List.replicate 16 0

/-- Counts 1 and 64; a key table read, done and failed; a result write that is not the last, one that is, and a failed one. -/
theorem test_meets_BatchLooksUpInTableOrder :
    (up.takeOk .data = true ∧ 1 ≤ (1 : Byte).toNat ∧ (64 : Byte).toNat ≤ 64) ∧
    (let s := working (.keys 3) (.done keyTable) none (batching [] 0 up)
     s.running = true ∧ s.batch 3 = some (batchAt [] 0) ∧ s.hme.find (.keys 3) Op.succeeded = some (opOf (.keys 3) (.done keyTable) none) ∧
     ((keysOf 2 (opOf (.keys 3) (.done keyTable) none).data)[0]?).isSome = true) ∧
    (let s := working (.keys 3) .failed (some (.abort, 5)) (batching [] 0 up)
     s.batch 3 = some (batchAt [] 0) ∧ s.hme.find (.keys 3) Op.failed = some (opOf (.keys 3) .failed (some (.abort, 5)))) ∧
    (let s := working (.result 3) (.done []) none (batching [key1, key2] 0 up)
     s.hme.find (.result 3) Op.succeeded = some (opOf (.result 3) (.done []) none) ∧ s.batch 3 = some (batchAt [key1, key2] 0) ∧
     0 + 1 < (2 : Byte).toNat ∧ [key1, key2][1]? = some key2) ∧
    (let s := working (.result 3) (.done []) none (batching [key1, key2] 1 up)
     s.batch 3 = some (batchAt [key1, key2] 1) ∧ (2 : Byte).toNat ≤ 1 + 1) ∧
    (let s := working (.result 3) .failed (some (.abort, 5)) (batching [key1, key2] 1 up)
     s.hme.find (.result 3) Op.failed = some (opOf (.result 3) .failed (some (.abort, 5)))) := by decide +kernel

/-- The pressure mark selected, at an edge of its range and just below it; the same values with nothing wrong. -/
theorem test_meets_SettingsSetTakesTheSelectedValues :
    up.takeOk .management = true ∧ (0x1000 : BitVec 16).getLsbD 14 = false ∧ (0x1000 : BitVec 16).getLsbD 15 = false ∧
    (let v : Vector Word 14 := vset up.settings 12 8191
     (0x1000 : BitVec 16).getLsbD 12 = true ∧ ¬ (vget Config.settingRange 12).1 ≤ (vget v 12).toNat ∧ ∀ j : Fin 14, j < 12 → (0x1000 : BitVec 16).getLsbD j.val = false) ∧
    (let v : Vector Word 14 := vset up.settings 12 8192
     ∀ i : Fin 14, (0x1000 : BitVec 16).getLsbD i.val = true →
       (vget Config.settingRange i).1 ≤ (vget v i).toNat ∧ (vget v i).toNat ≤ (vget Config.settingRange i).2) := by decide +kernel

/-- Both rings; the first numbers 0, 9, 10 and 13. -/
theorem test_meets_SettingsGetReadsUpToFive :
    up.takeOk .data = true ∧ up.takeOk .management = true ∧ (0 : Byte).toNat ≤ 13 ∧ (9 : Byte).toNat ≤ 9 ∧ ¬ (10 : Byte).toNat ≤ 9 ∧ (13 : Byte).toNat ≤ 13 := by
  decide +kernel

def aPlacement : Placement := { template := 0b111, home := 1, allowFirst := 0, allowLast := 4, maxSize := 4096, readOnly := false }

def cached (pl : Placement) (s : State) : State :=
  s.withBmc { s.bmc with entries := vset s.bmc.entries 5 (some { tenant := 7, bucket := 0x1234, isGlobal := false, placement := pl }) }

def filledCache : State := up.withBmc { up.bmc with
  entries := Vector.ofFn fun i => some { tenant := 9, bucket := BitVec.ofNat 32 i.val, isGlobal := false, placement := aPlacement } }

/-- A home region of N and a size of 0 and of 67,108,865 are refused; a load that hits, one with a free position, one with every position taken, and one that a
single parked request waits for, taken as the list of the parked ones. -/
theorem test_meets_BucketLoadInstallsAndResumes :
    (LoadsFresh up ∧ LoadsFresh filledCache ∧ LoadsFresh (parkedAt 2 false (.good []) up)) ∧
    (let s := parkedAt 2 false (.good []) up
     ∃ ps : List (Fin 4 × Parked), ps.length = 1 ∧ (ps.Pairwise fun a b => a.2.order < b.2.order) ∧
       ((s.reqs.pubs ++ ps.map fun x : Fin 4 × Parked => { x.2.pub with stage := .placed aPlacement (some s.reqs.nextLoad) }).map fun p : Pub => p.id).Nodup ∧
       ∀ m p, (m, p) ∈ ps ↔ vget s.bmc.hold m = some p ∧ ∃ q, vget s.bmc.hold m = some q ∧ q.pub.key.tenant = 7 ∧ q.pub.key.bucket = 0x1234) ∧
    (up.takeOk .management = true ∧ filledCache.takeOk .management = true ∧ up.regionCount = 5) ∧
    (¬ (5 : Byte).toNat < up.regionCount ∧ (4 : Byte).toNat < up.regionCount ∧ (∀ p, p < 8 → (0b11111 : Byte).getLsbD p = true → p < up.regionCount)) ∧
    (¬ 1 ≤ (0 : BitVec 32).toNat ∧ ¬ (67108865 : BitVec 32).toNat ≤ 67108864 ∧ 1 ≤ (67108864 : BitVec 32).toNat ∧ (67108864 : BitVec 32).toNat ≤ 67108864) ∧
    (let s := cached aPlacement up
     (vget s.bmc.entries 5).map (fun e => (e.tenant, e.bucket)) = some (7, 0x1234) ∧ ∀ j, j < 5 → vget s.bmc.entries j = none) ∧
    (vget up.bmc.entries 0 = none ∧ ∀ i, vget filledCache.bmc.entries i ≠ none) ∧
    (let s := parkedAt 2 false (.good []) up
     (vget s.bmc.hold 2).map (fun p => (p.pub.key, p.pub.extents, p.pub.size)) = some (key1, .good [], 3) ∧ (∀ l, l ≠ 2 → vget s.bmc.hold l = none) ∧
     s.reqs.pubs = []) := by
  have none_waits : ∀ s : State, s.reqs.pubs = [] → LoadsFresh s := fun s h p hp => by
    rw [h] at hp
    exact (List.not_mem_nil hp).elim
  refine ⟨⟨none_waits _ rfl, none_waits _ rfl, none_waits _ rfl⟩, ⟨[(2, parkedReq false (.good []))], rfl, List.pairwise_singleton _ _, by decide +kernel, fun m p => ?_⟩,
    by decide +kernel, by decide +kernel, by decide +kernel, by decide +kernel, by decide +kernel, by decide +kernel⟩
  have only : ∀ m, vget (parkedAt 2 false (.good []) up).bmc.hold m = if m = 2 then some (parkedReq false (.good [])) else none := by decide +kernel
  simp only [only m]
  refine ⟨fun h => ?_, fun h => ?_⟩
  · cases List.mem_singleton.mp h
    exact ⟨rfl, parkedReq false (.good []), rfl, rfl, rfl⟩
  · split at h
    case isTrue hm => cases h.1; rw [hm]; exact List.mem_singleton.mpr rfl
    case isFalse => cases h.1

/-- No entry of the key: in an empty cache, and in one full of other keys. -/
theorem test_misses : MissFor up key1 ∧ MissFor filledCache key1 := by
  have hf : ∀ i, (vget filledCache.bmc.entries i).all fun e => e.tenant != 7 := by decide +kernel
  refine ⟨fun i e h => ?_, fun i e h hh => ?_⟩
  · rw [no_cached_entry i] at h
    cases h
  · have hi := hf i
    rw [h] at hi
    exact absurd hh.1 (by simpa [key1] using hi)

theorem test_hit (pl : Placement) : HitAt (cached pl up) key1 5 { tenant := 7, bucket := 0x1234, isGlobal := false, placement := pl } := by
  refine ⟨rfl, rfl, rfl, fun j f hj h => ?_⟩
  have hn : vget (cached pl up).bmc.entries j = vget up.bmc.entries j := by
    have hne : ((5 : Fin 32) : Nat) ≠ j.val := fun h => absurd (Fin.lt_def.mp hj) (Nat.not_lt.mpr (Nat.le_of_eq h))
    show (vset up.bmc.entries 5 _)[j.val] = up.bmc.entries[j.val]
    simp only [vset, Vector.getElem_set, if_neg hne]
  rw [hn, no_cached_entry j] at h
  cases h

/-- Parked requests on the key and on none; two on it, listed in park order, one with its table read and one without; a deadline passed and one not passed. -/
theorem test_meets_DenyAndDeadlineEndTheWait :
    (parkedAt 2 false (.good []) up).takeOk .management = true ∧
    (let s := parkedAt 2 true .reading up
     s.running = true ∧ (vget s.bmc.hold 2).map (fun p => (p.deadline, p.pub.extents)) = some (900000, .reading) ∧ 900000 ≤ s.now ∧
     (s.withNow 899999).now < 900000) ∧
    (vget (parkedAt 0 false (.good []) up).bmc.hold 0).map (·.pub.extents) = some (.good []) ∧
    (let late := { parkedReq false .reading with order := 1 }
     let s := (parkedAt 2 false (.good []) up).withBmc { up.bmc with hold := vset (vset up.bmc.hold 2 (some (parkedReq false (.good [])))) 0 (some late) }
     let ps : List (Fin 4 × Parked) := [(2, parkedReq false (.good [])), (0, late)]
     s.takeOk .management = true ∧ (∀ m, vget s.bmc.hold m = (ps.find? fun x => x.1 == m).map (·.2)) ∧ (ps.Pairwise fun a b => a.2.order < b.2.order) ∧
     (∀ x ∈ ps, x.2.pub.key = key1)) := by decide +kernel

/-- Scopes 0 and 4, and 1 and 3; an entry of the scope that the mark names. -/
theorem test_meets_BucketFlushRemovesItsScope :
    ((0 : Byte).toNat ∉ [1, 2, 3] ∧ (4 : Byte).toNat ∉ [1, 2, 3] ∧ (1 : Byte).toNat ∈ [1, 2, 3] ∧ (3 : Byte).toNat ∈ [1, 2, 3]) ∧
    (let s := (cached aPlacement up).withBmc { (cached aPlacement up).bmc with recent := some 5 }
     s.takeOk .management = true ∧ s.bmc.recent = some 5 ∧ (vget s.bmc.entries 5).isSome = true) := by decide +kernel

/-- A hit that is and is not read-only, and every bound on the counts and the size of a PUBLISH. -/
theorem test_meets_PublishAndDeleteThatHit :
    ((cached aPlacement up).takeOk .data = true ∧ NumbersFresh (cached aPlacement up)) ∧
    (aPlacement.readOnly = false ∧ ({ aPlacement with readOnly := true } : Placement).readOnly = true) ∧
    (16 < (17 : Byte).toNat ∧ (16 : Byte).toNat ≤ 16 ∧ 67108864 < (67108865 : BitVec 32).toNat ∧ (67108864 : BitVec 32).toNat ≤ 67108864) ∧
    ((0 : Byte).toNat = 0 ∧ 0 < (1 : BitVec 32).toNat ∧ (0 : BitVec 32).toNat = 0 ∧ 1 ≤ (1 : Byte).toNat) := by
  refine ⟨⟨by decide +kernel, by decide +kernel, fun n p h => ?_, by decide +kernel, by decide +kernel⟩, by decide +kernel, by decide +kernel, by decide +kernel⟩
  rw [show vget (cached aPlacement up).bmc.hold n = none from no_parked_request n] at h
  cases h

/-- The lowest free place is 0, and 1 behind an occupied one; a full Miss Hold, taken from the Management Ring; the counts and sizes of an entry that fails and of one that does not. -/
theorem test_meets_PublishAndDeleteThatMiss :
    (up.takeOk .data = true ∧ LowestFreePlace up 0) ∧
    (let s := parkedAt 0 false .reading up
     vget s.bmc.hold 1 = none ∧ (∀ m : Fin 4, m < 1 → vget s.bmc.hold m ≠ none) ∧ s.takeOk .data = true) ∧
    (let s := parkedAt 3 false .reading (parkedAt 2 false .reading (parkedAt 1 false .reading (parkedAt 0 false .reading up)))
     (∀ n, vget s.bmc.hold n ≠ none) ∧ s.takeOk .management = true ∧ s.takeOk .data = false) ∧
    up.backlog.entries.length + up.backlog.reservations + 1 < 64 ∧
    (16 < (17 : Byte).toNat ∧ (16 : Byte).toNat ≤ 16 ∧ 67108864 < (67108865 : BitVec 32).toNat ∧ (67108864 : BitVec 32).toNat ≤ 67108864 ∧ (0 : Byte).toNat = 0 ∧
      0 < (1 : BitVec 32).toNat ∧ (0 : BitVec 32).toNat = 0) := by
  refine ⟨⟨by decide +kernel, by decide +kernel, by decide +kernel⟩, by decide +kernel, by decide +kernel, by decide +kernel, by decide +kernel⟩

def pubAt (id : Nat) (x : ExtentStage) (st : PubStage) : Pub :=
  { id := id, ring := .data, tag := 1, kind := .content, key := key1, seq := 6, contentTag := 7, size := 3, extents := x, stage := st }

def publishing (ps : List Pub) (s : State) : State := s.withReqs { s.reqs with pubs := ps, nextId := 12 }

def tableOf (len : Nat) : List Byte := leBytes 8 4096 ++ leBytes 4 len ++ leBytes 4 0

theorem test_tables : TableGood (extentsOf 1 (tableOf 3)) 3 ∧ TableFails (extentsOf 1 (tableOf 0)) 3 .zeroLength 0 ∧ TableFails (extentsOf 1 (tableOf 4)) 3 .sum 0 := by
  have h0 : extentsOf 1 (tableOf 0) = [{ addr := 4096, len := 0 }] := by decide +kernel
  have h3 : extentsOf 1 (tableOf 3) = [{ addr := 4096, len := 3 }] := by decide +kernel
  have h4 : extentsOf 1 (tableOf 4) = [{ addr := 4096, len := 4 }] := by decide +kernel
  rw [h0, h3, h4]
  refine ⟨⟨by decide +kernel, by decide +kernel⟩, .inl ⟨{ addr := 4096, len := 0 }, rfl, fun j _ hj => absurd hj (Nat.not_lt_zero j), .inl ⟨rfl, rfl⟩⟩,
    .inr ⟨by decide +kernel, rfl, rfl, by decide +kernel⟩⟩

/-- A parked request and one outside the Miss Hold, its wait ended in every way; reads done and failed; a resumed request behind another and one at its turn, with one behind it that its
placement refuses and one still being read. -/
theorem test_meets_ExtentTableReadEnds :
    (let op := opOf (.extents 9) (.done (tableOf 3)) none
     let s := working (.extents 9) (.done (tableOf 3)) none (parkedAt 2 false .reading up)
     s.running = true ∧ s.hme.find (.extents 9) Op.succeeded = some op ∧ op.data.length / 16 = 1 ∧ op.data = tableOf 3 ∧ (s.bmc.heldAt 9).isSome = true) ∧
    (∀ st ∈ [PubStage.doomed true, .doomed false, .placed aPlacement none, .placed { aPlacement with readOnly := true } none, .placed { aPlacement with maxSize := 2 } none],
      let s := working (.extents 9) (.done (tableOf 3)) none (publishing [pubAt 9 .reading st] up)
      s.bmc.heldAt 9 = none ∧ (s.reqs.pubs.find? fun p => p.id == 9) = some (pubAt 9 .reading st)) ∧
    (({ aPlacement with maxSize := 2 } : Placement).maxSize.toNat < 3 ∧ 3 ≤ aPlacement.maxSize.toNat) ∧
    (let u := pubAt 8 .reading (.placed aPlacement (some 0))
     let s := publishing [u, pubAt 9 .reading (.placed aPlacement (some 0))] up
     s.reqs.pubs.find? (Pub.waitsIn 0) = some u ∧ u.id ≠ 9) ∧
    (let p := pubAt 9 .reading (.placed aPlacement (some 0))
     let behind := pubAt 7 (.good []) (.placed { aPlacement with readOnly := true } (some 0))
     let last := pubAt 6 .reading (.placed aPlacement (some 0))
     let s := working (.extents 9) (.done (tableOf 3)) none (publishing [p, behind, last] up)
     s.running = true ∧ s.bmc.heldAt 9 = none ∧ (s.reqs.pubs.find? fun p => p.id == 9) = some p ∧ (s.reqs.pubs.map (·.id)).Nodup ∧
     s.reqs.pubs.find? (Pub.waitsIn 0) = some p ∧ ((s.reqs.pubs.filter fun u => u.id != 9).map (·.id)).Nodup ∧
     turnsOf 0 (s.reqs.pubs.map fun w => if w.id = 9 then { p with extents := .good [] } else w) = [{ p with extents := .good [] }, behind] ∧ behind.refusal = some (.readOnly, .plain)) ∧
    ((working (.extents 9) .failed (some (.abort, 5)) (parkedAt 2 false .reading up)).hme.find (.extents 9) Op.failed = some (opOf (.extents 9) .failed (some (.abort, 5)))) := by
  decide +kernel

theorem test_meets_TargetSetIsRotatedLimitedAndForeign : (8 : Nat) ≤ 8 := Nat.le_refl 8

def readyPub (pl : Placement) : State := publishing [pubAt 9 (.good [{ addr := 4096, len := 3 }]) (.ready pl)] up


/-- Keys of the set of `key1`: the lowest and the highest quarter of the object number change together. -/
def keyAt (i : Nat) : Key := { key1 with object := key1.object ^^^ BitVec.ofNat 64 (i * 2 ^ 48 + i) }

/-- Eight SETTLED records of that set; when they are owed, none of them may be retired. -/
def fullSet (owed : Bool) (s : State) : State :=
  let rs := (List.range 8).map fun i => { localRec with key := keyAt (i + 1), state := .settled, outcome := some .converged, linger := some 2000000, owed := owed }
  s.withTable { s.table with records := rs, linger := rs.map (·.key) }

/-- A ready request with targets and with none, on a key without a record, its set with a place, with an evictable record, and with none. -/
theorem test_meets_ApplyCreatesARecord :
    (let s := readyPub aPlacement
     let p := pubAt 9 (.good [{ addr := 4096, len := 3 }]) (.ready aPlacement)
     s.running = true ∧ (s.reqs.pubs.find? fun p => p.id == 9) = some p ∧ p.stage = .ready aPlacement ∧ s.table.find p.key = none ∧
     (s.table.inSet (Machine.setOf p.key)).length < 8 ∧ targetSet aPlacement s.regionCount s.ownIndex ≠ []) ∧
    targetSet { aPlacement with template := 1 } (readyPub aPlacement).regionCount (readyPub aPlacement).ownIndex = [] ∧
    (let s := fullSet false (readyPub aPlacement)
     s.table.find key1 = none ∧ 8 ≤ (s.table.inSet (Machine.setOf key1)).length ∧ s.evictable (Machine.setOf key1) = some (keyAt 1)) ∧
    (let s := fullSet true (readyPub aPlacement)
     8 ≤ (s.table.inSet (Machine.setOf key1)).length ∧ s.evictable (Machine.setOf key1) = none) := by decide +kernel

/-- A newer and an equal version, with targets and with none; a bound context, an unsettled REMOTE record, and a SETTLED record at rest. -/
theorem test_meets_ApplySupersedesAnOlderVersion :
    (let s := keeping [localWith .sending (some 0)] (readyPub aPlacement)
     (s.reqs.pubs.find? fun p => p.id == 9).isSome = true ∧ s.table.find key1 = some (localWith .sending (some 0)) ∧ (vget (localWith .sending (some 0)).slots 2).ctx = some 0 ∧
     localRec.version.seq.toNat < (6 : BitVec 48).toNat ∧ ¬ (6 : BitVec 48).toNat < (6 : BitVec 48).toNat ∧ s.ownIndex = 1 ∧
     (s.region 2).state ≠ .suspended ∧ s.wan.carrier = true ∧ s.wan.queue.length ≤ 100) ∧
    ((remoteRec .landed none).role = .remoteRole ∧ (remoteRec .landed none).state ≠ .settled) ∧
    (let r := { localRec with state := .settled }
     r.state = .settled ∧ (∀ x, (vget r.slots x).ctx = none) ∧ r.inbound = none) := by decide +kernel

def queued (x : Region) (ks : List Key) (s : State) : State := s.withSched { s.sched with work := vset s.sched.work x ks }

def poolFull (s : State) : State := s.withPool { s.pool with ctx := Vector.ofFn fun c => if c.val < 48 then .out (outOf .sending) else .free }

/-- A region eligible at its turn; 48 contexts outbound; none eligible. -/
theorem test_meets_GrantServesTheNextEligibleRegion :
    (let s := queued 2 [key1] (keeping [localWith .pending none] up)
     s.running = true ∧ s.pool.outCount < 48 ∧ s.ctx 0 = .free ∧ s.sched.lastServed + 1 + 2 = (2 : Region) ∧ (s.region 2).state = .live ∧ (s.region 2).backoff = none ∧
     (s.region 2).mode = .off ∧ vget s.sched.work 2 = key1 :: [] ∧ (∀ i : Region, i < 2 → vget s.sched.work (s.sched.lastServed + 1 + i) = []) ∧
     s.table.find key1 = some (localWith .pending none)) ∧
    48 ≤ (poolFull up).pool.outCount ∧ (∀ x, vget up.sched.work x = []) := by decide +kernel

def confirming (deadline : Nat) : State :=
  let s := keeping [localWith .confirming none] up
  s.withSched { s.sched with confirm := vset s.sched.confirm 2 [{ key := key1, deadline := deadline }] }

/-- No record; a slot in every state that the frame finds; a context bound to it; the head of a Confirm List at its deadline and one before it. -/
theorem test_meets_ConfirmMovesTheSlot :
    (up.admits 2 = true ∧ up.table.find key1 = none) ∧
    (∀ st ∈ [SlotState.pending, .confirming, .failed, .notTarget, .confirmed], let s := keeping [localWith st none] up
     s.admits 2 = true ∧ s.table.find key1 = some (localWith st none) ∧ (vget (localWith st none).slots 2).state = st ∧ (localWith st none).role = .localRole ∧
     (localWith st none).version = { seq := 5, origin := 1 } ∧ (localWith st none).state = .opened) ∧
    (let s := sending .sending (outOf .sending)
     s.table.find key1 = some (localWith .sending (some 0)) ∧ (vget (localWith .sending (some 0)).slots 2).ctx = some 0 ∧ s.ctx 0 = .out (outOf .sending) ∧
     (outOf .sending).key = key1) ∧
    ((confirming 1000000).running = true ∧ vget (confirming 1000000).sched.confirm 2 = { key := key1, deadline := 1000000 } :: [] ∧ 1000000 ≤ up.now ∧
     (confirming 1000000).table.find key1 = some (localWith .confirming none) ∧ up.now < 1000001) := by decide +kernel

/-- A region index of N and the own one; no record; slots that ABANDON and RETRY take and do not take, with and without a context. -/
theorem test_meets_AbandonAndRetryMoveTheSlot :
    (up.takeOk .data = true ∧ ¬ ((5 : Byte).toNat < up.regionCount ∧ (5 : Byte).toNat ≠ up.ownIndex) ∧ ¬ ((1 : Byte).toNat < up.regionCount ∧ (1 : Byte).toNat ≠ up.ownIndex) ∧
      ((2 : Byte).toNat < up.regionCount ∧ (2 : Byte).toNat ≠ up.ownIndex) ∧ up.table.find key1 = none ∧ regionOf 2 = 2) ∧
    (∀ st ∈ [SlotState.pending, .confirming, .failed], let r := localWith st none
      (keeping [r] up).takeOk .data = true ∧ (keeping [r] up).table.find key1 = some r ∧ r.role = .localRole ∧ r.state = .opened ∧ (vget r.slots 2).state = st ∧ (vget r.slots 2).ctx = none) ∧
    ((vget (localWith .confirmed none).slots 2).state.isOpen = false ∧ (vget (localWith .confirmed none).slots 2).state ≠ .failed ∧ (remoteRec .landed none).role = .remoteRole) ∧
    (let s := sending .sending (outOf .sending)
     s.takeOk .data = true ∧ s.table.find key1 = some (localWith .sending (some 0)) ∧ s.ctx 0 = .out (outOf .sending) ∧ (vget (localWith .sending (some 0)).slots 2).ctx = some 0) := by
  decide +kernel

/-- A LIVE region, and a DARK one with a record whose last open slot is deferred and one with another open slot, with room for the notice and with none. -/
theorem test_meets_DeferEmptiesTheWorkQueue :
    up.takeOk .management = true ∧ ¬ (5 : Byte).toNat < up.regionCount ∧ ((2 : Byte).toNat < up.regionCount ∧ (2 : Byte).toNat ≠ up.ownIndex) ∧ (up.region 2).state = .live ∧
    (let last := localWith .pending none
     let more := { (localWith .pending none).withSlot 3 (slotAt .pending none) with key := key2 }
     let s := modRegion 2 (fun e => { e with state := .dark }) (queued 2 [key1, key2] (keeping [last, more] up))
     s.takeOk .management = true ∧ (s.region 2).state ≠ .live ∧ (vget s.sched.work 2).Nodup ∧ s.table.find key1 = some last ∧ s.table.find key2 = some more ∧
     (last.withSlot 2 ((vget last.slots 2).moved .deferred)).allFinal = true ∧ (more.withSlot 2 ((vget more.slots 2).moved .deferred)).allFinal = false ∧
     0 < 64 - (s.backlog.entries.length + s.backlog.reservations + 1) ∧
     (let f := s.withBacklog { s.backlog with reservations := 47, entries := List.replicate 16 { body := aBody, write := .waiting } }
      f.takeOk .management = true ∧ 64 - (f.backlog.entries.length + f.backlog.reservations + 1) = 0) ∧
     (let z := { s with settings := vset s.settings 10 0 }
      z.takeOk .management = true ∧ z.settingTime 10 = 0 ∧ last.owed = false ∧ ∀ c, (z.ctx c).key ≠ some key1)) := by decide +kernel

/-- The last chunk of an object, and a chunk before it that is full. -/
theorem test_meets_ObjectsAreCutIntoChunksAndSegments : 19 < chunkCount 5000000 ∧ 0 < chunkCount 5000000 ∧ chunkLength 5000000 0 = 262144 ∧ 0 + 1 < segmentCount 5000000 0 := by
  decide +kernel

theorem test_meets_BurstsCoverTheBytesOfTheOperation : ((0x200000800, 1408) : Addr × Nat) ∈ cutPieces [(0x200000800, 1408)] := by decide +kernel

theorem test_serves (st : OutState) (sl : SlotState) (h : st ≠ .aborting) (hs : sl = .offering ∨ sl = .sending) :
    Serves (sending sl (outOf st)) 0 (outOf st) (localWith sl (some 0)) ∧ (sending sl (outOf st)).admits (outOf st).dest = true := by
  refine ⟨?_, ?_⟩
  · unfold Serves
    rcases hs with rfl | rfl <;> cases st <;> first
      | exact absurd rfl h
      | decide +kernel
  · rcases hs with rfl | rfl <;> cases st <;> decide +kernel

/-- A context in OFFERING and one in SENDING; resume chunks below, at and above the chunk count; a retry count below the limit and at it. -/
theorem test_meets_RepliesInOffering :
    (Serves (sending .offering (outOf .offering)) 0 (outOf .offering) (localWith .offering (some 0)) ∧ (sending .offering (outOf .offering)).admits (outOf .offering).dest = true) ∧
    (Serves (sending .sending (outOf .sending)) 0 (outOf .sending) (localWith .sending (some 0)) ∧ (sending .sending (outOf .sending)).admits (outOf .sending).dest = true) ∧
    ((outOf .offering).chunks < (3 : BitVec 16).toNat ∧ (1 : BitVec 16).toNat < (outOf .offering).chunks ∧ (2 : BitVec 16).toNat = (outOf .offering).chunks) ∧
    ((vget (localWith .offering (some 0)).slots 2).retries + 1 < up.setting 2 ∧
      up.setting 2 ≤ (vget ((localWith .offering (some 0)).withSlot 2 { slotAt .offering (some 0) with retries := 4 }).slots 2).retries + 1) :=
  ⟨test_serves _ _ (by decide) (.inl rfl), test_serves _ _ (by decide) (.inr rfl), by decide +kernel, by decide +kernel⟩

/-- A context in each state; NEWER with a newer and with an equal version; a frame that names no context. -/
theorem test_meets_RepliesThatDecideOrAbort :
    (Serves (sending .sending (outOf .sending)) 0 (outOf .sending) (localWith .sending (some 0)) ∧ (sending .sending (outOf .sending)).admits (outOf .sending).dest = true) ∧
    ((outOf .sending).version.origin.toNat < (2 : Byte).toNat ∧ ¬ (outOf .sending).version.origin.toNat < (1 : Byte).toNat ∧ ¬ (outOf .sending).version.seq.toNat < (5 : BitVec 48).toNat) ∧
    up.outboundFor 2 key1 { seq := 5, origin := 1 } = none :=
  ⟨test_serves _ _ (by decide) (.inr rfl), by decide +kernel, by decide +kernel⟩

/-- The next chunk begins, a begun chunk goes on, its last segment; both buffers taken. -/
theorem test_meets_SegmentReadsFollowTheReadingPosition :
    (let o := outOf .sending
     let s := sending .sending o
     s.ctx 0 = .out o ∧ s.table.find o.key = some (localWith .sending (some 0)) ∧ s.running = true ∧ s.sendable o.dest = true ∧ vget o.bufs 0 = .free ∧
     (o.readChunk = o.next ∧ o.readSeg = 0 ∧ o.next < o.chunks ∧ o.next - o.acked < 16) ∧ o.readSeg + 1 < segmentCount 300000 o.readChunk) ∧
    (let o := { outOf .sending with next := 2, readChunk := 1, readSeg := 4 }
     o.readChunk < o.next ∧ segmentCount 300000 o.readChunk ≤ o.readSeg + 1) ∧
    (let o := { outOf .sending with bufs := #v[.reading 0 0 false, .reading 0 1 false] }
     ∀ b, vget o.bufs b ≠ .free) := by decide +kernel

def readingOut (st : OutState) (b0 b1 : Buf) : OutCtx := { outOf st with next := 1, readSeg := 2, bufs := #v[b0, b1] }

/-- A read done and failed in SENDING, first and second of its chunk, discarded, behind a read still out, beside a segment that waits before or behind it, a ready one and a discarded read; and in
ABORTING with and without another read, with its record and without. -/
theorem test_meets_SegmentReadsEnd :
    (let s := fun o => working (.segRead 0 0) (.done (List.replicate 16 3)) none (sending .sending o)
     let op := opOf (.segRead 0 0) (.done (List.replicate 16 3)) none
     (∀ o ∈ [readingOut .sending (.reading 0 0 false) .free, readingOut .sending (.reading 0 0 true) .free, readingOut .sending (.reading 0 1 false) (.reading 0 0 false),
         readingOut .aborting (.reading 0 0 true) (.reading 0 1 true), readingOut .aborting (.reading 0 0 true) .free,
         readingOut .sending (.reading 0 0 false) (.unfolded 0 1 [4]), readingOut .sending (.reading 0 1 false) (.unfolded 0 0 [4]), readingOut .sending (.reading 0 0 true) (.unfolded 0 1 [4]),
         readingOut .sending (.reading 0 1 false) (.ready 0 0 [4] none), readingOut .sending (.reading 0 1 false) (.reading 0 0 true), readingOut .sending (.reading 0 0 false) (.reading 0 1 false)],
       (s o).running = true ∧ (s o).ctx 0 = .out o ∧ (s o).hme.find (.segRead 0 0) Op.succeeded = some op ∧ (s o).table.find o.key = some (localWith .sending (some 0)) ∧
       (keeping [] (s o)).table.find o.key = none) ∧ otherBuf 0 = 1) ∧
    (let o := readingOut .sending (.reading 0 0 false) .free
     let s := working (.segRead 0 0) .failed (some (.abort, 5)) (sending .sending o)
     s.ctx 0 = .out o ∧ s.hme.find (.segRead 0 0) Op.failed = some (opOf (.segRead 0 0) .failed (some (.abort, 5))) ∧
     s.table.find o.key = some (localWith .sending (some 0)) ∧ (localWith .sending (some 0)).role = .localRole ∧ (localWith .sending (some 0)).state = .opened) := by decide +kernel

/-- ACKs at the acknowledged count, above it, at the next chunk, above it, and at the chunk count; each timer due, at its deadline and before it. -/
theorem test_meets_AcksAndTimersMoveTheTransfer :
    (let o := { outOf .sending with next := 2, readChunk := 1 }
     Serves (sending .sending o) 0 o (localWith .sending (some 0)) ∧ (sending .sending o).admits o.dest = true ∧ ¬ o.acked < (0 : BitVec 16).toNat ∧
     (o.acked < (1 : BitVec 16).toNat ∧ (1 : BitVec 16).toNat ≤ o.next ∧ (1 : BitVec 16).toNat ≠ o.chunks) ∧ ((2 : BitVec 16).toNat ≤ o.next ∧ (2 : BitVec 16).toNat = o.chunks) ∧
     ¬ (3 : BitVec 16).toNat ≤ o.next) ∧
    (∀ st ∈ [OutState.offering, .sending], let s := sending (if st = .offering then .offering else .sending) (outOf st)
     s.ctx 0 = .out (outOf st) ∧ s.running = true ∧ (outOf st).timer = some 900000 ∧ 900000 ≤ s.now ∧ (s.table.find key1).isSome = true) ∧
    (localWith .sending (some 0)).role = .localRole ∧ (localWith .sending (some 0)).state = .opened ∧ ¬ 1000001 ≤ up.now := by
  refine ⟨⟨?_, by decide +kernel⟩, by decide +kernel⟩
  unfold Serves
  decide +kernel

def offerOf (seq : BitVec 48) (kind : Byte) (size : BitVec 32) : OfferFrame :=
  { key := key1, version := { seq := seq, origin := 2 }, kind := kind, size := size, contentTag := 7 }

/-- Whether a frame of region 2 fails a test of R112. -/
def offerFails (f : OfferFrame) : Bool :=
  f.version.origin.toNat == up.ownIndex || f.version.origin.toNat != 2 || 67108864 < f.size.toNat || !([0, 1].contains f.kind.toNat) || (f.kind.toNat == 1 && f.size.toNat != 0)

/-- Frames that fail each test and ones that pass at the edge; no record with the set and pool able, by eviction too, and unable; a record in each state at an equal version, a WAITING
tombstone among them, and a newer one; exactly two places free, so that OFFER_IN is placed and LANDED owed. -/
theorem test_meets_OffersAreAnsweredFromTheRecord :
    up.admits 2 = true ∧
    (offerFails { offerOf 5 0 9 with version := { seq := 5, origin := 1 } } = true ∧ offerFails { offerOf 5 0 9 with version := { seq := 5, origin := 3 } } = true ∧
      offerFails (offerOf 5 0 67108865) = true ∧ offerFails (offerOf 5 2 9) = true ∧ offerFails (offerOf 5 1 9) = true ∧ offerFails (offerOf 5 0 67108864) = false ∧
      offerFails (offerOf 5 1 0) = false) ∧
    (up.table.find key1 = none ∧ (up.table.inSet (Machine.setOf key1)).length < 8 ∧ up.pool.inCount < 32 ∧ up.ctx 0 = .free) ∧
    (let s := fullSet true up
     s.table.find key1 = none ∧ 8 ≤ (s.table.inSet (Machine.setOf key1)).length ∧ s.evictable (Machine.setOf key1) = none) ∧
    (let s := fullSet false up
     s.table.find key1 = none ∧ 8 ≤ (s.table.inSet (Machine.setOf key1)).length ∧ s.evictable (Machine.setOf key1) = some (keyAt 1) ∧ s.pool.inCount < 32 ∧ s.ctx 0 = .free) ∧
    (let s := up.withPool { up.pool with ctx := Vector.ofFn fun c => if c.val < 32 then .inb (inOf .draining) else .free }
     ¬ s.pool.inCount < 32) ∧
    (∀ st ∈ [RecState.offered, .landed, .waiting, .settled], (keeping [remoteRec st none] up).table.find key1 = some (remoteRec st none) ∧ (remoteRec st none).state = st) ∧
    ((remoteRec .settled none).outcome ≠ some .committed ∧ ({ remoteRec .settled none with outcome := some .committed } : Record).outcome = some .committed) ∧
    (let s := receiving .receiving (inOf .receiving)
     s.table.find key1 = some (remoteRec .receiving (some 0)) ∧ s.ctx 0 = .inb (inOf .receiving)) ∧
    ((4 : BitVec 48).toNat < (remoteRec .landed none).version.seq.toNat ∧ (remoteRec .waiting (some 0)).inbound ≠ none ∧ (remoteRec .waiting none).inbound = none) ∧
    (let r := { remoteRec .waiting none with kind := .tombstone, size := 0, chunks := 0 }
     (keeping [r] up).table.find key1 = some r ∧ r.state = .waiting ∧ r.kind = .tombstone) ∧
    (let s := up.withBacklog { up.backlog with reservations := 46, entries := List.replicate 16 { body := aBody, write := .waiting } }
     s.fits 2 = true ∧ s.fits 3 = false) := by decide +kernel

/-- A newer version over a record with a context out, over one with a context that drains, over one without, and over a SETTLED one at rest; a tombstone. -/
theorem test_meets_OffersOfANewerVersionSupersede :
    (let f := offerOf 6 0 9
     f.version.origin.toNat ≠ up.ownIndex ∧ f.version.origin.toNat = (2 : Region).val ∧ f.size.toNat ≤ 67108864 ∧ f.kind.toNat = 0 ∧
     (remoteRec .waiting none).version.seq.toNat < f.version.seq.toNat ∧ localRec.version.seq.toNat < f.version.seq.toNat ∧ (offerOf 6 1 0).kind.toNat = 1 ∧
     (offerOf 6 1 0).size.toNat = 0) ∧
    (let r := localWith .sending (some 0)
     let s := sending .sending (outOf .sending)
     s.admits 2 = true ∧ s.table.find key1 = some r ∧ (∀ y, (vget r.slots y).ctx = none ∨ ((vget r.slots y).ctx = some 0 ∧ (s.ctx 0).key = some key1)) ∧ r.inbound = none ∧
     r.state ≠ .settled ∧ (s.region 2).state ≠ .suspended ∧ s.wan.carrier = true ∧ s.wan.queue.length ≤ 100) ∧
    (let r := remoteRec .waiting (some 0)
     let s := receiving .waiting (inOf .draining)
     s.admits 2 = true ∧ s.table.find key1 = some r ∧ (∀ y, (vget r.slots y).ctx = none) ∧ r.inbound = some 0 ∧ (s.ctx 0).key = some key1 ∧ s.ctx 0 = .inb (inOf .draining) ∧
     (inOf .draining).state = .draining ∧ r.role = .remoteRole ∧ r.state ≠ .settled) ∧
    (let r := remoteRec .settled none
     (keeping [r] up).table.find key1 = some r ∧ r.state = .settled ∧ (∀ y, (vget r.slots y).ctx = none) ∧ r.inbound = none ∧ up.pool.inCount < 32 ∧ up.ctx 0 = .free) := by
  decide +kernel

def acceptOf (count : Byte) : AcceptReq := { tag := 1, key := key1, version := { seq := 5, origin := 2 }, extentCount := count, table := 4096 }

def offeredRec (size : Nat) : Record := { remoteRec .offered (some 0) with size := size, chunks := chunkCount size }

def offeredState (size : Nat) : State := setCtx 0 (.inb { inOf .awaitHost with size := size, chunks := chunkCount size }) (keeping [offeredRec size] up)

def acceptWaits (s : State) : State := s.withReqs { s.reqs with accepts := [{ id := 6, ring := .data, req := acceptOf 1 }], nextId := 7 }

theorem test_offer_stands (size : Nat) : OfferStands (offeredState size) key1 { seq := 5, origin := 2 } (offeredRec size) 0 := by
  refine ⟨?_, rfl, rfl, rfl, rfl⟩
  show (if (key1 == key1) = true then some (offeredRec size) else none) = some (offeredRec size)
  rw [if_pos (by decide)]

/-- Counts 1 and 16; counts 0 and 17 refused; an ACCEPT of size 0 and one of size 3 that pass; no offer, and a lapsed one; reads done and failed. -/
theorem test_meets_AcceptIsDecidedOnTheRecord :
    (up.takeOk .data = true ∧ 1 ≤ (acceptOf 1).extentCount.toNat ∧ (acceptOf 16).extentCount.toNat ≤ 16 ∧ (acceptOf 0).extentCount.toNat = 0 ∧
      16 < (acceptOf 17).extentCount.toNat ∧ (offeredState 0).takeOk .data = true) ∧
    AcceptRefused up (acceptOf 0) [] .noOffer .plain ∧ AcceptRefused (offeredState 3) (acceptOf 17) [] .badExtents (.extents .count 0) ∧
    AcceptRefused (keeping [remoteRec .waiting none] up) (acceptOf 0) [] .lapsed (.versionState { seq := 5, origin := 2 } .waiting) ∧
    (AcceptPasses (offeredState 0) (acceptOf 0) [] (offeredRec 0) 0 ∧ (offeredState 0).ctx 0 = .inb { inOf .awaitHost with size := 0, chunks := 0 }) ∧
    (let s := working (.landing 6) (.done (tableOf 3)) none (acceptWaits (offeredState 3))
     let op := opOf (.landing 6) (.done (tableOf 3)) none
     s.running = true ∧ (s.reqs.accepts.find? fun a => a.id == 6) = some { id := 6, ring := .data, req := acceptOf 1 } ∧
     s.hme.find (.landing 6) Op.succeeded = some op ∧ op.data.length / 16 = 1 ∧ op.data = tableOf 3 ∧ s.ctx 0 = .inb { inOf .awaitHost with size := 3, chunks := 1 }) ∧
    AcceptPasses (offeredState 3) (acceptOf 1) (extentsOf 1 (tableOf 3)) (offeredRec 3) 0 ∧
    (working (.landing 6) .failed (some (.abort, 5)) (acceptWaits up)).hme.find (.landing 6) Op.failed = some (opOf (.landing 6) .failed (some (.abort, 5))) := by
  refine ⟨by decide +kernel, .inl (.inl ⟨by decide +kernel, rfl, rfl⟩), .inr ⟨offeredRec 3, 0, test_offer_stands 3, rfl, .inl ⟨by decide +kernel, rfl⟩⟩,
    .inl (.inr ⟨remoteRec .waiting none, by decide +kernel, rfl, .inl ⟨rfl, rfl, rfl, rfl⟩⟩), ⟨⟨test_offer_stands 0, by decide +kernel, by decide +kernel, rfl⟩, by decide +kernel⟩,
    by decide +kernel, ⟨test_offer_stands 3, by decide +kernel, test_tables.1⟩, by decide +kernel⟩

/-- No offer; an offer of the version; no landed record, and one; a record to retire, one that is owed, and one whose deadline has not passed. -/
theorem test_meets_TheVerdictSettlesAndLingerExpiryRetires :
    NoOfferStands up key1 { seq := 5, origin := 2 } .noOffer .plain ∧ OfferStands (offeredState 3) key1 { seq := 5, origin := 2 } (offeredRec 3) 0 ∧
    ((offeredState 3).takeOk .data = true ∧ up.takeOk .data = true ∧ up.table.find key1 = none) ∧
    (let r := remoteRec .landed none
     (keeping [r] up).takeOk .data = true ∧ (keeping [r] up).table.find key1 = some r ∧ r.role = .remoteRole ∧ r.version = { seq := 5, origin := 2 } ∧ r.state = .landed) ∧
    (let r := { localRec with state := .settled, outcome := some .converged, linger := some 1000000 }
     let s := keeping [r] up
     s.running = true ∧ s.table.find key1 = some r ∧ r.linger = some 1000000 ∧ 1000000 ≤ s.now ∧ r.owed = false ∧ ∀ c, (s.ctx c).key ≠ some key1) ∧
    ¬ (1000001 : Nat) ≤ up.now := by
  refine ⟨.inl ⟨by decide +kernel, rfl, rfl⟩, test_offer_stands 3, by decide +kernel, by decide +kernel, by decide +kernel, by decide +kernel⟩

/-- An inbound context of one segment of three bytes. -/
def smallIn (acked : Nat) : InCtx := { inOf .receiving with size := 3, chunks := 1, acked := acked }

def smallRec : Record := { remoteRec .receiving (some 0) with size := 3, chunks := 1 }

def smallState (fifo : List FifoEntry) : State :=
  let s := setCtx 0 (.inb (smallIn 0)) (keeping [smallRec] up)
  s.withInbound { s.inbound with fifo := fifo }

def segmentOf (chunkCheck : BitVec 32) : SegmentFrame :=
  let g : SegmentFrame := { key := key1, version := { seq := 5, origin := 2 }, chunk := 0, seg := 0, check := 0, presence := 1, chunkCheck := chunkCheck, payload := [9, 9, 9] }
  { g with check := SegmentFrame.computed g 2 1 }

def staged (id : Option Nat) : FifoEntry := { ctx := 0, chunk := 0, seg := 0, payload := [9, 9, 9], op := id, discarded := false }

/-- A REMOTE record whose transfer a supersede cancels: its staged writes as given, the engine with one write of the context out. -/
def cancelling (fifo : List FifoEntry) : State :=
  (working (.segWrite 0) (.issued false 5) none (receiving .receiving (inOf .receiving))).withInbound { up.inbound with fifo := fifo }

theorem test_bound_in (fifo : List FifoEntry) : BoundIn (cancelling fifo) (remoteRec .receiving (some 0)) 0 (inOf .receiving) :=
  ⟨rfl, rfl, by decide, rfl, rfl, by decide +kernel⟩

/-- A waiting entry goes at once; one whose write has a burst out stays. -/
theorem test_drained_at_once : DrainedAtOnce (cancelling []) 0 ∧ DrainedAtOnce (cancelling [staged none]) 0 ∧ ¬ DrainedAtOnce (cancelling [staged (some 4)]) 0 := by
  refine ⟨fun e h => (List.not_mem_nil h).elim, fun e h _ hw => ?_, fun h => h (staged (some 4)) (List.mem_singleton.mpr rfl) rfl (.inr ⟨4, rfl, by decide +kernel⟩)⟩
  cases List.mem_singleton.mp h
  rcases hw with hw | ⟨id, hid, _⟩
  · exact hw rfl
  · cases hid

theorem test_bound_out : BoundOut (sending .sending (outOf .sending)) (localWith .sending (some 0)) 0 (outOf .sending) ∧
    ¬ ReadsLeft 0 (outOf .sending) (sending .sending (outOf .sending)) := by
  refine ⟨⟨⟨2, by decide +kernel⟩, rfl⟩, ?_⟩
  unfold ReadsLeft
  decide +kernel

theorem test_drains_already : DrainsAlready (receiving .waiting (inOf .draining)) (remoteRec .waiting (some 0)) := ⟨0, inOf .draining, rfl, rfl, rfl⟩

/-- Every row of R19, for the two statements on a supersede: a LOCAL record under each role, a REMOTE one at rest, LANDED, draining in WAITING and in LANDED, and
cancelled with no write left and with one. -/
theorem test_meets_ApplySupersedesAnOlderVersion_rows (v : Version) :
    let cancelled : Notice := .inCancelled key1 { seq := 5, origin := 2 } .superseded
    SupersedeGives (localWith .sending (some 0)) v .remoteRole (sending .sending (outOf .sending)) [.superseded key1 localRec.version v] ∧
    SupersedeGives (localWith .sending (some 0)) v .localRole (sending .sending (outOf .sending)) [] ∧
    SupersedeGives (remoteRec .landed none) v .localRole (keeping [remoteRec .landed none] up) [cancelled] ∧
    SupersedeGives (remoteRec .settled none) v .localRole (keeping [remoteRec .settled none] up) [] ∧
    SupersedeGives (remoteRec .waiting (some 0)) v .remoteRole (receiving .waiting (inOf .draining)) [] ∧
    SupersedeGives (remoteRec .landed (some 0)) v .remoteRole (receiving .landed (inOf .draining)) [cancelled] ∧
    SupersedeGives (remoteRec .receiving (some 0)) v .remoteRole (cancelling []) [cancelled] ∧
    SupersedeGives (remoteRec .receiving (some 0)) v .remoteRole (cancelling [staged (some 4)]) [] :=
  ⟨.inl ⟨rfl, .inl rfl, rfl⟩, .inl ⟨rfl, .inl rfl, rfl⟩, .inr ⟨rfl, .inl ⟨rfl, by decide, rfl⟩⟩, .inr ⟨rfl, .inr (.inl ⟨rfl, rfl, rfl⟩)⟩,
    .inr ⟨rfl, .inr (.inr (.inl ⟨test_drains_already, by decide, rfl⟩))⟩,
    .inr ⟨rfl, .inr (.inr (.inr (.inl ⟨⟨0, inOf .draining, rfl, rfl, rfl⟩, rfl, rfl⟩)))⟩,
    .inr ⟨rfl, .inr (.inr (.inr (.inr ⟨0, inOf .receiving, test_bound_in [], by decide, .inl ⟨test_drained_at_once.1, rfl⟩⟩)))⟩,
    .inr ⟨rfl, .inr (.inr (.inr (.inr ⟨0, inOf .receiving, test_bound_in _, by decide, .inr ⟨test_drained_at_once.2.2, rfl⟩⟩)))⟩⟩

/-- The contexts of a superseded record: an outbound one that ends at once, whose place a new binding may take with no other FREE; 32 inbound contexts; an inbound one cancelled with no
write left, with 32 bound, and with one left; no context FREE. -/
theorem test_meets_OffersOfANewerVersionSupersede_contexts :
    (let s := (sending .sending (outOf .sending)).withPool { up.pool with ctx := Vector.ofFn fun c => if c.val < 48 then .out (outOf .sending) else if c.val < 63 then .inb (inOf .draining) else .inb (inOf .receiving) }
     s.pool.inCount < 32 ∧ s.ctx 0 = .out (outOf .sending) ∧ (∀ c, s.ctx c ≠ .free) ∧ (localWith .sending (some 0)).inbound = none) ∧
    (let s := (sending .sending (outOf .sending)).withPool { up.pool with ctx := Vector.ofFn fun c => if c.val = 0 then .out (outOf .sending) else if c.val < 33 then .inb (inOf .draining) else .free }
     32 ≤ s.pool.inCount ∧ s.ctx 0 = .out (outOf .sending)) ∧
    ((cancelling []).pool.inCount ≤ 32 ∧ (cancelling []).table.find key1 = some (remoteRec .receiving (some 0)) ∧ (cancelling []).admits 2 = true ∧
      ((cancelling []).ctx 0).key = some key1 ∧ (remoteRec .receiving (some 0)).state ≠ .settled) := by decide +kernel

theorem test_hold_due :
    (let s := up.withInbound { up.inbound with holding := true }
     HoldDue 2 s) ∧
    (let s := up.withInbound { up.inbound with holding := true, holdSent := vset up.inbound.holdSent 2 (some 989999) }
     HoldDue 2 s) ∧
    (let s := up.withInbound { up.inbound with holding := true, holdSent := vset up.inbound.holdSent 2 (some 990000) }
     ¬ HoldDue 2 s) ∧ ¬ HoldDue 2 up := by
  refine ⟨⟨rfl, fun _ h => ?_⟩, ⟨rfl, fun at_ h => ?_⟩, fun h => absurd (h.2 990000 (by decide +kernel)) (by decide +kernel), fun h => absurd h.1 (by decide +kernel)⟩
  · cases h
  · have hs : at_ = 989999 := by injection h with h; exact h.symm
    rw [hs]
    decide +kernel

/-- A context with one chunk taken whole and not acknowledged, and a second of three bytes. -/
def behindIn : InCtx := { inOf .receiving with size := 262147, chunks := 2, expected := 1 }

/-- A segment in shape with a right and with a wrong check, whole with a good and with a wrong chunk check, and not whole; below and above the expected chunk; marked
already; the FIFO with 47, 63 and 64 entries; no context, with a record that answers and with none; holding, with a HOLD sent and with none. An acknowledged point behind the expected
chunk with an entry of its chunk left and with none; while holding, a wrong chunk check that leaves no more than 16 entries and one that leaves more. -/
theorem test_meets_SegmentsAreTestedAndStaged :
    (let s := smallState []
     s.admits 2 = true ∧ s.inbound.holding = false ∧ s.receivingFor 2 key1 { seq := 5, origin := 2 } = some 0 ∧ s.ctx 0 = .inb (smallIn 0)) ∧
    (let g := segmentOf (crc32c [9, 9, 9])
     0 < (smallIn 0).chunks ∧ 0 < segmentCount 3 0 ∧ g.payload.length = segmentLength 3 0 0 ∧ g.presence = 1 ∧ 0 + 1 = segmentCount 3 0 ∧
     SegmentFrame.computed g 2 up.ownIndex = g.check ∧ SegmentFrame.computed { g with check := 0 } 2 up.ownIndex ≠ 0 ∧
     some g.chunkCheck = some (crc32c [9, 9, 9]) ∧ (segmentOf 5).chunkCheck ≠ crc32c [9, 9, 9] ∧ vget (smallIn 0).received 0 = none ∧
     (vget (vset (smallIn 0).received 0 (some g.payload)) 0).isSome = true ∧ (smallIn 0).acked = (smallIn 0).expected) ∧
    (segmentCount 300000 0 = 32 ∧ 0 < ({ inOf .receiving with expected := 1 } : InCtx).expected ∧ (inOf .receiving).expected < 1 ∧ 1 < (inOf .receiving).chunks) ∧
    ((smallState (List.replicate 47 (staged none))).inbound.fifo.length + 1 = 48 ∧ (smallState (List.replicate 63 (staged none))).inbound.fifo.length < 64 ∧
      64 ≤ (smallState (List.replicate 64 (staged none))).inbound.fifo.length) ∧
    (let s := keeping [remoteRec .landed none] up
     s.admits 2 = true ∧ s.receivingFor 2 key1 { seq := 5, origin := 2 } = none ∧ s.inbound.holding = false ∧ s.table.find key1 = some (remoteRec .landed none) ∧
     (remoteRec .landed none).role = .remoteRole ∧ (remoteRec .landed none).version = { seq := 5, origin := 2 }) ∧
    (up.receivingFor 2 key1 { seq := 5, origin := 2 } = none ∧ up.table.find key1 = none) ∧
    (let s := up.withInbound { up.inbound with holding := true, holdSent := vset up.inbound.holdSent 2 (some 990000) }
     s.inbound.holding = true ∧ s.settingTime 9 = 20000 ∧ vget s.inbound.holdSent 2 = some 990000 ∧ ¬ s.settingTime 9 < 2 * (s.now - 990000) ∧
     s.settingTime 9 < 2 * (s.now - 989999)) ∧
    (let e : FifoEntry := { staged none with chunk := 1 }
     let first : FifoEntry := staged (some 4)
     behindIn.acked = 0 ∧ behindIn.expected = 1 ∧ segmentCount behindIn.size 1 = 1 ∧ (∃ d ∈ [first, e], d.ctx = 0 ∧ d.chunk = 0 ∧ d.discarded = false) ∧
     ¬ (∃ d ∈ [e], d.ctx = 0 ∧ d.chunk = 0 ∧ d.discarded = false)) ∧
    (let rest := fun fifo : List FifoEntry => (fifo.filter fun e => !(e.ctx == 0 && e.chunk == 0 && e.op.isNone)).map fun e =>
       if e.ctx = 0 ∧ e.chunk = 0 then { e with discarded := true } else e
     (rest (List.replicate 47 (staged none))).length ≤ 16 ∧ ¬ (rest (List.replicate 17 (staged (some 4)))).length ≤ 16 ∧
       (rest (List.replicate 16 (staged (some 4)))).length ≤ 16) := by decide +kernel

/-- The oldest entry waiting, and one held back by a discarded write; a write done that moves nothing, one that moves the acknowledged point, and the last; a failed one; a
draining context with and without another write; each with holding, and 16 and 17 entries left. -/
theorem test_meets_StagedSegmentsAreWritten :
    (let s := smallState [staged (some 9), staged none]
     s.running = true ∧ s.inbound.fifo = [staged (some 9)] ++ staged none :: [] ∧ (staged none).op = none ∧ (staged (some 9)).op ≠ none ∧ s.ctx 0 = .inb (smallIn 0) ∧
     ∀ d ∈ s.inbound.fifo, d.discarded = false) ∧
    (let s := smallState [{ staged (some 9) with discarded := true }, staged none]
     ∃ d ∈ s.inbound.fifo, d.ctx = 0 ∧ d.chunk = 0 ∧ d.discarded = true ∧ d.op.isSome = true) ∧
    (let op := opOf (.segWrite 0) (.done []) none
     let s := fun i : InCtx => setCtx 0 (.inb i) (working (.segWrite 0) (.done []) none (smallState [staged (some 4)]))
     (∀ i ∈ [{ smallIn 0 with expected := 1 }, { inOf .receiving with expected := 1 }, inOf .receiving, { smallIn 0 with state := .draining, cancel := some .idle }],
        (s i).running = true ∧ op.use = .segWrite 0 ∧ (s i).ctx 0 = .inb i ∧ ((s i).hme.ops.find? fun o => o.id == 4 && o.succeeded) = some op ∧
        (s i).table.find i.key = some smallRec) ∧
      smallRec.inbound = some 0 ∧ (s (smallIn 0)).inbound.fifo.filter (fun e => e.op != some 4) = [] ∧
      1 = ({ smallIn 0 with expected := 1 } : InCtx).chunks ∧ 1 ≠ (inOf .receiving).chunks) ∧
    ((smallState [staged (some 4), staged (some 9)]).inbound.fifo.filter (fun e => e.op != some 4) = [staged (some 9)]) ∧
    (let s := working (.segWrite 0) .failed (some (.abort, 5)) (smallState [staged (some 4)])
     (s.hme.ops.find? fun o => o.id == 4 && o.failed) = some (opOf (.segWrite 0) .failed (some (.abort, 5))) ∧ s.table.find key1 = some smallRec) ∧
    (∀ n ∈ [16, 17], ∀ st ∈ [(.done [] : BurstState), .failed],
      let fifo := staged (some 4) :: List.replicate n (staged none)
      let s := working (.segWrite 0) st none ((smallState fifo).withInbound { fifo := fifo, holding := true, holdSent := vset up.inbound.holdSent 2 (some 5) })
      s.running = true ∧ s.inbound.holding = true ∧ (s.inbound.fifo.filter fun e => e.op != some 4).length = n ∧ s.ctx 0 = .inb (smallIn 0) ∧
      s.resumesAt n = (if n = 16 then [{ dest := 2, body := .resume }] else []) ∧ (s.region 2).state ≠ .suspended) := by
  decide +kernel

/-- A WITHDRAW that acts on an OFFERED, a RECEIVING and a LANDED record, and one that finds none; both timers due at their deadline, and one that is not;
entries that leave while holding. -/
theorem test_meets_InboundTransfersAreCalledOff :
    (up.admits 2 = true ∧ up.table.find key1 = none) ∧
    (∀ st ∈ [RecState.offered, .receiving], let s := receiving st (inOf (if st = .offered then .awaitHost else .receiving))
     s.admits 2 = true ∧ s.table.find key1 = some (remoteRec st (some 0)) ∧ (remoteRec st (some 0)).role = .remoteRole ∧ (remoteRec st (some 0)).version.origin.toNat = 2 ∧
     (remoteRec st (some 0)).state ∈ [RecState.offered, .receiving, .landed] ∧ (remoteRec st (some 0)).inbound = some 0 ∧
     s.ctx 0 = .inb (inOf (if st = .offered then .awaitHost else .receiving)) ∧ s.running = true ∧ (inOf .awaitHost).timer = some 900000 ∧ 900000 ≤ s.now) ∧
    ((keeping [remoteRec .landed none] up).table.find key1 = some (remoteRec .landed none) ∧ (remoteRec .landed none).state = .landed) ∧
    ({ inOf .receiving with timer := none } : InCtx).timer = none ∧
    (let s := (receiving .receiving (inOf .receiving)).withInbound { fifo := List.replicate 17 (staged none), holding := true, holdSent := vset up.inbound.holdSent 2 (some 5) }
     s.admits 2 = true ∧ s.ctx 0 = .inb (inOf .receiving) ∧ s.inbound.holding = true ∧ s.resumesAt 0 = [{ dest := 2, body := .resume }] ∧ s.resumesAt 17 = []) := by decide +kernel

def entryOf (x : Region) (f : RegionEntry → RegionEntry) : State := modRegion x f up

/-- A LIVE region, and a DARK one with a Confirm List, with room for its notice and without. -/
theorem test_meets_HearingFromARegion :
    (up.admits 2 = true ∧ (up.region 2).state = .live) ∧
    (let s := modRegion 2 (fun e => { e with state := .dark }) (confirming 1000000)
     s.admits 2 = true ∧ (s.region 2).state = .dark ∧ (vget s.sched.confirm 2).map (·.key) = [key1] ∧ (s.table.find key1).isSome = true ∧ s.fits 1 = true) ∧
    fullBacklog.fits 1 = false := by decide +kernel

/-- Two contexts to region 2, the higher-numbered one bound first, and one to region 3; the OPEN record they serve. -/
def twoBound : State :=
  let sl := slotAt .sending
  let other := { (localWith .sending (some 5)) with key := key2 }
  let s := keeping [(localWith .sending (some 0)).withSlot 3 (sl (some 7)), other] up
  let at_ := fun (c : CtxNo) (k : Key) (x : Region) (order : Nat) (s : State) => setCtx c (.out { outOf .sending with key := k, dest := x, order := order }) s
  at_ 0 key1 2 4 (at_ 5 key2 2 3 (at_ 7 key1 3 6 s))

/-- The contexts bound to a region, listed in the order of binding; records with and without a slot bound to it; a region to which none is bound; a context with a read that stays, and with one
that is dropped. -/
theorem test_meets_transfers :
    (let o := fun (k : Key) (x : Region) (order : Nat) => { outOf .sending with key := k, dest := x, order := order }
     let ps : List (CtxNo × OutCtx) := [(5, o key2 2 3), (0, o key1 2 4)]
     (∀ c, (twoBound.ctx c).out?.bind (fun o => if o.state != .aborting && o.dest == 2 then some o else none) = (ps.find? fun p => p.1 == c).map (·.2)) ∧
     (ps.Pairwise fun a b => a.2.order < b.2.order) ∧ (∀ p ∈ ps, p.2.dest = 2 ∧ p.2.state ≠ .aborting) ∧ twoBound.ctx 7 = .out (o key1 3 6) ∧
     (∀ c, (twoBound.ctx c).out?.all (fun o => o.dest != 4) = true) ∧ (∀ r ∈ twoBound.table.records, r.state ≠ .settled) ∧
     (twoBound.table.find key1).isSome = true ∧ (twoBound.table.find key2).isSome = true) ∧
    (let s := fun st => working (.segRead 0 0) st none (sending .sending (readingOut .sending (.reading 0 0 false) .free))
     (∃ op ∈ (s .unissued).hme.ops, op.use = .segRead 0 0 ∧ op.untouched = true) ∧ ∀ op ∈ (s (.issued false 5)).hme.ops, op.untouched = false) := by decide +kernel

/-- The timer due and not due; a region that falls at the miss limit with a context to it, two regions with room for one notice and with none, one owed already, and no region that falls. -/
theorem test_meets_ProbeExpiryFindsSilentRegions :
    (¬ (1500000 : Nat) ≤ up.now ∧ up.regions.probe = some 1500000) ∧
    (let s := (modRegion 2 (fun e => { e with miss := 2 }) (sending .sending (outOf .sending))).withNow 1500000
     s.running = true ∧ s.regions.probe = some 1500000 ∧ 1500000 ≤ s.now ∧ (s.region 2).state = .live ∧ (s.region 2).heard = false ∧ s.setting 7 ≤ min 15 ((s.region 2).miss + 1) ∧
     s.ctx 0 = .out (outOf .sending) ∧ (outOf .sending).dest = 2 ∧ s.table.find key1 = some (localWith .sending (some 0)) ∧ s.wan.carrier = true ∧ s.wan.queue.length ≤ 120) ∧
    (let silent := fun (e : RegionEntry) => { e with miss := 2 }
     let s := (modRegion 2 silent (modRegion 3 silent (owing (fun b => { b with reservations := 47, entries := List.replicate 16 { body := aBody, write := .waiting } }) up))).withNow 1500000
     (∀ x, x ∈ ([2, 3] : List Region) ↔ (s.region x).state = .live ∧ s.setting 7 ≤ (if (s.region x).heard = true then (s.region x).miss else min 15 ((s.region x).miss + 1))) ∧
     ([2, 3] : List Region).Pairwise (· < ·) ∧ s.anyOwed = false ∧ 64 - (s.backlog.entries.length + s.backlog.reservations) = 1 ∧
     (modRegion 0 (fun e => { e with owed := true }) s).anyOwed = true) ∧
    (∀ x, (up.region x).heard = false → ¬ up.setting 7 ≤ min 15 ((up.region x).miss + 1)) ∧ State.reset.wan.carrier = false := by decide +kernel

/-- Every deadline passed and not passed; HOLD times 9, 10, 2,000 and 2,001 ms; a pace window that ends in phase A and in phase B, and one that does not. -/
theorem test_meets_BackoffHoldAndPaceAtTheEntry :
    (up.running = true ∧ up.admits 2 = true ∧ (up.region 2).backoff = none ∧ (up.region 2).held = none) ∧
    ((entryOf 2 fun e => { e with backoff := some 1000000, held := some 1000000 }).region 2).backoff = some 1000000 ∧
    ((9 : BitVec 16).toNat < 10 ∧ 10 ≤ (10 : BitVec 16).toNat ∧ (2000 : BitVec 16).toNat ≤ 2000 ∧ 2000 < (2001 : BitVec 16).toNat) ∧
    (∀ ph ∈ [Phase.a, .b], let e := (entryOf 2 fun e => { e with mode := .alternate, run := true, remaining := 0, phase := ph }).region 2
     e.remaining = 0 ∧ e.run = true ∧ e.mode = .alternate ∧ e.phase = ph) ∧
    ¬ (up.region 2).remaining = 0 := by decide +kernel

def setReq (f : RegionSetReq → RegionSetReq) : RegionSetReq :=
  f { tag := 1, index := 2, applyEnable := false, enable := false, applyStation := false, applyPace := false, applyRun := false, run := false, clearWindowEnd := false,
      station := 0, paceMode := 0, sendWindow := 1, quietWindow := 1 }

/-- An index of N and the own one; a pace mode of 3, windows of 0 and 86,401 s, a group address, the own address; an address for a region not SUSPENDED, and for one that
is; REGION.GET of indices 7 and 8. -/
theorem test_meets_RegionSetWritesItsGroupsAndRegionGetReads :
    (RegionSetReq.badSetting (setReq fun q => { q with applyPace := true, paceMode := 3 }) up ∧ ¬ RegionSetReq.badSetting (setReq fun q => { q with applyPace := true, paceMode := 2 }) up) ∧
    (up.takeOk .management = true ∧ up.takeOk .data = true ∧ ¬ (5 : Byte).toNat < up.regionCount ∧ (1 : Byte).toNat = up.ownIndex ∧
      (setReq id).index.toNat < up.regionCount ∧ (setReq id).index.toNat ≠ up.ownIndex) ∧
    (¬ (3 : Byte).toNat ≤ 2 ∧ ¬ 1 ≤ (0 : BitVec 32).toNat ∧ ¬ (86401 : BitVec 32).toNat ≤ 86400 ∧ (86400 : BitVec 32).toNat ≤ 86400 ∧ (2 : Byte).toNat ≤ 2) ∧
    ((0x010000000000 : BitVec 48).getLsbD 40 = true ∧ (stationOf 1).getLsbD 40 = false ∧ (up.region (regionOf (BitVec.ofNat 8 up.ownIndex))).station = stationOf 1) ∧
    ((up.region 2).state ≠ .suspended ∧ ((entryOf 2 fun e => { e with state := .suspended }).region 2).state = .suspended ∧ (setReq id).applyEnable = false) ∧
    ((7 : Region).val = (7 : Byte).toNat ∧ 7 < (8 : Byte).toNat) := by
  unfold RegionSetReq.badSetting
  decide +kernel

/-- A LIVE region with a context to it, whose slot is of an OPEN record, with room for the notice and without; a SUSPENDED region; requests that name the other groups too, a station for the
return among them. -/
theorem test_meets_RegionSetSuspendsAndReturnsARegion :
    (let s := sending .sending (outOf .sending)
     s.takeOk .management = true ∧ (2 : Byte).toNat < s.regionCount ∧ (2 : Byte).toNat ≠ s.ownIndex ∧ (s.region (regionOf 2)).state = .live ∧
     (∀ c, c ∈ [(0 : CtxNo)] ↔ (s.ctx c).isOut = true) ∧ s.ctx 0 = .out (outOf .sending) ∧ (outOf .sending).state ≠ .aborting ∧ (outOf .sending).dest = 2 ∧
     s.table.find key1 = some (localWith .sending (some 0)) ∧ (localWith .sending (some 0)).state = .opened) ∧
    (up.backlog.entries.length + up.backlog.reservations + 1 + 1 ≤ 64) ∧
    (let s := owing (fun b => { b with reservations := 47, entries := List.replicate 16 { body := aBody, write := .waiting } }) up
     s.takeOk .management = true ∧ ¬ s.backlog.entries.length + s.backlog.reservations + 1 + 1 ≤ 64) ∧
    ((entryOf 2 fun e => { e with state := .suspended }).region 2).state = .suspended ∧
    (let q := setReq fun q => { q with applyEnable := true, applyPace := true, paceMode := 1, sendWindow := 86400, applyRun := true, run := true, clearWindowEnd := true }
     q.applyEnable = true ∧ q.enable = false ∧ q.applyStation = false ∧ ¬ RegionSetReq.badSetting q up ∧
     (let back := { q with enable := true, applyStation := true, station := stationOf 9 }
      back.enable = true ∧ back.applyStation = true ∧ ¬ RegionSetReq.badSetting back (entryOf 2 fun e => { e with state := .suspended }))) := by
  unfold RegionSetReq.badSetting
  decide +kernel

/-- The bytes of a frame of region 2, without its frame check. -/
def frameBody (kind : Byte) (content : List Byte) : List Byte :=
  beBytes 6 (stationOf 1).toNat ++ beBytes 6 (stationOf 2).toNat ++ beBytes 2 0x88B5 ++ [1, kind, 2, 1] ++ beBytes 2 content.length ++ [0, 0] ++ content

theorem frame_filtered (kind : Byte) (content : List Byte) :
    (frameBody kind content ++ leBytes 4 (crc32 (frameBody kind content)).toNat).take (frameBody kind content).length = frameBody kind content := List.take_left

/-- A PROBE and an ECHO of region 2 in a part with its station; no carrier; the kinds and lengths of R160, a SEGMENT of one byte among them. -/
theorem test_meets_FramesAreFilteredAndDispatched :
    (State.reset.running = false ∧ up.wan.carrier = true ∧ up.start.image = some image5 ∧ image5.n.toNat ≤ 8 ∧ up.admits 2 = true) ∧
    up.filter (frameBody 9 [] ++ leBytes 4 (crc32 (frameBody 9 [])).toNat) = some 2 ∧
    up.filter (frameBody 9 [1] ++ leBytes 4 (crc32 (frameBody 9 [1])).toNat) = none ∧
    commandOfFrame 2 9 [] = some (.probe 2) ∧ commandOfFrame 2 5 (List.replicate 24 0) = none ∧ (3, 37) = (3, 36 + 1) := by decide +kernel

def readyOut (k : Option (BitVec 32)) : OutCtx := { outOf .sending with next := 1, readChunk := 1, bufs := #v[.ready 0 31 [1, 2, 3] k, .free] }

/-- A frame in the Control Queue; a holder with a segment ready; none, and a candidate in turn; nothing to send; outside RUNNING; without carrier. -/
theorem test_meets_PortReadyChoosesOneFrameAndCarrierLossDropsAll :
    (let s := up.withWan { up.wan with queue := [{ dest := 2, body := .probe }] }
     s.running = true ∧ s.wan.carrier = true ∧ s.wan.queue = { dest := 2, body := .probe } :: []) ∧
    (let s := sending .sending (readyOut (some 5))
     s.running = true ∧ s.wan.carrier = true ∧ s.wan.queue = [] ∧ s.wan.holder = none ∧ s.candidate 0 = true ∧ s.wan.lastGranted + 1 + 0 = (0 : CtxNo) ∧
     s.ctx 0 = .out (readyOut (some 5)) ∧ (readyOut (some 5)).grantable = some 0 ∧ vget (readyOut (some 5)).bufs 0 = .ready 0 31 [1, 2, 3] (some 5) ∧
     (s.withWan { s.wan with holder := some 0 }).candidate 0 = true) ∧
    (∀ c, up.candidate c = false) ∧ (upAs .ready).running = false ∧ (up.withWan Wan.reset).wan.carrier = false := by decide +kernel

def outName (reissue : Bool) : BurstName := { op := 4, burst := 0, reissue := reissue }

/-- A reissue that waits; a burst of the client in turn; none. A first copy and a reissue out, of a read and of a write, at the deadline and before it; one not out; the latch
set and clear; RESETTING. -/
theorem test_meets_BurstsAreIssuedInTurnAndEndAsTheLinkAnswers :
    (let s := (working .completion .awaiting none up)
     (s.withHme { s.hme with reissue := [(4, 0)] }).hme.reissue = (4, 0) :: []) ∧
    (let s := working (.segRead 0 0) .unissued none up
     s.hme.reissue = [] ∧ s.hme.ops = [] ++ opOf (.segRead 0 0) .unissued none :: [] ∧ s.hme.lastClient + 1 + (OpUse.segRead 0 0).client = (OpUse.segRead 0 0).client ∧
     (opOf (.segRead 0 0) .unissued none).bursts = [] ++ burstAt 16 .unissued :: []) ∧
    (∀ o ∈ up.hme.ops, ∀ b ∈ o.bursts, b.state ≠ .unissued) ∧
    (∀ re ∈ [true, false], ∀ use ∈ [OpUse.segRead 0 0, .completion], let s := working use (.issued re 1000000) none up
     s.hme.burst (outName re) = some (opOf use (.issued re 1000000) none, burstAt 16 (.issued re 1000000)) ∧ (s.hme.ops.map (·.id)).Nodup ∧ 1000000 ≤ s.now ∧
     s.start.state ≠ .resetting ∧ s.hme.latch = none) ∧
    ((OpUse.segRead 0 0).isRead = true ∧ OpUse.completion.isRead = false ∧ up.now < 1000001 ∧ (burstAt 16 .unissued).len = (List.replicate 16 (0 : Byte)).length) ∧
    (∀ d, (burstAt 16 .awaiting).state ≠ .issued true d) ∧ (upAs .resetting).start.state = .resetting := by
  refine ⟨by decide +kernel, by decide +kernel, by decide +kernel, by decide +kernel, by decide +kernel, ?_, by decide +kernel⟩
  intro d h
  cases h

/-! ## Single steps on small states -/

theorem test_imageLoad_enters_ready : shows (.imageLoad none) State.reset (fun t => t.start.state == .loadFailed && t.start.loadFault == some .flash) = true := by decide +kernel
theorem test_run_starts_rings : shows (.run 1) (upAs .ready) (fun t => t.running && t.rings.comp.state == .active && t.regions.probe == some 1500000) = true := by decide +kernel
theorem test_run_reports_size : shows (.run 1) ((upAs .ready).withRings { up.rings with mgmt := { up.rings.mgmt with size := 8 } })
    (fun t => t.start.state == .ready && t.start.startFault == some (.management, .badSize)) = true := by decide +kernel
theorem test_coldReset : shows .coldReset up (fun t => t == (State.reset.withNow up.now).withWan { Wan.reset with carrier := true }) = true := by decide +kernel
theorem test_functionReset_drain : shows (.functionReset 2) up (fun t => t.start.state == .resetting) = true ∧
    shows .drainEnd (upAs .resetting) (fun t => t.start.state == .ready && t.rings == Rings.reset && (t.region 2).state == .dark) = true := by decide +kernel
theorem test_registerWrite_size : shows (.registerWrite 10 128) (upAs .ready) (fun t => t.rings.data.size == 128) = true := by decide +kernel
theorem test_producer_bad_index : shows (.producerIndexWrite .data 64) up (fun t => t.rings.data.state == .faulted && t.rings.data.reason == some .badIndex && t.irq.sent == 1) = true := by
  decide +kernel
theorem test_ringFetch_reads_64 : shows (.ringFetch .data) (offered .data)
    (fun t => t.hme.ops == [{ id := 0, use := .fetch .data, bursts := [{ addr := 4096, len := 64, bytes := [], state := .unissued }], failure := none }]) = true := by decide +kernel
theorem test_requestTake_unknown_kind : shows (.requestTake .data) (working (.fetch .data) (.done (0xFF :: List.replicate 63 0)) none (offered .data))
    (fun t => t.rings.data.cons == 1 && t.backlog.entries.length == 1) = true := by decide +kernel
theorem test_publish_hit_reads_table : shows (.publish .data { tag := 1, key := key1, seq := 6, contentTag := 7, size := 3, extentCount := 1, table := 4096 }) (cached aPlacement up)
    (fun t => t.bmc.recent == some 5 && t.reqs.pubs.length == 1 && t.hme.ops.length == 1) = true := by decide +kernel
theorem test_publish_miss_parks : shows (.publish .data { tag := 1, key := key1, seq := 6, contentTag := 7, size := 0, extentCount := 0, table := 0 }) up
    (fun t => (vget t.bmc.hold 0).isSome && t.backlog.entries.length == 1 && t.backlog.reservations == 1) = true := by decide +kernel
theorem test_delete_ready : shows (.delete .data { tag := 1, key := key1, seq := 6, contentTag := 7 }) (cached aPlacement up) (fun t => t.reqs.pubs.length == 1) = true := by decide +kernel
theorem test_apply_opens_record : shows (.tableControllerApply 9) (readyPub aPlacement)
    (fun t => (t.table.find key1).any (fun r => r.state == .opened && r.role == .localRole) && vget t.sched.work 2 == [key1] && vget t.sched.work 1 == []) = true := by decide +kernel
theorem test_apply_stale : shows (.tableControllerApply 9) (keeping [{ localRec with version := { seq := 6, origin := 1 } }] (readyPub aPlacement))
    (fun t => t.backlog.entries.length == 1 && t.reqs.pubs == []) = true := by decide +kernel
theorem test_apply_set_full : shows (.tableControllerApply 9) (fullSet true (readyPub aPlacement)) (fun t => t.table == (fullSet true up).table) = true := by decide +kernel
def loadReq : BucketLoadReq :=
  { tag := 1, tenant := 7, bucket := 0x1234, template := 7, home := 1, allowFirst := 0, allowLast := 4, isGlobal := false, readOnly := false, maxSize := 4096 }
theorem test_bucketLoad_position : shows (.bucketLoad .management loadReq) up
    (fun t => vget t.bmc.entries 0 == some { tenant := 7, bucket := 0x1234, isGlobal := false, placement := aPlacement }) = true := by decide +kernel
theorem test_bucketDeny : shows (.bucketDeny .management 1 7 0x1234) (parkedAt 2 false (.good []) up) (fun t => vget t.bmc.hold 2 == none && t.backlog.entries.length == 2) = true := by
  decide +kernel
theorem test_bucketFlush_all : shows (.bucketFlush .management 1 1 0 0) filledCache (fun t => t.bmc.entries == up.bmc.entries) = true := by decide +kernel
theorem test_miss_deadline : shows (.missDeadlineExpiry 2) (parkedAt 2 false (.good []) up) (fun t => vget t.bmc.hold 2 == none) = true := by decide +kernel
theorem test_grant_offers : shows .grant (queued 2 [key1] (keeping [localWith .pending none] up))
    (fun t => (t.ctx 0).isOut && t.wan.queue.length == 1 && t.sched.lastServed == 2 && vget t.sched.work 2 == []) = true := by decide +kernel
theorem test_reply_accepted_sends : shows (.replyAccepted 2 key1 { seq := 5, origin := 1 } 1) (sending .offering (outOf .offering))
    (fun t => (t.ctx 0).out?.any fun o => o.state == .sending && o.next == 1 && o.acked == 1) = true := by decide +kernel
theorem test_reply_busy_backs_off : shows (.replyBusy 2 key1 { seq := 5, origin := 1 }) (sending .offering (outOf .offering))
    (fun t => t.ctx 0 == .free && (t.region 2).backoff == some 2000000 && vget t.sched.work 2 == [key1]) = true := by decide +kernel
theorem test_reply_have_settles : shows (.replyHave 2 key1 { seq := 5, origin := 1 }) (sending .sending (outOf .sending))
    (fun t => (t.table.find key1).any fun r => r.state == .settled && r.outcome == some .converged && r.linger == some 31000000) = true := by decide +kernel
theorem test_reply_declined_fails : shows (.replyDeclined 2 key1 { seq := 5, origin := 1 }) (sending .offering (outOf .offering))
    (fun t => (t.table.find key1).any fun r => (vget r.slots 2).state == .failed && (vget r.slots 2).reason == some .declined) = true := by decide +kernel
theorem test_segmentRead_issue : shows (.segmentReadIssue 0) (sending .sending (outOf .sending))
    (fun t => t.hme.ops.length == 1 && (t.ctx 0).out?.any fun o => o.next == 1 && o.readSeg == 1) = true := by decide +kernel
theorem test_ack_confirms : shows (.ack 2 key1 { seq := 5, origin := 1 } 2) (sending .sending { outOf .sending with next := 2 })
    (fun t => t.ctx 0 == .free && (vget t.sched.confirm 2).map (·.key) == [key1]) = true := by decide +kernel
theorem test_reply_timer_retries : shows (.replyTimerExpiry 0) (sending .offering (outOf .offering))
    (fun t => t.wan.queue.length == 1 && (t.table.find key1).any fun r => (vget r.slots 2).retries == 1) = true := by decide +kernel
theorem test_stall_timer_goes_back : shows (.stallTimerExpiry 0) (sending .sending { outOf .sending with next := 2, acked := 1 })
    (fun t => (t.ctx 0).out?.any fun o => o.next == 1 && o.readChunk == 1 && o.timer == none) = true := by decide +kernel
theorem test_confirm_committed : shows (.confirmCommitted 2 key1 { seq := 5, origin := 1 }) (confirming 1000000)
    (fun t => (t.table.find key1).any (fun r => r.state == .settled) && vget t.sched.confirm 2 == []) = true := by decide +kernel
theorem test_confirm_deadline : shows (.confirmDeadlineExpiry 2) (confirming 1000000) (fun t => vget t.sched.work 2 == [key1]) = true := by decide +kernel
theorem test_offer_binds : shows (.offer 2 (offerOf 5 0 300000)) up
    (fun t => (t.ctx 0).isIn && (t.table.find key1).any (fun r => r.state == .offered) && t.backlog.entries.length == 2 && t.wan.queue.length == 1) = true := by decide +kernel
theorem test_offer_tombstone_lands : shows (.offer 2 (offerOf 5 1 0)) up (fun t => (t.table.find key1).any (fun r => r.state == .landed) && t.backlog.entries.length == 3) = true := by
  decide +kernel
theorem test_accept_empty_lands : shows (.accept .data (acceptOf 0)) (offeredState 0) (fun t => (t.table.find key1).any (fun r => r.state == .landed) && t.ctx 0 == .free) = true := by
  decide +kernel
theorem test_decline_have : shows (.decline .data 1 key1 { seq := 5, origin := 2 } 1) (offeredState 3)
    (fun t => (t.table.find key1).any (fun r => r.outcome == some .committed) && t.ctx 0 == .free) = true := by decide +kernel
theorem test_segment_takes_chunk : shows (.segment 2 (segmentOf (crc32c [9, 9, 9]))) (smallState [])
    (fun t => t.inbound.fifo == [staged none] && (t.ctx 0).in?.any fun i => i.expected == 1 && i.timer == none) = true := by decide +kernel
theorem test_segment_bad_chunk_check : shows (.segment 2 (segmentOf 5)) (smallState []) (fun t => t.inbound.fifo == [] && (t.ctx 0).in?.any fun i => i.expected == 0) = true := by
  decide +kernel
theorem test_last_write_lands : shows (.segmentWriteDone 4) (setCtx 0 (.inb { smallIn 0 with expected := 1 }) (working (.segWrite 0) (.done []) none (smallState [staged (some 4)])))
    (fun t => (t.table.find key1).any (fun r => r.state == .landed) && t.ctx 0 == .free && t.wan.queue.length == 1) = true := by decide +kernel
theorem test_withdraw_cancels : shows (.withdraw 2 key1 { seq := 5, origin := 2 }) (receiving .receiving (inOf .receiving))
    (fun t => (t.table.find key1).any (fun r => r.state == .waiting) && t.ctx 0 == .free) = true := by decide +kernel
theorem test_hold_stops_sending : shows (.hold 2 10) up (fun t => t.sendable 2 == false && (t.region 2).held == some 1010000) = true := by decide +kernel
theorem test_probe_expiry_counts : shows .probeTimerExpiry (up.withNow 1500000) (fun t => t.wan.queue.length == 4 && (t.region 2).miss == 1 && t.regions.probe == some 2000000) = true := by
  decide +kernel
theorem test_pace_window_end : shows (.paceWindowEnd 2) (entryOf 2 fun e => { e with mode := .single, run := true, remaining := 0 })
    (fun t => (t.region 2).phase == .b && (t.region 2).run == false && (t.region 2).windowEnd) = true := by decide +kernel
theorem test_regionSet_suspends : shows (.regionSet .management (setReq fun q => { q with applyEnable := true })) (sending .sending (outOf .sending))
    (fun t => (t.region 2).state == .suspended && t.ctx 0 == .free && vget t.sched.work 2 == [key1]) = true := by decide +kernel
theorem test_completion_hand : shows .completionEntryHand (backlogOf [{ body := aBody, write := .waiting }] up) (fun t => t.rings.writePos == 1 && t.hme.ops.length == 1) = true := by
  decide +kernel
theorem test_completion_done_interrupts : shows (.completionWriteDone 4) (working .completion (.done []) none (backlogOf [{ body := aBody, write := .writing 4 }] up))
    (fun t => t.backlog.entries == [] && t.rings.comp.prod == 1 && t.irq.sent == 1) = true := by decide +kernel
theorem test_burst_timeout_reissues : shows (.burstTimeout (outName false)) (working .completion (.issued false 1000000) none up) (fun t => t.hme.reissue == [(4, 0)]) = true ∧
    shows (.burstTimeout (outName true)) (working .completion (.issued true 1000000) none up)
      (fun t => t.hme.latch == some { client := OpUse.completion.client, kind := .timeout, addr := 0x100000, multiple := false } && t.irq.sent == 1) = true := by decide +kernel
theorem test_tick_counts_pace : (match step ((entryOf 2 fun e => { e with mode := .alternate, run := true }).withNow 999) with
    | .next t => t.now == 1000 && (t.region 2).remaining == 999
    | _ => false) = true := by decide +kernel
theorem test_stale_lists_no_state : byteAt ((EntryBody.completion { ring := .data, tag := 1, kind := 1, status := .stale, body := .version { seq := 5, origin := 1 } }).bytes true) 15 = 0 ∧
    byteAt ((EntryBody.completion { ring := .data, tag := 1, kind := 1, status := .ok, body := .versionState { seq := 5, origin := 1 } .landed }).bytes true) 15 ≠ 0 := by decide +kernel
theorem test_register_reads : readRegister 33 State.reset = 0 ∧ readRegister 33 up = 1 ∧ readRegister 10 up = 64 ∧
    readRegister 36 latched = 0x00030303 ∧ readRegister 38 latched = 0x3456789A ∧ readRegister 39 latched = 0x12 := by decide +kernel
theorem test_core_runs_the_queue : Sys2Proof.core.step (State.reset.withPending [.carrierReturn]) = .next (State.reset.withWan { Wan.reset with carrier := true }) := rfl

end Sys2Proof.Tests
end

section
/-! PROOFS. Bucket Map Cache, R40: what BUCKET.FLUSH removes, and with what it completes. -/

namespace Sys2Proof.Machine

/-! ## Vectors -/

@[simp] theorem vget_map {α β : Type} {n : Nat} (f : α → β) (v : Vector α n) (i : Fin n) : vget (v.map f) i = f (vget v i) :=
  Vector.getElem_map f i.isLt

theorem toList_eq_map_vget {α : Type} {n : Nat} (v : Vector α n) : v.toList = (List.finRange n).map (vget v) :=
  List.ext_getElem (by simp) fun i _ _ => by simp [vget]

/-- As many elements of a vector pass a test as there are indices whose elements pass it. -/
theorem length_filter_toList {α : Type} {n : Nat} (v : Vector α n) (p : α → Bool) :
    (v.toList.filter p).length = ((List.finRange n).filter fun i => p (vget v i)).length := by
  rw [toList_eq_map_vget, List.filter_map, List.length_map]
  rfl

/-! ## A request taken and completed in one claim (R182, R185) -/

/-- The completion of a request in the claim that takes it: the reservation of the take becomes the entry. -/
theorem complete_reserve (ring : ReqRing) (tag : Word) (kind : Nat) (status : Status) (body : CompBody) (s : State) :
    complete ring tag (BitVec.ofNat 8 kind) status body (reserve s) = s.answered ring tag kind status body := rfl

theorem taking_of_takeOk {ring : ReqRing} {s : State} (h : s.takeOk ring = true) (work : State → State) : taking ring work s = work (reserve s) :=
  if_pos h

/-- R183: on the Management Ring a management kind is done. -/
theorem managed_management (tag : Word) (kind : ReqKind) (work : State → State) (s : State) : managed .management tag kind work s = work s := rfl

/-- A claim that changes the cache and places a completion changes nothing else. -/
theorem keepsAllBut_answered_withBmc (ring : ReqRing) (tag : Word) (kind : Nat) (status : Status) (body : CompBody) (b : Bmc) (s : State) :
    KeepsAllBut [.backlog, .cache] s ((s.withBmc b).answered ring tag kind status body) := by
  intro block untouched
  cases block
  case backlog => exact absurd (by simp) untouched
  case cache => exact absurd (by simp) untouched
  all_goals rfl

/-! ## The scopes (R40) -/

theorem flushes_iff (scope : Nat) (tenant : Byte) (bucket : BitVec 32) (e : BucketEntry) :
    flushes scope tenant bucket e = true ↔
      scope = 1 ∨ (scope = 2 ∧ e.tenant = tenant ∧ e.isGlobal = false) ∨ (scope = 3 ∧ e.tenant = tenant ∧ e.bucket = bucket) := by
  unfold flushes
  split
  case h_4 notAll notTenant notOne => simp [show scope ≠ 1 from notAll, show scope ≠ 2 from notTenant, show scope ≠ 3 from notOne]
  all_goals simp

theorem mem_scopes_iff (n : Nat) : n ∈ [1, 2, 3] ↔ ¬ (n < 1 ∨ 3 < n) := by
  simp only [List.mem_cons, List.not_mem_nil, or_false]
  omega

/-! ## The cache after a flush (R40) -/

/-- The positions whose entries a flush removes. -/
def Bmc.flushedAt (b : Bmc) (p : BucketEntry → Bool) : List (Fin 32) := (List.finRange 32).filter fun i => (vget b.entries i).any p

theorem Bmc.flushedAt_nodup (b : Bmc) (p : BucketEntry → Bool) : (b.flushedAt p).Nodup := (List.nodup_finRange 32).filter _

theorem Bmc.mem_flushedAt {b : Bmc} {p : BucketEntry → Bool} {i : Fin 32} : i ∈ b.flushedAt p ↔ (vget b.entries i).any p = true := by
  simp [flushedAt]

theorem Bmc.mem_flushedAt_iff_exists {b : Bmc} {p : BucketEntry → Bool} {i : Fin 32} :
    i ∈ b.flushedAt p ↔ ∃ e, vget b.entries i = some e ∧ p e = true := by
  rw [mem_flushedAt, Option.any_eq_true]

@[simp] theorem Bmc.flush_pointer (b : Bmc) (p : BucketEntry → Bool) : (b.flush p).pointer = b.pointer := rfl

@[simp] theorem Bmc.flush_hold (b : Bmc) (p : BucketEntry → Bool) : (b.flush p).hold = b.hold := rfl

theorem Bmc.flush_entry (b : Bmc) (p : BucketEntry → Bool) (i : Fin 32) :
    vget (b.flush p).entries i = if i ∈ b.flushedAt p then none else vget b.entries i := by
  simp only [flush, vget_map, mem_flushedAt]

theorem Bmc.flush_recent (b : Bmc) (p : BucketEntry → Bool) :
    (b.flush p).recent = b.recent.bind fun i => if i ∈ b.flushedAt p then none else some i := by
  simp only [flush, mem_flushedAt]

/-! ## BUCKET.FLUSH (R40) -/

theorem exec_bucketFlush (ring : ReqRing) (tag : Word) (scope tenant : Byte) (bucket : BitVec 32) (s : State) :
    exec (.bucketFlush ring tag scope tenant bucket) s = .next (taking ring (takeBucketFlush ring tag scope tenant bucket) s) := rfl

/-- R40: a scope that is none of the three completes MALFORMED, and that is all. -/
theorem exec_bucketFlush_of_bad_scope {ring : ReqRing} {s : State} (ok : s.takeOk ring = true) {scope : Byte} (bad : scope.toNat ∉ [1, 2, 3])
    (tag : Word) (tenant : Byte) (bucket : BitVec 32) :
    exec (.bucketFlush ring tag scope tenant bucket) s = .next (s.answered ring tag 0x24 .malformed (.malformed 0x24 .scope)) := by
  rw [mem_scopes_iff, not_not] at bad
  rw [exec_bucketFlush, taking_of_takeOk ok, takeBucketFlush, if_pos bad, malformed]
  exact congrArg _ (complete_reserve ring tag 0x24 .malformed _ s)

/-- R40: a scope of the three flushes the cache and completes OK with the number of positions freed. -/
theorem exec_bucketFlush_of_scope {s : State} (ok : s.takeOk .management = true) {scope : Byte} (good : scope.toNat ∈ [1, 2, 3])
    (tag : Word) (tenant : Byte) (bucket : BitVec 32) :
    let gone := flushes scope.toNat tenant bucket
    exec (.bucketFlush .management tag scope tenant bucket) s =
      .next ((s.withBmc (s.bmc.flush gone)).answered .management tag 0x24 .ok (.count (s.bmc.flushedAt gone).length)) := by
  intro gone
  rw [mem_scopes_iff] at good
  rw [exec_bucketFlush, taking_of_takeOk ok, takeBucketFlush, if_neg good, managed_management, Bmc.flushedAt, ← length_filter_toList]
  exact congrArg _ (complete_reserve .management tag 0x24 .ok _ (s.withBmc (s.bmc.flush gone)))

/-- Settles O28: the positions removed are those of `Bmc.flushedAt`, and the entries and the mark follow from `Bmc.flush_entry` and `Bmc.flush_recent`. -/
theorem bucketFlushRemovesItsScope : Obligations.BucketFlushRemovesItsScope := by
  intro tag scope tenant bucket s ok goes
  refine ⟨fun bad => exec_bucketFlush_of_bad_scope ok bad tag tenant bucket, fun good => ?_⟩
  let gone := flushes scope.toNat tenant bucket
  refine ⟨_, s.bmc.flushedAt gone, exec_bucketFlush_of_scope ok good tag tenant bucket, keepsAllBut_answered_withBmc _ _ _ _ _ _ s, rfl, rfl, rfl,
    s.bmc.flushedAt_nodup gone, fun i => ?scope, fun i removed => ?freed, fun i stays => ?kept, fun i mark removed => ?cleared,
    fun i mark stays => ?marked, fun noMark => ?unmarked⟩
  case scope => simp only [Bmc.mem_flushedAt_iff_exists, gone, flushes_iff, goes]
  case freed => exact (s.bmc.flush_entry gone i).trans (if_pos removed)
  case kept => exact (s.bmc.flush_entry gone i).trans (if_neg stays)
  case cleared => exact (s.bmc.flush_recent gone).trans (by simp [mark, removed])
  case marked => exact (s.bmc.flush_recent gone).trans (by simp [mark, stays])
  case unmarked => exact (s.bmc.flush_recent gone).trans (by simp [noMark])

end Sys2Proof.Machine
end

section
/-! PROOFS. Outbound transfers, R96 and R2: how an object is cut into chunks and a chunk into segments. -/

namespace Sys2Proof.Machine

/-! ## The chunks of an object (R2, R96) -/

theorem chunkCount_eq (size : Nat) : chunkCount size = (size + 262143) / 262144 := rfl

/-- The chunks of an object are as few as can hold it. -/
theorem chunkCount_le_iff {size n : Nat} : chunkCount size ≤ n ↔ size ≤ 262144 * n := by
  rw [chunkCount_eq]
  omega

/-- A chunk is one of the object's when it begins inside the object. -/
theorem lt_chunkCount_iff {size chunk : Nat} : chunk < chunkCount size ↔ 262144 * chunk < size := by
  rw [← not_le, chunkCount_le_iff, not_le]

theorem chunkLength_of_not_last {size chunk : Nat} (h : chunk + 1 < chunkCount size) : chunkLength size chunk = 262144 :=
  if_pos h

theorem chunkLength_of_last {size chunk : Nat} (h : chunk + 1 = chunkCount size) :
    chunkLength size chunk = size - 262144 * (chunkCount size - 1) :=
  if_neg h.not_lt

theorem chunkLength_eq_ite {size chunk : Nat} (h : chunk < chunkCount size) :
    chunkLength size chunk = if chunk + 1 = chunkCount size then size - 262144 * (chunkCount size - 1) else 262144 := by
  split
  case isTrue last => exact chunkLength_of_last last
  case isFalse notLast => exact chunkLength_of_not_last (lt_of_le_of_ne h notLast)

/-- A chunk is as long as a full chunk, or as what is left of the object from where it begins. -/
theorem chunkLength_eq_min {size chunk : Nat} (h : chunk < chunkCount size) :
    chunkLength size chunk = min 262144 (size - 262144 * chunk) := by
  rcases Nat.lt_or_eq_of_le (Nat.succ_le_of_lt h) with notLast | last
  · have nextBegins : 262144 * (chunk + 1) < size := lt_chunkCount_iff.mp notLast
    rw [chunkLength_of_not_last notLast]
    omega
  · have covered : size ≤ 262144 * (chunk + 1) := chunkCount_le_iff.mp last.ge
    rw [chunkLength_of_last last, ← last]
    omega

theorem chunkLength_pos {size chunk : Nat} (h : chunk < chunkCount size) : 0 < chunkLength size chunk := by
  have begins : 262144 * chunk < size := lt_chunkCount_iff.mp h
  rw [chunkLength_eq_min h]
  omega

theorem chunkLength_le {size chunk : Nat} (h : chunk < chunkCount size) : chunkLength size chunk ≤ 262144 :=
  (chunkLength_eq_min h).trans_le (Nat.min_le_left ..)

/-! ## The segments of a chunk (R96) -/

section Segments

variable {size chunk seg n : Nat}

theorem segmentCount_eq (size chunk : Nat) : segmentCount size chunk = (chunkLength size chunk + 8191) / 8192 := rfl

/-- The segments of a chunk are as few as can hold it. -/
theorem segmentCount_le_iff : segmentCount size chunk ≤ n ↔ chunkLength size chunk ≤ 8192 * n := by
  rw [segmentCount_eq]
  omega

/-- A segment is one of the chunk's when it begins inside the chunk. -/
theorem lt_segmentCount_iff : seg < segmentCount size chunk ↔ 8192 * seg < chunkLength size chunk := by
  rw [← not_le, segmentCount_le_iff, not_le]

theorem segmentOffset_eq (chunk seg : Nat) : segmentOffset chunk seg = 262144 * chunk + 8192 * seg := rfl

theorem segmentLength_of_not_last (h : seg + 1 < segmentCount size chunk) : segmentLength size chunk seg = 8192 :=
  if_pos h

theorem segmentLength_of_last (h : seg + 1 = segmentCount size chunk) :
    segmentLength size chunk seg = chunkLength size chunk - 8192 * seg := by
  rw [segmentLength, if_neg h.not_lt, ← h]
  rfl

/-- A segment is as long as a full segment, or as what is left of the chunk from where it begins. -/
theorem segmentLength_eq_min (h : seg < segmentCount size chunk) :
    segmentLength size chunk seg = min 8192 (chunkLength size chunk - 8192 * seg) := by
  rcases Nat.lt_or_eq_of_le (Nat.succ_le_of_lt h) with notLast | last
  · have nextBegins : 8192 * (seg + 1) < chunkLength size chunk := lt_segmentCount_iff.mp notLast
    rw [segmentLength_of_not_last notLast]
    omega
  · have covered : chunkLength size chunk ≤ 8192 * (seg + 1) := segmentCount_le_iff.mp last.ge
    rw [segmentLength_of_last last]
    omega

theorem segmentLength_pos (h : seg < segmentCount size chunk) : 0 < segmentLength size chunk seg := by
  have begins : 8192 * seg < chunkLength size chunk := lt_segmentCount_iff.mp h
  rw [segmentLength_eq_min h]
  omega

theorem segmentLength_le (h : seg < segmentCount size chunk) : segmentLength size chunk seg ≤ 8192 :=
  (segmentLength_eq_min h).trans_le (Nat.min_le_left ..)

theorem segmentCount_pos (h : chunk < chunkCount size) : 0 < segmentCount size chunk :=
  lt_segmentCount_iff.mpr (chunkLength_pos h)

theorem segmentCount_le (h : chunk < chunkCount size) : segmentCount size chunk ≤ 32 :=
  segmentCount_le_iff.mpr (chunkLength_le h)

theorem segmentCount_of_full (full : chunkLength size chunk = 262144) : segmentCount size chunk = 32 := by
  rw [segmentCount_eq, full]

/-- Every segment of a full chunk is full, the last one too. -/
theorem segmentLength_of_full (full : chunkLength size chunk = 262144) (h : seg < 32) : segmentLength size chunk seg = 8192 := by
  rw [segmentLength_eq_min (h.trans_eq (segmentCount_of_full full).symm), full]
  omega

end Segments

/-- Settles O39: a chunk of the object is of 1 to 262,144 bytes, so it has 1 to 32 segments, and its last one is segment `segmentCount - 1`. -/
theorem objectsAreCutIntoChunksAndSegments : Obligations.ObjectsAreCutIntoChunksAndSegments := by
  refine ⟨fun size chunk h => ?_, chunkCount_eq, rfl, rfl, rfl, rfl⟩
  have atLeastOne : 0 < segmentCount size chunk := segmentCount_pos h
  have last : segmentCount size chunk - 1 + 1 = segmentCount size chunk := Nat.sub_add_cancel atLeastOne
  have isSegment : segmentCount size chunk - 1 < segmentCount size chunk := Nat.pred_lt_of_lt atLeastOne
  exact ⟨chunkLength_eq_ite h, segmentCount_eq size chunk, atLeastOne, segmentCount_le h, segmentOffset_eq chunk,
    fun _ => segmentLength_of_not_last, segmentLength_of_last last, segmentLength_pos isSegment, segmentLength_le isSegment,
    fun full => ⟨segmentCount_of_full full, fun _ => segmentLength_of_full full⟩⟩

end Sys2Proof.Machine
end

section
/-! PROOFS. Settings, R197: which values SETTINGS.GET carries. -/

namespace Sys2Proof.Machine

/-! ## The values a SETTINGS.GET carries (R197) -/

/-- The values in force from setting `first` on, up to five of them. -/
def State.settingsFrom (s : State) (first : Nat) : List Word := (s.settings.toList.drop first).take 5

theorem State.length_settingsFrom (s : State) (first : Nat) : (s.settingsFrom first).length = min 5 (14 - first) := by
  simp [settingsFrom]

theorem State.settingsFrom_getElem? (s : State) {first j : Nat} {i : Fin 14} (place : i.val = first + j) (carried : j < 5) :
    (s.settingsFrom first)[j]? = some (vget s.settings i) := by
  rw [settingsFrom, List.getElem?_take_of_lt carried, List.getElem?_drop, ← place, Vector.getElem?_toList]
  exact Vector.getElem?_eq_getElem i.isLt

/-- R197: the number carried is 5 up to the first number 9, and above it what is left up to setting 13. -/
theorem min_five_eq_ite (first : Nat) : min 5 (14 - first) = if first ≤ 9 then 5 else 14 - first := by
  split <;> omega

/-! ## SETTINGS.GET (R197) -/

theorem exec_settingsGet (ring : ReqRing) (tag : Word) (first : Byte) (s : State) :
    exec (.settingsGet ring tag first) s = .next (taking ring (takeSettingsGet ring tag first) s) := rfl

/-- R197: with a first number of a setting the request completes OK with the values, and that is all. -/
theorem exec_settingsGet_of_le {ring : ReqRing} {s : State} (ok : s.takeOk ring = true) {first : Byte} (isSetting : first.toNat ≤ 13) (tag : Word) :
    exec (.settingsGet ring tag first) s = .next (s.answered ring tag 0x10 .ok (.values first.toNat (s.settingsFrom first.toNat))) := by
  rw [exec_settingsGet, taking_of_takeOk ok, takeSettingsGet, if_neg isSetting.not_gt]
  exact congrArg _ (complete_reserve ring tag 0x10 .ok _ s)

/-- The first numbers 0, 5 and 10 cut the fourteen settings into three reads: 0 to 4, 5 to 9 and 10 to 13. -/
theorem exists_read_of_setting (i : Fin 14) :
    ∃ first, first ∈ [0, 5, 10] ∧ first ≤ i.val ∧ i.val < first + if first ≤ 9 then 5 else 14 - first := by
  rcases Nat.lt_or_ge i.val 5 with low | notLow
  · exact ⟨0, by simp, Nat.zero_le _, by simpa using low⟩
  rcases Nat.lt_or_ge i.val 10 with middle | high
  · exact ⟨5, by simp, notLow, by simpa using middle⟩
  · exact ⟨10, by simp, high, by simp⟩

/-- Settles O25: the values are those of `State.settingsFrom`, whose length and elements are known for every first number. -/
theorem settingsGetReadsUpToFive : Obligations.SettingsGetReadsUpToFive := by
  refine ⟨fun ring tag first s ok isSetting => ?_, exists_read_of_setting⟩
  refine ⟨s.settingsFrom first.toNat, exec_settingsGet_of_le ok isSetting tag, ?count, fun j i place carried => ?value⟩
  case count => rw [s.length_settingsFrom, min_five_eq_ite]
  case value =>
    rw [s.length_settingsFrom] at carried
    exact s.settingsFrom_getElem? place (carried.trans_le (Nat.min_le_left ..))

end Sys2Proof.Machine
end

section
/-! PROOFS. What one step may do to the invariants, said once: `Keeps a b s t`, and the shared operations that keep it. -/

namespace Sys2Proof.Machine

/-! ## The relation -/

/-- R185: the Backlog is bounded, and `loose` reservations stand besides those of the requests in flight: the reservations of requests that the claim at hand has taken and not yet
completed. -/
def BacklogRoom (loose : Nat) (s : State) : Prop :=
  s.inFlight + loose ≤ s.backlog.reservations ∧ s.backlog.reservations ≤ 48 ∧ s.backlog.entries.length + s.backlog.reservations ≤ 64

/-- What a part of a claim that leads from `s` to `t` does to the invariants: it keeps each of them, and turns `a` loose reservations into `b`. -/
structure Keeps (a b : Nat) (s t : State) : Prop where
  queue : ControlQueueBounded s → ControlQueueBounded t
  staging : StagingBounded s → StagingBounded t
  irq : InterruptLegal s → InterruptLegal t
  numbers : NumbersFresh s → NumbersFresh t
  loads : LoadsFresh s → LoadsFresh t
  contexts : ContextsBounded s → ContextsBounded t
  table : TableLegal s → TableLegal t
  regions : RegionsLegal s → RegionsLegal t
  room : BacklogRoom a s → BacklogRoom b t

namespace Keeps

variable {a b c : Nat} {s t u : State}

theorem refl (s : State) : Keeps a a s s := ⟨id, id, id, id, id, id, id, id, id⟩

theorem trans (h : Keeps a b s t) (k : Keeps b c t u) : Keeps a c s u :=
  ⟨k.queue ∘ h.queue, k.staging ∘ h.staging, k.irq ∘ h.irq, k.numbers ∘ h.numbers, k.loads ∘ h.loads, k.contexts ∘ h.contexts, k.table ∘ h.table,
    k.regions ∘ h.regions, k.room ∘ h.room⟩

/-- The same, for a chain that is read from its last action on. -/
theorem after (k : Keeps b c t u) (h : Keeps a b s t) : Keeps a c s u := h.trans k

/-- An action made for each element of a list keeps what each of its steps keeps. -/
theorem foldl {α : Type} {f : State → α → State} (h : ∀ t x, Keeps a a t (f t x)) (l : List α) (s : State) : Keeps a a s (l.foldl f s) := by
  induction l generalizing s with
  | nil => exact refl s
  | cons x rest ih => exact (h s x).trans (ih _)

/-! ## Updates of one field -/

theorem withNow (s : State) (v : Nat) : Keeps a a s (s.withNow v) := ⟨id, id, id, id, id, id, id, id, id⟩

theorem withSettings (s : State) (v : Vector Word 14) : Keeps a a s (s.withSettings v) := ⟨id, id, id, id, id, id, id, id, id⟩

theorem withRings (s : State) (v : Rings) : Keeps a a s (s.withRings v) := ⟨id, id, id, id, id, id, id, id, id⟩

theorem withSched (s : State) (v : Sched) : Keeps a a s (s.withSched v) := ⟨id, id, id, id, id, id, id, id, id⟩

theorem withHme (s : State) (v : Hme) : Keeps a a s (s.withHme v) := ⟨id, id, id, id, id, id, id, id, id⟩

theorem withPending (s : State) (v : List Instr) : Keeps a a s (s.withPending v) := ⟨id, id, id, id, id, id, id, id, id⟩

theorem withStart {v : StartUp} (image : v.image = s.start.image) : Keeps a a s (s.withStart v) := by
  refine ⟨id, id, id, id, id, id, id, fun h x => ?_, id⟩
  have hx := h x
  rw [← image] at hx
  exact hx

theorem withIrq {v : Irq} (trigger : v.trigger = s.irq.trigger) (coalesce : v.coalesce = s.irq.coalesce) : Keeps a a s (s.withIrq v) := by
  refine ⟨id, id, fun h => ?_, id, id, id, id, id, id⟩
  unfold InterruptLegal at h ⊢
  rw [← trigger, ← coalesce] at h
  exact h

theorem withWan {v : Wan} (queue : v.queue.length ≤ s.wan.queue.length ∨ v.queue.length ≤ 128) : Keeps a a s (s.withWan v) :=
  ⟨fun h => queue.elim (fun le => le.trans h) id, id, id, id, id, id, id, id, id⟩

theorem withInbound {v : Inbound} (fifo : v.fifo.length ≤ s.inbound.fifo.length ∨ v.fifo.length ≤ 64) : Keeps a a s (s.withInbound v) :=
  ⟨id, fun h => fifo.elim (fun le => le.trans h) id, id, id, id, id, id, id, id⟩

/-- A change of the table that leaves the record list alone, or changes records in place, or takes records away. -/
theorem withTable {v : Table} (keys : (v.records.map (·.key)).Sublist (s.table.records.map (·.key))) : Keeps a a s (s.withTable v) := by
  refine ⟨id, id, id, id, id, id, fun h => ⟨?_, fun n => ?_⟩, id, id⟩
  · have sorted := h.1
    rw [← Function.comp_def keyNumber Record.key, ← List.map_map] at sorted ⊢
    exact sorted.sublist (keys.map keyNumber)
  · have inSet : ∀ w : Table, (w.inSet n).length = ((w.records.map (·.key)).filter fun k => setOf k == n).length := fun w => by
      rw [List.filter_map, List.length_map]
      rfl
    refine le_trans ?_ (h.2 n)
    rw [inSet, inSet]
    exact (keys.filter _).length_le

/-- A change of the pool that binds no further context. -/
theorem withPool {v : Pool} (out : v.outCount ≤ s.pool.outCount ∨ v.outCount ≤ 48) (inb : v.inCount ≤ s.pool.inCount ∨ v.inCount ≤ 32) :
    Keeps a a s (s.withPool v) :=
  ⟨id, id, id, id, id, fun h => ⟨out.elim (fun le => le.trans h.1) id, inb.elim (fun le => le.trans h.2) id⟩, id, id, id⟩

/-- A change of the Backlog alone, given by what it does to the loose reservations. -/
theorem withBacklog {v : Backlog} (room : BacklogRoom a s → BacklogRoom b (s.withBacklog v)) : Keeps a b s (s.withBacklog v) :=
  ⟨id, id, id, id, id, id, id, id, room⟩

/-- A change of the Backlog that keeps the reservations and places no entry. -/
theorem withBacklog_of_le {v : Backlog} (entries : v.entries.length ≤ s.backlog.entries.length) (reservations : v.reservations = s.backlog.reservations) :
    Keeps a a s (s.withBacklog v) :=
  withBacklog fun ⟨flight, most, places⟩ =>
    ⟨flight.trans_eq reservations.symm, reservations.trans_le most, (Nat.add_le_add entries reservations.le).trans places⟩

theorem withReqs {v : Requests} (numbers : NumbersFresh s → NumbersFresh (s.withReqs v)) (loads : LoadsFresh s → LoadsFresh (s.withReqs v))
    (flight : (s.withReqs v).inFlight + b ≤ s.inFlight + a) : Keeps a b s (s.withReqs v) :=
  ⟨id, id, id, numbers, loads, id, id, id, fun ⟨held, most, places⟩ => ⟨by show _ ≤ s.backlog.reservations; omega, most, places⟩⟩

theorem withBmc {v : Bmc} (numbers : NumbersFresh s → NumbersFresh (s.withBmc v)) (flight : (s.withBmc v).inFlight + b ≤ s.inFlight + a) :
    Keeps a b s (s.withBmc v) :=
  ⟨id, id, id, numbers, id, id, id, id, fun ⟨held, most, places⟩ => ⟨by show _ ≤ s.backlog.reservations; omega, most, places⟩⟩

/-- A change of the cache that leaves the Miss Hold alone. -/
theorem withBmc_of_hold {v : Bmc} (hold : v.hold = s.bmc.hold) : Keeps a a s (s.withBmc v) := by
  refine withBmc (fun ⟨pubs, held, rest⟩ => ⟨pubs, fun n p h => held n p (by rw [← h]; exact congrArg (vget · n) hold.symm), rest⟩) ?_
  unfold State.inFlight
  simp only [State.withBmc_reqs, State.withBmc_bmc, hold, le_refl]

end Keeps

end Sys2Proof.Machine
end

section
/-! PROOFS. The shared operations keep the invariants: interrupt, rings, region entries, records, Backlog and notices, lists and slots. -/

namespace Sys2Proof.Machine

variable {a : Nat}

/-! ## Interrupt and rings -/

theorem raise_keeps (s : State) : Keeps a a s (raise s) := by
  unfold raise
  split
  · split
    · exact .withIrq rfl rfl
    · exact .withIrq rfl rfl
  · exact .refl s

theorem raiseEntries_keeps (s : State) : Keeps a a s (raiseEntries s) :=
  (raise_keeps _).after (.withIrq rfl rfl)

theorem modRing_keeps (n : RingName) (f : Ring → Ring) (s : State) : Keeps a a s (modRing n f s) := .withRings s _

theorem faultRing_keeps (n : RingName) (why : RingReason) (s : State) : Keeps a a s (faultRing n why s) := by
  unfold faultRing
  dsimp only
  split
  · exact .refl s
  · split
    · exact modRing_keeps ..
    · exact (modRing_keeps ..).trans (raise_keeps _)

/-! ## Region entries (R138) -/

/-- R138: the states of the regions that are neither the own one nor outside the deployment. -/
def RegionState.isOther (st : RegionState) : Prop := st = .suspended ∨ st = .dark ∨ st = .live

/-- A change of the Region Table that moves entries only among the states of the other regions. -/
theorem Keeps.withRegions {s : State} {v : RegionUnit}
    (moves : ∀ x, (vget v.entry x).state = (s.region x).state ∨ ((s.region x).state.isOther ∧ (vget v.entry x).state.isOther)) :
    Keeps a a s (s.withRegions v) := by
  refine ⟨id, id, id, id, id, id, id, fun h x => ?_, id⟩
  have hx := h x
  show match s.start.image with
    | none => (vget v.entry x).state = .absent
    | some im => if x.val = im.own.toNat ∧ x.val < im.n.toNat then (vget v.entry x).state = .own
      else if im.n.toNat ≤ x.val then (vget v.entry x).state = .absent else (vget v.entry x).state.isOther
  rcases moves x with same | ⟨was, isNow⟩
  · rw [same]
    exact hx
  · cases image : s.start.image with
    | none =>
      rw [image] at hx
      exact absurd was (by rw [show (s.region x).state = .absent from hx]; simp [RegionState.isOther])
    | some im =>
      rw [image] at hx
      dsimp only at hx ⊢
      split at hx
      · exact absurd was (by rw [hx]; simp [RegionState.isOther])
      · rename_i notOwn
        rw [if_neg notOwn]
        split at hx
        · exact absurd was (by rw [hx]; simp [RegionState.isOther])
        · rename_i inside
          rw [if_neg inside]
          exact isNow

theorem vget_vset {α : Type} {n : Nat} (v : Vector α n) (i j : Fin n) (x : α) : vget (vset v i x) j = if j = i then x else vget v j := by
  unfold vget vset
  by_cases h : j = i
  · subst h
    simp
  · rw [if_neg h]
    exact Vector.getElem_set_ne _ _ fun e => h (Fin.ext e.symm)

@[simp] theorem vget_vset_self {α : Type} {n : Nat} (v : Vector α n) (i : Fin n) (x : α) : vget (vset v i x) i = x := by
  rw [vget_vset, if_pos rfl]

theorem vget_vset_of_ne {α : Type} {n : Nat} (v : Vector α n) {i j : Fin n} (h : j ≠ i) (x : α) : vget (vset v i x) j = vget v j := by
  rw [vget_vset, if_neg h]

theorem region_modRegion (x y : Region) (f : RegionEntry → RegionEntry) (s : State) :
    (modRegion x f s).region y = if y = x then f (s.region x) else s.region y :=
  vget_vset ..

theorem modRegion_keeps {x : Region} {f : RegionEntry → RegionEntry} {s : State}
    (moves : (f (s.region x)).state = (s.region x).state ∨ ((s.region x).state.isOther ∧ (f (s.region x)).state.isOther)) :
    Keeps a a s (modRegion x f s) := by
  refine .withRegions fun y => ?_
  show ((modRegion x f s).region y).state = _ ∨ _ ∧ ((modRegion x f s).region y).state.isOther
  rw [region_modRegion]
  split
  · rename_i h
    subst h
    exact moves
  · exact .inl rfl

/-! ## Records (R1, R3, R4) -/

theorem modRec_keeps (k : Key) {f : Record → Record} (s : State) (key : ∀ r, (f r).key = r.key := by intro r; rfl) : Keeps a a s (modRec k f s) := by
  refine .withTable ?_
  rw [List.map_map]
  refine (List.map_congr_left fun r _ => ?_) ▸ List.Sublist.refl _
  rw [Function.comp_apply]
  split
  · exact (key r).symm
  · rfl

theorem modSlot_keeps (k : Key) (x : Region) (f : Slot → Slot) (s : State) : Keeps a a s (modSlot k x f s) :=
  modRec_keeps k s

theorem insertRecord_perm (r : Record) (l : List Record) : (insertRecord r l).Perm (r :: l) := by
  induction l with
  | nil => exact .refl _
  | cons q rest ih =>
    unfold insertRecord
    split
    · exact .refl _
    · exact (ih.cons q).trans (.swap r q rest)

theorem keyNumber_injective : Function.Injective keyNumber := by
  intro p q h
  unfold keyNumber at h
  have tenant := p.tenant.isLt
  have bucket := p.bucket.isLt
  have object := p.object.isLt
  have tenant' := q.tenant.isLt
  have bucket' := q.bucket.isLt
  have object' := q.object.isLt
  obtain ⟨tenant₁, bucket₁, object₁⟩ := p
  obtain ⟨tenant₂, bucket₂, object₂⟩ := q
  dsimp only at *
  simp only [Key.mk.injEq]
  refine ⟨BitVec.eq_of_toNat_eq ?_, BitVec.eq_of_toNat_eq ?_, BitVec.eq_of_toNat_eq ?_⟩ <;> omega

/-- A new key goes to its place in the rising list. -/
theorem insertRecord_sorted (r : Record) (l : List Record) (sorted : (l.map fun q => keyNumber q.key).Pairwise (· < ·))
    (new : ∀ q ∈ l, q.key ≠ r.key) : ((insertRecord r l).map fun q => keyNumber q.key).Pairwise (· < ·) := by
  induction l with
  | nil => simp [insertRecord]
  | cons q rest ih =>
    rw [List.map_cons, List.pairwise_cons] at sorted
    unfold insertRecord
    split
    · rename_i before
      rw [List.map_cons, List.map_cons, List.pairwise_cons, List.pairwise_cons]
      refine ⟨fun n hn => ?_, sorted⟩
      rcases List.mem_cons.mp hn with rfl | later
      · exact before
      · exact before.trans (sorted.1 n later)
    · rename_i notBefore
      rw [List.map_cons, List.pairwise_cons]
      refine ⟨fun n hn => ?_, ih sorted.2 fun p hp => new p (List.mem_cons_of_mem q hp)⟩
      have perm := (insertRecord_perm r rest).map fun p : Record => keyNumber p.key
      rw [perm.mem_iff, List.map_cons, List.mem_cons] at hn
      rcases hn with rfl | later
      · have differ : keyNumber q.key ≠ keyNumber r.key := keyNumber_injective.ne (new q List.mem_cons_self)
        omega
      · exact sorted.1 n later

theorem Table.find_eq_none_iff {t : Table} {k : Key} : t.find k = none ↔ ∀ r ∈ t.records, r.key ≠ k := by
  simp [Table.find]

theorem Table.find_some {t : Table} {k : Key} {r : Record} (h : t.find k = some r) : r ∈ t.records ∧ r.key = k :=
  ⟨List.mem_of_find?_eq_some h, by simpa using List.find?_some h⟩

/-- R4: a record is added to a set with a place left for it, as is known where the claim began. -/
theorem Keeps.addRec {b : Nat} {r : Record} {s t : State} (h : Keeps a b s t)
    (room : TableLegal s → t.table.find r.key = none → t.table.setHasPlace (setOf r.key) = true) : Keeps a b s (addRec r t) := by
  unfold Sys2Proof.Machine.addRec
  split
  · exact h
  · rename_i absent
    rw [Option.not_isSome_iff_eq_none] at absent
    refine { h with table := fun legal => ⟨?_, fun n => ?_⟩ }
    · exact insertRecord_sorted r _ (h.table legal).1 (Table.find_eq_none_iff.mp absent)
    · have grown := ((insertRecord_perm r t.table.records).filter fun q => setOf q.key == n).length_eq
      have count : ((insertRecord r t.table.records).filter fun q => setOf q.key == n).length ≤ 8 := by
        rw [grown, List.filter_cons]
        split
        · rename_i sameSet
          have free := room legal absent
          rw [eq_of_beq sameSet] at free
          exact of_decide_eq_true free
        · exact (h.table legal).2 n
      exact count

/-! ## Backlog and notices (R185, R187) -/

theorem place_keeps {bodies : List EntryBody} {s : State} (free : bodies.length ≤ s.backlog.free) : Keeps a a s (place bodies s) := by
  refine .withBacklog fun ⟨flight, most, places⟩ => ⟨flight, most, ?_⟩
  have added : (s.backlog.entries ++ bodies.map fun b => ({ body := b, write := .waiting } : BacklogEntry)).length = s.backlog.entries.length + bodies.length := by
    simp
  show (s.backlog.entries ++ bodies.map fun b => ({ body := b, write := .waiting } : BacklogEntry)).length + s.backlog.reservations ≤ 64
  have free' : bodies.length ≤ 64 - s.backlog.entries.length - s.backlog.reservations := free
  omega

theorem State.free_of_fits {s : State} {n : Nat} (h : s.fits n = true) : n ≤ s.backlog.free := by
  unfold State.fits at h
  simp only [Bool.and_eq_true, decide_eq_true_eq] at h
  exact h.2

theorem placeNotice_keeps {n : Notice} {s : State} (fits : s.fits n.length = true) : Keeps a a s (place n.bodies s) :=
  place_keeps (n.bodies_length.trans_le (State.free_of_fits fits))

/-- R185: a completion takes a place that a loose reservation holds. -/
theorem complete_keeps (ring : ReqRing) (tag : Word) (kind : Byte) (status : Status) (body : CompBody) (s : State) :
    Keeps (a + 1) a s (complete ring tag kind status body s) := by
  refine .withBacklog fun ⟨flight, most, places⟩ => ?_
  show s.inFlight + a ≤ s.backlog.reservations - 1 ∧ s.backlog.reservations - 1 ≤ 48 ∧
    (s.backlog.entries ++ [_]).length + (s.backlog.reservations - 1) ≤ 64
  rw [List.length_append, List.length_singleton]
  omega

theorem oweRecord_keeps (k : Key) (cancel : Option (Version × CancelReason)) (s : State) : Keeps a a s (oweRecord k cancel s) := by
  unfold oweRecord
  split
  · exact Keeps.after (.withBacklog_of_le le_rfl rfl) (modRec_keeps k s)
  · exact .refl s

theorem emitRecord_keeps (k : Key) (n : Notice) (s : State) : Keeps a a s (emitRecord k n s) := by
  unfold emitRecord
  split
  · rename_i fits
    exact placeNotice_keeps fits
  · exact oweRecord_keeps ..

theorem reportRegion_keeps (x : Region) (s : State) : Keeps a a s (reportRegion x s) := by
  unfold reportRegion
  dsimp only
  split
  · rename_i fits
    exact (place_keeps (State.free_of_fits fits)).trans (modRegion_keeps (.inl rfl))
  · exact modRegion_keeps (.inl rfl)

theorem reportPressure_keeps (s : State) : Keeps a a s (reportPressure s) := by
  unfold reportPressure
  split
  · rename_i fits
    exact (place_keeps (State.free_of_fits fits)).trans (.withTable (List.Sublist.refl _))
  · exact .withBacklog_of_le le_rfl rfl

theorem pressureCheck_keeps (s : State) : Keeps a a s (pressureCheck s) := by
  unfold pressureCheck
  dsimp only
  split
  · exact (reportPressure_keeps _).after (.withTable (List.Sublist.refl _))
  · split
    · exact (reportPressure_keeps _).after (.withTable (List.Sublist.refl _))
    · exact .refl s

/-! ## Lingering and retirement (R9 to R14) -/

theorem lingerJoin_keeps (k : Key) (deadline : Nat) (s : State) : Keeps a a s (lingerJoin k deadline s) := .withTable (List.Sublist.refl _)

theorem retire_keeps (k : Key) (s : State) : Keeps a a s (retire k s) := .withTable (List.filter_sublist.map _)

theorem retireIfDue_keeps (k : Key) (s : State) : Keeps a a s (retireIfDue k s) := by
  unfold retireIfDue
  split
  · split
    · exact retire_keeps k s
    · exact .refl s
  · exact .refl s

theorem settle_keeps (k : Key) (o : Settle) (s : State) : Keeps a a s (settle k o s) :=
  Keeps.after (modRec_keeps k _) (lingerJoin_keeps ..)

theorem settleTest_keeps (k : Key) (s : State) : Keeps a a s (settleTest k s) := by
  unfold settleTest
  split
  · split
    · exact (settle_keeps ..).trans ((emitRecord_keeps ..).trans (retireIfDue_keeps ..))
    · exact .refl s
  · exact .refl s

theorem makeRoom_keeps (n : Nat) (s : State) : Keeps a a s (makeRoom n s).1 := by
  unfold makeRoom
  split
  · exact .refl s
  · split
    · exact retire_keeps ..
    · exact .refl s

/-- R14: the eviction of a record of the set gives the set a free place. -/
theorem setHasPlace_makeRoom {n : Nat} {s : State} (legal : TableLegal s) (able : s.setAble n = true) : (makeRoom n s).1.table.setHasPlace n = true := by
  unfold makeRoom
  split
  · assumption
  · rename_i full
    cases evicted : s.evictable n with
    | none => simp [State.setAble, full, evicted] at able
    | some k =>
      have chosen := List.find?_some evicted
      rw [Bool.and_eq_true, beq_iff_eq, Option.any_eq_true] at chosen
      obtain ⟨inSet, r, found, -⟩ := chosen
      obtain ⟨mem, key⟩ := Table.find_some found
      have shrinks : ((s.table.inSet n).filter fun q => q.key != k).length < (s.table.inSet n).length := by
        refine List.length_filter_lt_length_iff_exists.mpr ⟨r, ?_, by simp [key]⟩
        exact List.mem_filter.mpr ⟨mem, by simp [key, inSet]⟩
      have rest : (retire k s).table.inSet n = (s.table.inSet n).filter fun q => q.key != k := by
        show ((s.table.records.filter _).filter _) = (s.table.records.filter _).filter _
        rw [List.filter_filter, List.filter_filter]
        exact List.filter_congr fun q _ => Bool.and_comm _ _
      show decide (((retire k s).table.inSet n).length < 8) = true
      rw [rest]
      exact decide_eq_true (shrinks.trans_le (legal.2 n))

/-! ## Lists and slots (R61 to R67) -/

theorem leaveLists_keeps (k : Key) (s : State) : Keeps a a s (leaveLists k s) := (Keeps.withSched s _).trans (.withTable (List.Sublist.refl _))

theorem slotTo_keeps (k : Key) (x : Region) (st : SlotState) (s : State) : Keeps a a s (slotTo k x st s) := modSlot_keeps ..

theorem workLeave_keeps (x : Region) (k : Key) (s : State) : Keeps a a s (workLeave x k s) := .withSched s _

theorem confirmLeave_keeps (x : Region) (k : Key) (s : State) : Keeps a a s (confirmLeave x k s) := .withSched s _

theorem requeue_keeps (k : Key) (x : Region) (s : State) : Keeps a a s (requeue k x s) := (slotTo_keeps ..).trans (.withSched _ _)

theorem confirming_keeps (k : Key) (x : Region) (s : State) : Keeps a a s (confirming k x s) := (slotTo_keeps ..).trans (.withSched _ _)

theorem finish_keeps (k : Key) (x : Region) (st : SlotState) (s : State) : Keeps a a s (finish k x st s) := (slotTo_keeps ..).trans (settleTest_keeps ..)

theorem failSlot_keeps (k : Key) (x : Region) (why : FailReason) (s : State) : Keeps a a s (failSlot k x why s) := by
  unfold failSlot
  split
  · exact (modSlot_keeps ..).trans (emitRecord_keeps ..)
  · exact .refl s

/-! ## Control Queue (R162) -/

theorem sendCtl_keeps (dest : Region) (body : CtlBody) (s : State) : Keeps a a s (sendCtl dest body s) := by
  unfold sendCtl
  split
  · exact .refl s
  · rename_i room
    simp only [Bool.or_eq_true, decide_eq_true_eq, not_or, not_le] at room
    refine .withWan (.inr ?_)
    rw [List.length_append, List.length_singleton]
    exact room.2

end Sys2Proof.Machine
end

section
/-! PROOFS. The shared operations keep the invariants: the engine, contexts, staging, sendability, region changes, supersede, owed notices. -/

namespace Sys2Proof.Machine

variable {a : Nat}

/-! ## Operations of the Host Memory Engine -/

theorem addOp_keeps (use : OpUse) (bursts : List Burst) (s : State) : Keeps a a s (addOp use bursts s) := .withHme s _

theorem addRead_keeps (use : OpUse) (addr : Addr) (len : Nat) (s : State) : Keeps a a s (addRead use addr len s) := addOp_keeps ..

theorem addWrite_keeps (use : OpUse) (addr : Addr) (bytes : List Byte) (s : State) : Keeps a a s (addWrite use addr bytes s) := addOp_keeps ..

theorem dropOp_keeps (id : Nat) (s : State) : Keeps a a s (dropOp id s) := .withHme s _

theorem modOp_keeps (id : Nat) (f : Op → Op) (s : State) : Keeps a a s (modOp id f s) := .withHme s _

theorem latchFault_keeps (client : Fin 7) (kind : FailKind) (addr : Addr) (s : State) : Keeps a a s (latchFault client kind addr s) := by
  unfold latchFault
  split
  · exact .refl s
  · split
    · exact .withHme ..
    · exact (raise_keeps _).after (.withHme ..)

theorem burstFails_keeps (o : Op) (b : Burst) (i : Nat) (kind : FailKind) (s : State) : Keeps a a s (burstFails o b i kind s) :=
  (latchFault_keeps ..).after (modOp_keeps ..)

/-! ## Contexts (R84, R85, R87) -/

/-- Elements that no longer pass a test make the count of those that do no larger. -/
theorem length_filter_toList_le {α : Type} {n : Nat} {v w : Vector α n} {p : α → Bool} (h : ∀ i, p (vget w i) = true → p (vget v i) = true) :
    (w.toList.filter p).length ≤ (v.toList.filter p).length := by
  rw [length_filter_toList, length_filter_toList, ← List.countP_eq_length_filter, ← List.countP_eq_length_filter]
  exact List.countP_mono_left fun i _ => h i

/-- One element replaced adds at most one to the count of those that pass a test. -/
theorem length_filter_toList_vset_le {α : Type} {n : Nat} (v : Vector α n) (i : Fin n) (x : α) (p : α → Bool) :
    ((vset v i x).toList.filter p).length ≤ (v.toList.filter p).length + 1 := by
  rw [length_filter_toList, length_filter_toList, ← List.length_cons (a := i)]
  refine (List.subperm_of_subset ((List.nodup_finRange n).filter _) fun j hj => ?_).length_le
  rw [List.mem_filter, vget_vset] at hj
  rw [List.mem_cons, List.mem_filter]
  by_cases h : j = i
  · exact .inl h
  · rw [if_neg h] at hj
    exact .inr hj

theorem setCtx_keeps {c : CtxNo} {x : Ctx} {s : State} (out : x.isOut = true → (s.ctx c).isOut = true ∨ s.pool.outCount < 48)
    (inb : x.isIn = true → (s.ctx c).isIn = true ∨ s.pool.inCount < 32) : Keeps a a s (setCtx c x s) := by
  have counts : ∀ (p : Ctx → Bool) (most : Nat), (p x = true → p (s.ctx c) = true ∨ (s.pool.ctx.toList.filter p).length < most) →
      ((vset s.pool.ctx c x).toList.filter p).length ≤ (s.pool.ctx.toList.filter p).length ∨ ((vset s.pool.ctx c x).toList.filter p).length ≤ most := by
    intro p most bound
    by_cases few : (s.pool.ctx.toList.filter p).length < most
    · exact .inr ((length_filter_toList_vset_le ..).trans few)
    · refine .inl (length_filter_toList_le fun i hi => ?_)
      rw [vget_vset] at hi
      split at hi
      · rename_i here
        subst here
        exact (bound hi).resolve_right few
      · exact hi
  exact .withPool (counts _ 48 out) (counts _ 32 inb)

theorem setCtx_free_keeps (c : CtxNo) (s : State) : Keeps a a s (setCtx c .free s) := setCtx_keeps (fun h => nomatch h) (fun h => nomatch h)

theorem setCtx_out_keeps {c : CtxNo} {o : OutCtx} {s : State} (h : s.ctx c = .out o) (o' : OutCtx) : Keeps a a s (setCtx c (.out o') s) :=
  setCtx_keeps (fun _ => .inl (by rw [h]; rfl)) (fun h => nomatch h)

theorem setCtx_inb_keeps {c : CtxNo} {i : InCtx} {s : State} (h : s.ctx c = .inb i) (i' : InCtx) : Keeps a a s (setCtx c (.inb i') s) :=
  setCtx_keeps (fun h => nomatch h) (fun _ => .inl (by rw [h]; rfl))

theorem State.ctx_of_pool {s t : State} (h : t.pool = s.pool) (c : CtxNo) : t.ctx c = s.ctx c := by rw [State.ctx, State.ctx, h]

theorem modOut_keeps (c : CtxNo) (f : OutCtx → OutCtx) (s : State) : Keeps a a s (modOut c f s) := by
  unfold modOut
  split
  · rename_i h
    exact setCtx_out_keeps h _
  · exact .refl s

theorem modIn_keeps (c : CtxNo) (f : InCtx → InCtx) (s : State) : Keeps a a s (modIn c f s) := by
  unfold modIn
  split
  · rename_i h
    exact setCtx_inb_keeps h _
  · exact .refl s

theorem freeCtx_keeps (c : CtxNo) (k : Key) (s : State) : Keeps a a s (freeCtx c k s) := (retireIfDue_keeps ..).after (setCtx_free_keeps ..)

theorem loseGrant_keeps (c : CtxNo) (s : State) : Keeps a a s (loseGrant c s) := by
  unfold loseGrant
  split
  · exact .withWan (.inl le_rfl)
  · exact .refl s

theorem endOutbound_keeps (c : CtxNo) (s : State) : Keeps a a s (endOutbound c s) := by
  unfold endOutbound
  split
  · rename_i o h
    dsimp only
    split
    · refine .after (setCtx_out_keeps (o := o) ?_ _) ((loseGrant_keeps ..).after (.withHme ..))
      rw [State.ctx_of_pool (by simp : _ = s.pool)]
      exact h
    · exact (freeCtx_keeps ..).after ((loseGrant_keeps ..).after (.withHme ..))
  · exact .refl s

theorem countRetry_keeps {c : CtxNo} {k : Key} {x : Region} {move : State → State} {s : State}
    (h : ∀ t : State, t.pool = s.pool → Keeps a a t (move t)) : Keeps a a s (countRetry c k x move s) := by
  unfold countRetry
  dsimp only
  split
  · exact (failSlot_keeps ..).after ((endOutbound_keeps ..).after (modSlot_keeps ..))
  · exact Keeps.after (h _ (by simp)) (modSlot_keeps ..)

/-! ## Staging FIFO and inbound contexts (R125, R131, R134) -/

theorem resumeCheck_keeps (s : State) : Keeps a a s (resumeCheck s) := by
  unfold resumeCheck
  split
  · exact (Keeps.foldl (fun t x => sendCtl_keeps x .resume t) _ _).after (.withInbound (.inl le_rfl))
  · exact .refl s

theorem fifoRemove_keeps (p : FifoEntry → Bool) (s : State) : Keeps a a s (fifoRemove p s) :=
  (resumeCheck_keeps _).after (.withInbound (.inl (List.length_filter_le _ _)))

theorem releaseInbound_keeps (c : CtxNo) (k : Key) (s : State) : Keeps a a s (releaseInbound c k s) :=
  (setCtx_free_keeps ..).after (modRec_keeps k s fun r => by split <;> rfl)

theorem drainFree_keeps (c : CtxNo) (i : InCtx) (why : CancelReason) (s : State) : Keeps a a s (drainFree c i why s) :=
  (retireIfDue_keeps ..).after ((emitRecord_keeps ..).after (releaseInbound_keeps ..))

theorem cancelDrain_keeps (c : CtxNo) (why : CancelReason) (s : State) : Keeps a a s (cancelDrain c why s) := by
  unfold cancelDrain
  split
  · rename_i i h
    dsimp only
    split
    · exact (drainFree_keeps ..).after ((fifoRemove_keeps ..).after (.withHme ..))
    · refine .after (setCtx_inb_keeps (i := i) ?_ _) ((fifoRemove_keeps ..).after (.withHme ..))
      rw [State.ctx_of_pool (by simp : _ = s.pool)]
      exact h
  · exact .refl s

/-! ## Sendability (R103, R149) -/

theorem isOut_stallOnChange (d : Nat) (x : Region) (b : Bool) (c : Ctx) : (stallOnChange d x b c).isOut = c.isOut := by
  cases c with
  | out o => unfold stallOnChange; dsimp only; split <;> rfl
  | free => rfl
  | inb i => rfl

theorem isIn_stallOnChange (d : Nat) (x : Region) (b : Bool) (c : Ctx) : (stallOnChange d x b c).isIn = c.isIn := by
  cases c with
  | out o => unfold stallOnChange; dsimp only; split <;> rfl
  | free => rfl
  | inb i => rfl

theorem handingOn_keeps_invariants {x : Region} {event : State → State} {s : State} (h : Keeps a a s (event s)) : Keeps a a s (handingOn x event s) := by
  unfold handingOn
  dsimp only
  split
  · exact h
  · refine h.trans (.withPool (.inl (length_filter_toList_le fun i => ?_)) (.inl (length_filter_toList_le fun i => ?_)))
    · rw [vget_map, isOut_stallOnChange]
      exact id
    · rw [vget_map, isIn_stallOnChange]
      exact id

/-! ## Region changes (R143 to R145) -/

theorem abortRegion_keeps (x : Region) (s : State) : Keeps a a s (abortRegion x s) :=
  Keeps.foldl (fun t (p : CtxNo × OutCtx) => (requeue_keeps p.2.key x _).after (endOutbound_keeps p.1 t)) _ s

theorem State.region_of_regions {s t : State} (h : t.regions = s.regions) (x : Region) : t.region x = s.region x := by rw [State.region, State.region, h]

theorem region_abortRegion (x y : Region) (s : State) : (abortRegion x s).region y = s.region y := State.region_of_regions (by simp) y

theorem becomeDark_keeps {x : Region} {s : State} (other : (s.region x).state.isOther) : Keeps a a s (becomeDark x s) := by
  refine (reportRegion_keeps ..).after (.after (modRegion_keeps (.inr ⟨?_, .inr (.inl rfl)⟩)) (abortRegion_keeps x s))
  rw [region_abortRegion]
  exact other

theorem suspend_keeps {x : Region} {s : State} (other : (s.region x).state.isOther) : Keeps a a s (suspend x s) := by
  refine (reportRegion_keeps ..).after (.after (.withWan (.inl (List.length_filter_le _ _))) (.after (modRegion_keeps (.inr ⟨?_, .inl rfl⟩)) (abortRegion_keeps x s)))
  rw [region_abortRegion]
  exact other

theorem unsuspend_keeps {x : Region} {s : State} (other : (s.region x).state.isOther) : Keeps a a s (unsuspend x s) :=
  (reportRegion_keeps ..).after (modRegion_keeps (.inr ⟨other, .inr (.inl rfl)⟩))

theorem splice_keeps (x : Region) (s : State) : Keeps a a s (splice x s) :=
  (Keeps.foldl (fun t k => requeue_keeps k x t) _ _).after (.withSched ..)

theorem becomeLive_keeps {x : Region} {s : State} (other : (s.region x).state.isOther) : Keeps a a s (becomeLive x s) :=
  (reportRegion_keeps ..).after ((splice_keeps ..).after (modRegion_keeps (.inr ⟨other, .inr (.inr rfl)⟩)))

theorem heardFrom_keeps (x : Region) (s : State) : Keeps a a s (heardFrom x s) := by
  refine handingOn_keeps_invariants ?_
  dsimp only
  split
  · rename_i dark
    refine .after (becomeLive_keeps ?_) (modRegion_keeps (.inl rfl))
    rw [region_modRegion, if_pos rfl]
    exact .inr (.inl (eq_of_beq dark))
  · exact modRegion_keeps (.inl rfl)

/-! ## Supersede (R16 to R19) -/

theorem joinTargets_keeps (k : Key) (targets : List Region) (s : State) : Keeps a a s (joinTargets k targets s) :=
  Keeps.foldl (fun t _ => .withSched t _) _ s

theorem withdrawAll_keeps (r : Record) (s : State) : Keeps a a s (withdrawAll r s) := by
  refine Keeps.foldl (fun t x => ?_) _ s
  split
  · exact (sendCtl_keeps ..).after (endOutbound_keeps ..)
  · exact .refl t

theorem cancelInbound_keeps (r : Record) (s : State) : Keeps a a s (cancelInbound r s) := by
  unfold cancelInbound
  split
  · split
    · split
      · exact .refl s
      · exact cancelDrain_keeps ..
    · exact .refl s
  · exact .refl s

theorem supersedeNotice_keeps (r : Record) (v : Version) (role : Role) (s : State) : Keeps a a s (supersedeNotice r v role s) := by
  unfold supersedeNotice
  split
  all_goals
    split
    · exact emitRecord_keeps ..
    · exact .refl s

theorem replyNewerSend_keeps (r : Record) (v : Version) (s : State) : Keeps a a s (replyNewerSend r v s) := by
  unfold replyNewerSend
  split
  · exact sendCtl_keeps ..
  · exact .refl s

theorem supersede_keeps (r : Record) (content : Content) (role : Role) (st : RecState) (targets : List Region) (s : State) :
    Keeps a a s (supersede r content role st targets s) := by
  refine (joinTargets_keeps ..).after (.after (modRec_keeps _ _) ?_)
  refine (supersedeNotice_keeps ..).after ((replyNewerSend_keeps ..).after ?_)
  exact (leaveLists_keeps ..).after ((cancelInbound_keeps ..).after (withdrawAll_keeps r s))

/-! ## Service of owed notices (R188, R189) -/

/-- The Miss Hold with a place that is occupied before and after, and holds the same request. -/
theorem withBmc_vset_keeps {s : State} {n : Fin 4} {p q : Parked} (was : vget s.bmc.hold n = some p) (same : q.pub.id = p.pub.id) :
    Keeps a a s (s.withBmc { s.bmc with hold := vset s.bmc.hold n (some q) }) := by
  refine .withBmc (fun ⟨pubs, held, rest⟩ => ⟨pubs, fun m u h => ?_, rest⟩) ?_
  · rw [State.withBmc_bmc] at h
    dsimp only at h
    rw [vget_vset] at h
    split at h
    · rw [← Option.some.inj h]
      exact same.trans_lt (held n p was)
    · exact held m u h
  · refine Nat.add_le_add_right (Nat.add_le_add_right (Nat.add_le_add_right (Nat.add_le_add_left ?_ _) _) _) _
    refine length_filter_toList_le fun i hi => ?_
    rw [State.withBmc_bmc] at hi
    dsimp only at hi
    rw [vget_vset] at hi
    split at hi
    · rename_i here
      subst here
      rw [was]
      rfl
    · exact hi

theorem servePressure_keeps {s t : State} (h : servePressure s = some t) : Keeps a a s t := by
  unfold servePressure at h
  dsimp only at h
  split at h
  · cases h
    exact .withBacklog_of_le le_rfl rfl
  · split at h
    · cases h
    · rename_i room
      cases h
      exact .after (.withTable (List.Sublist.refl _)) (.after (place_keeps (Nat.one_le_iff_ne_zero.mpr room)) (.withBacklog_of_le le_rfl rfl))

theorem serveRegion_keeps {x : Region} {s t : State} (h : serveRegion x s = some t) : Keeps a a s t := by
  unfold serveRegion at h
  dsimp only at h
  split at h
  · cases h
  · rename_i room
    cases h
    exact .after (modRegion_keeps (.inl rfl)) (place_keeps (Nat.one_le_iff_ne_zero.mpr room))

theorem servePlace_keeps {n : Fin 4} {p : Parked} {s t : State} (held : vget s.bmc.hold n = some p) (h : servePlace n p s = some t) : Keeps a a s t := by
  unfold servePlace at h
  split at h
  · cases h
  · rename_i room
    cases h
    exact .after (place_keeps (Nat.one_le_iff_ne_zero.mpr room)) (withBmc_vset_keeps held rfl)

theorem serveRecord_keeps {k : Key} {rest : List Key} {s t : State} (h : serveRecord k rest s = some t) : Keeps a a s t := by
  unfold serveRecord at h
  split at h
  · cases h
    exact .withBacklog_of_le le_rfl rfl
  · dsimp only at h
    split at h
    · cases h
    · rename_i room
      cases h
      refine (pressureCheck_keeps _).after ((retireIfDue_keeps ..).after (.after (place_keeps (Nat.not_lt.mp room)) ?_))
      exact .after (modRec_keeps k _) (.withBacklog_of_le le_rfl rfl)

theorem State.owedPlace_some {s : State} {n : Fin 4} {p : Parked} (h : s.owedPlace = some (n, p)) : vget s.bmc.hold n = some p := by
  obtain ⟨m, -, hm⟩ := List.exists_of_findSome?_eq_some h
  obtain ⟨q, hq, owed⟩ := Option.bind_eq_some_iff.mp hm
  split at owed
  · cases owed
    exact hq
  · cases owed

theorem serveOne_keeps {s t : State} (h : serveOne s = some t) : Keeps a a s t := by
  unfold serveOne at h
  split at h
  · exact servePressure_keeps h
  · split at h
    · exact serveRegion_keeps h
    · split at h
      · rename_i owed
        exact servePlace_keeps (State.owedPlace_some owed) h
      · split at h
        · exact serveRecord_keeps h
        · cases h

theorem serveUpTo_keeps (n : Nat) (s : State) : Keeps a a s (serveUpTo n s) := by
  induction n generalizing s with
  | zero => exact .refl s
  | succ n ih =>
    unfold serveUpTo
    split
    · rename_i h
      exact (serveOne_keeps h).trans (ih _)
    · exact .refl s

theorem serve_keeps (s : State) : Keeps a a s (serve s) := serveUpTo_keeps ..

end Sys2Proof.Machine
end

section
/-! PROOFS. Requests in flight and the Miss Hold: where a search ends, what the freeing of a place does (R31), and that takes and completions keep the invariants. -/

namespace Sys2Proof.Machine

variable {a : Nat}

/-! ## The first index that passes a test -/

theorem find?_finRange_eq_some_iff {n : Nat} {p : Fin n → Bool} {i : Fin n} :
    (List.finRange n).find? p = some i ↔ p i = true ∧ ∀ j, j < i → p j = false := by
  rw [List.find?_eq_some_iff_getElem]
  refine and_congr_right fun _ => ⟨fun ⟨k, hk, here, before⟩ j hj => ?_, fun before => ⟨i.val, by simp, by simp, fun j hj => ?_⟩⟩
  · have place : i.val = k := by rw [← here]; simp
    simpa using before j.val (place ▸ hj)
  · simpa using before ⟨j, hj.trans i.isLt⟩ hj

theorem find?_finRange_eq_none_iff {n : Nat} {p : Fin n → Bool} : (List.finRange n).find? p = none ↔ ∀ i, p i = false := by
  simp [List.find?_eq_none]

/-! ## The Miss Hold (R30, R31) -/

theorem Bmc.placeOf_eq_some_iff {b : Bmc} {key : Byte × BitVec 32} {m : Fin 4} :
    b.placeOf key = some m ↔ (∃ q, vget b.hold m = some q ∧ q.bucket = key) ∧ ∀ l u, l < m → vget b.hold l = some u → u.bucket ≠ key := by
  unfold placeOf
  rw [find?_finRange_eq_some_iff, Option.any_eq_true]
  simp only [beq_iff_eq]
  refine and_congr_right fun _ => forall_congr' fun l => ?_
  cases vget b.hold l <;> simp

theorem Bmc.placeOf_eq_none_iff {b : Bmc} {key : Byte × BitVec 32} : b.placeOf key = none ↔ ∀ l u, vget b.hold l = some u → u.bucket ≠ key := by
  unfold placeOf
  rw [find?_finRange_eq_none_iff]
  refine forall_congr' fun l => ?_
  cases vget b.hold l <;> simp

@[simp] theorem freePlace_frame (n : Fin 4) (s : State) :
    (freePlace n s).now = s.now ∧ (freePlace n s).start = s.start ∧ (freePlace n s).settings = s.settings ∧ (freePlace n s).rings = s.rings ∧
    (freePlace n s).backlog = s.backlog ∧ (freePlace n s).irq = s.irq ∧ (freePlace n s).reqs = s.reqs ∧ (freePlace n s).table = s.table ∧
    (freePlace n s).sched = s.sched ∧ (freePlace n s).pool = s.pool ∧ (freePlace n s).inbound = s.inbound ∧ (freePlace n s).regions = s.regions ∧
    (freePlace n s).wan = s.wan ∧ (freePlace n s).hme = s.hme ∧ (freePlace n s).pending = s.pending := by
  unfold freePlace
  dsimp only
  split
  · simp
  · split
    · split <;> simp
    · simp

/-- R31: a place that is freed hands its owed flag to the lowest-numbered other place of its bucket key. -/
theorem freePlace_frees {n : Fin 4} {p : Parked} {s : State} (held : vget s.bmc.hold n = some p) : PlaceFreed n p s (freePlace n s) := by
  have emptied : ∀ m, vget (vset s.bmc.hold n none) m = if m = n then none else vget s.bmc.hold m := fun m => vget_vset ..
  have lower : ∀ m, (∀ l u, l < m → vget (vset s.bmc.hold n none) l = some u → u.bucket ≠ p.bucket) ↔
      ∀ l u, l < m → l ≠ n → vget s.bmc.hold l = some u → u.bucket ≠ p.bucket := by
    refine fun m => forall_congr' fun l => forall_congr' fun u => imp_congr_right fun _ => ?_
    rw [emptied]
    by_cases h : l = n <;> simp [h]
  unfold freePlace
  rw [held]
  dsimp only
  by_cases owed : p.owed = true
  · rw [if_pos owed]
    cases heir : ({ s.bmc with hold := vset s.bmc.hold n none } : Bmc).placeOf p.bucket with
    | none =>
      simp only [State.withBmc_bmc, heir]
      refine ⟨(emptied n).trans (if_pos rfl), fun m hm h => (emptied m).trans ((if_neg hm).trans h), fun m q hm h => ?_, rfl, rfl, rfl, rfl⟩
      have stays : vget (vset s.bmc.hold n none) m = some q := (emptied m).trans ((if_neg hm).trans h)
      exact ⟨fun ⟨_, same, _⟩ => absurd same (Bmc.placeOf_eq_none_iff.mp heir m q stays), fun _ => stays⟩
    | some k =>
      simp only [State.withBmc_bmc, heir]
      obtain ⟨⟨w, hw, bucket⟩, first⟩ := Bmc.placeOf_eq_some_iff.mp heir
      dsimp only at hw first
      rw [lower] at first
      have other : k ≠ n := by
        rintro rfl
        simp at hw
      rw [emptied, if_neg other] at hw
      have after : ∀ m, vget (vmod (vset s.bmc.hold n none) k fun q => q.map fun q => { q with owed := true }) m =
          if m = k then some { w with owed := true } else if m = n then none else vget s.bmc.hold m := by
        intro m
        rw [vmod, vget_vset, emptied, emptied, if_neg other, hw]
        rfl
      have stays : ∀ m, m ≠ k → m ≠ n → vget (vmod (vset s.bmc.hold n none) k fun q => q.map fun q => { q with owed := true }) m = vget s.bmc.hold m :=
        fun m hk hn => (after m).trans ((if_neg hk).trans (if_neg hn))
      refine ⟨(after n).trans ((if_neg other.symm).trans (if_pos rfl)), fun m hm h => ?_, fun m q hm h => ⟨fun ⟨_, same, lowest⟩ => ?_, fun notHeir => ?_⟩,
        rfl, rfl, rfl, rfl⟩
      · exact (stays m (by rintro rfl; rw [hw] at h; cases h) hm).trans h
      · have here : m = k := by
          rcases lt_trichotomy m k with before | here | behind
          · exact absurd same (first m q before hm h)
          · exact here
          · exact absurd bucket (lowest k w behind other hw)
        subst here
        rw [h] at hw
        cases hw
        exact (after m).trans (if_pos rfl)
      · refine (stays m ?_ hm).trans h
        rintro rfl
        rw [h] at hw
        cases hw
        exact notHeir ⟨owed, bucket, first⟩
  · rw [if_neg owed]
    exact ⟨(emptied n).trans (if_pos rfl), fun m hm h => (emptied m).trans ((if_neg hm).trans h),
      fun m q hm h => ⟨fun ⟨yes, _, _⟩ => absurd yes owed, fun _ => (emptied m).trans ((if_neg hm).trans h)⟩, rfl, rfl, rfl, rfl⟩

/-- The other places hold their requests on. -/
theorem PlaceFreed.others {n m : Fin 4} {p q : Parked} {s t : State} (h : PlaceFreed n p s t) (other : m ≠ n) (held : vget s.bmc.hold m = some q) :
    ∃ w, vget t.bmc.hold m = some w ∧ w.pub = q.pub := by
  obtain ⟨-, -, moves, -⟩ := h
  by_cases inherits : p.owed = true ∧ q.bucket = p.bucket ∧ ∀ l u, l < m → l ≠ n → vget s.bmc.hold l = some u → u.bucket ≠ p.bucket
  · exact ⟨_, (moves m q other held).1 inherits, rfl⟩
  · exact ⟨q, (moves m q other held).2 inherits, rfl⟩

/-- A place frees a reservation: one request less is in flight. -/
theorem length_filter_toList_vset_lt {α : Type} {n : Nat} (v : Vector α n) {i : Fin n} {x : α} {p : α → Bool} (was : p (vget v i) = true) (isNow : p x = false) :
    ((vset v i x).toList.filter p).length + 1 ≤ (v.toList.filter p).length := by
  rw [length_filter_toList, length_filter_toList, ← List.length_cons (a := i)]
  have gone : i ∉ (List.finRange n).filter fun j => p (vget (vset v i x) j) := by simp [isNow]
  refine (List.subperm_of_subset (List.nodup_cons.mpr ⟨gone, (List.nodup_finRange n).filter _⟩) fun j hj => ?_).length_le
  rw [List.mem_cons, List.mem_filter, vget_vset] at hj
  rw [List.mem_filter]
  by_cases h : j = i
  · subst h
    exact ⟨List.mem_finRange j, was⟩
  · rw [if_neg h] at hj
    exact hj.resolve_left h

/-- A change of the Miss Hold that fills no place and leaves each request where it is. -/
theorem withBmc_hold_keeps {s : State} {v : Bmc} (h : ∀ n q, vget v.hold n = some q → ∃ p, vget s.bmc.hold n = some p ∧ q.pub.id = p.pub.id) :
    Keeps a a s (s.withBmc v) := by
  refine .withBmc (fun ⟨pubs, held, rest⟩ => ⟨pubs, fun n q hq => ?_, rest⟩) ?_
  · obtain ⟨p, hp, same⟩ := h n q hq
    exact same.trans_lt (held n p hp)
  · refine Nat.add_le_add_right (Nat.add_le_add_right (Nat.add_le_add_right (Nat.add_le_add_left ?_ _) _) _) _
    refine length_filter_toList_le fun i hi => ?_
    obtain ⟨q, hq⟩ := Option.isSome_iff_exists.mp hi
    obtain ⟨p, hp, -⟩ := h i q hq
    rw [hp]
    rfl

theorem freePlace_keeps {n : Fin 4} {p : Parked} {s : State} (held : vget s.bmc.hold n = some p) : Keeps a (a + 1) s (freePlace n s) := by
  have emptied : Keeps a (a + 1) s (s.withBmc { s.bmc with hold := vset s.bmc.hold n none }) := by
    refine .withBmc (fun ⟨pubs, holds, rest⟩ => ⟨pubs, fun m q h => ?_, rest⟩) ?_
    · rw [State.withBmc_bmc] at h
      dsimp only at h
      rw [vget_vset] at h
      split at h
      · cases h
      · exact holds m q h
    · have less := length_filter_toList_vset_lt s.bmc.hold (i := n) (x := none) (p := Option.isSome) (by rw [held]; rfl) rfl
      simp only [State.inFlight, State.withBmc_reqs, State.withBmc_bmc]
      omega
  unfold freePlace
  rw [held]
  dsimp only
  split
  · split
    · rename_i m _
      refine emptied.trans (withBmc_hold_keeps fun l q hq => ?_)
      dsimp only at hq
      rw [vmod, vget_vset] at hq
      split at hq
      · rename_i here
        subst here
        obtain ⟨w, hw, rfl⟩ := Option.map_eq_some_iff.mp hq
        exact ⟨w, hw, rfl⟩
      · exact ⟨q, hq, rfl⟩
    · exact emptied
  · exact emptied

theorem park_keeps {n : Fin 4} {p : Pub} {s : State} (number : NumbersFresh s → p.id < s.reqs.nextId) :
    Keeps (a + 1) a s (park n p s) := by
  unfold park
  dsimp only
  have parked : ∀ v : Bmc, ∀ q : Parked, v.hold = vset s.bmc.hold n (some q) → q.pub.id = p.id → Keeps (a + 1) a s (s.withBmc v) := by
    refine fun v q hold same => .withBmc (fun fresh => ⟨fresh.1, fun m u h => ?_, fresh.2.2⟩) ?_
    · rw [State.withBmc_bmc, hold, vget_vset] at h
      split at h
      · cases h
        exact same.trans_lt (number fresh)
      · exact fresh.2.1 m u h
    · have more := length_filter_toList_vset_le s.bmc.hold n (some q) Option.isSome
      simp only [State.inFlight, State.withBmc_reqs, State.withBmc_bmc, hold]
      omega
  split
  · rename_i fits
    rw [Bool.and_eq_true] at fits
    exact .after (place_keeps (show 1 ≤ s.backlog.free from State.free_of_fits fits.2)) (parked _ _ rfl rfl)
  · exact parked _ _ rfl rfl

/-! ## Takes and completions (R182, R183, R185) -/

theorem reserve_keeps {ring : ReqRing} {s : State} (ok : s.takeOk ring = true) : Keeps a (a + 1) s (reserve s) := by
  unfold State.takeOk at ok
  simp only [Bool.and_eq_true, decide_eq_true_eq] at ok
  have places : s.backlog.entries.length + s.backlog.reservations < 64 := ok.1.1.1.2
  have most : s.backlog.reservations < 48 := ok.1.1.2
  refine .withBacklog fun ⟨flight, _, _⟩ => ?_
  show s.inFlight + (a + 1) ≤ s.backlog.reservations + 1 ∧ s.backlog.reservations + 1 ≤ 48 ∧ s.backlog.entries.length + (s.backlog.reservations + 1) ≤ 64
  omega

theorem taking_keeps {ring : ReqRing} {work : State → State} (h : ∀ t, Keeps (a + 1) a t (work t)) (s : State) : Keeps a a s (taking ring work s) := by
  unfold taking
  split
  · rename_i ok
    exact (reserve_keeps ok).trans (h _)
  · exact .refl s

theorem answer_keeps (ring : ReqRing) (tag : Word) (kind : ReqKind) (status : Status) (body : CompBody) (s : State) :
    Keeps (a + 1) a s (answer ring tag kind status body s) := complete_keeps ..

theorem malformed_keeps (ring : ReqRing) (tag : Word) (kind : Byte) (detail : MalformedDetail) (s : State) :
    Keeps (a + 1) a s (malformed ring tag kind detail s) := complete_keeps ..

theorem managed_keeps {ring : ReqRing} {tag : Word} {kind : ReqKind} {work : State → State} {s : State} (h : Keeps (a + 1) a s (work s)) :
    Keeps (a + 1) a s (managed ring tag kind work s) := by
  unfold managed
  split
  · exact answer_keeps ..
  · exact h

theorem answerPub_keeps (p : Pub) (status : Status) (body : CompBody) (s : State) : Keeps (a + 1) a s (answerPub p status body s) := answer_keeps ..

/-! ## PUBLISH and DELETE in flight (R59) -/

/-- A request that is taken, or that leaves the Miss Hold, joins those in flight; its number is known fresh from the state before. -/
theorem Keeps.addPub {b : Nat} {p : Pub} {s t : State} (h : Keeps b (a + 1) s t) (number : NumbersFresh s → p.id < t.reqs.nextId)
    (load : ∀ pl l, p.stage = .placed pl (some l) → l < t.reqs.nextLoad) : Keeps b a s (addPub p t) := by
  refine { h with numbers := fun fresh => ⟨fun q hq => ?_, (h.numbers fresh).2⟩, loads := fun fresh q hq => ?_, room := fun r => ?_ }
  · rcases List.mem_append.mp hq with old | new
    · exact (h.numbers fresh).1 q old
    · rw [List.mem_singleton.mp new]
      exact number fresh
  · rcases List.mem_append.mp hq with old | new
    · exact h.loads fresh q old
    · rw [List.mem_singleton.mp new]
      exact load
  · obtain ⟨flight, most, places⟩ := h.room r
    refine ⟨?_, most, places⟩
    have grown : (Sys2Proof.Machine.addPub p t).inFlight = t.inFlight + 1 := by
      simp only [Sys2Proof.Machine.addPub, State.inFlight, State.withReqs_reqs, State.withReqs_bmc, List.length_append, List.length_singleton]
      omega
    show (Sys2Proof.Machine.addPub p t).inFlight + a ≤ t.backlog.reservations
    omega

theorem dropPub_keeps {id : Nat} {s : State} (inFlight : ∃ p ∈ s.reqs.pubs, p.id = id) : Keeps a (a + 1) s (dropPub id s) := by
  obtain ⟨p, hp, rfl⟩ := inFlight
  refine .withReqs (fun fresh => ⟨fun q hq => fresh.1 q (List.mem_of_mem_filter hq), fresh.2⟩) (fun fresh q hq => fresh q (List.mem_of_mem_filter hq)) ?_
  have less : (s.reqs.pubs.filter fun q => q.id != p.id).length < s.reqs.pubs.length :=
    List.length_filter_lt_length_iff_exists.mpr ⟨p, hp, by simp⟩
  simp only [State.inFlight, State.withReqs_reqs, State.withReqs_bmc]
  omega

theorem modPub_keeps {id : Nat} {f : Pub → Pub} {s : State} (number : ∀ p, p.id = id → (f p).id = id)
    (load : ∀ p ∈ s.reqs.pubs, p.id = id → ∀ pl l, (f p).stage = .placed pl (some l) → ∃ q ∈ s.reqs.pubs, q.stage = .placed pl (some l)) :
    Keeps a a s (modPub id f s) := by
  refine .withReqs (fun fresh => ⟨fun q hq => ?_, fresh.2⟩) (fun fresh q hq pl l stage => ?_) ?_
  · obtain ⟨p, hp, rfl⟩ := List.mem_map.mp hq
    split
    · rename_i named
      rw [number p (eq_of_beq named), ← eq_of_beq named]
      exact fresh.1 p hp
    · exact fresh.1 p hp
  · obtain ⟨p, hp, rfl⟩ := List.mem_map.mp hq
    split at stage
    · rename_i named
      obtain ⟨w, hw, same⟩ := load p hp (eq_of_beq named) pl l stage
      exact fresh w hw pl l same
    · exact fresh p hp pl l stage
  · simp only [State.inFlight, State.withReqs_reqs, State.withReqs_bmc, List.length_map, le_refl]

theorem placementCheck_keeps {p : Pub} {placement : Placement} {s : State} (inFlight : ∃ q ∈ s.reqs.pubs, q.id = p.id) :
    Keeps a a s (placementCheck p placement s) := by
  unfold placementCheck
  split
  · exact (dropPub_keeps inFlight).trans (answerPub_keeps ..)
  · split
    · exact (dropPub_keeps inFlight).trans (answerPub_keeps ..)
    · exact modPub_keeps (fun _ h => h) fun _ _ _ _ _ h => by cases h

theorem advanceLoad_keeps (load n : Nat) (s : State) : Keeps a a s (advanceLoad load n s) := by
  induction n generalizing s with
  | zero => exact .refl s
  | succ n ih =>
    unfold advanceLoad
    split
    · rename_i p found
      split
      · exact (placementCheck_keeps ⟨p, List.mem_of_find?_eq_some found, rfl⟩).trans (ih _)
      · exact .refl s
    · exact .refl s

theorem advance_keeps (load : Nat) (s : State) : Keeps a a s (advance load s) := advanceLoad_keeps ..

theorem endWait_keeps {denied : Bool} {n : Fin 4} {p q : Parked} {s : State} (held : vget s.bmc.hold n = some q) (same : q.pub = p.pub) :
    Keeps a a s (endWait denied n p s) := by
  unfold endWait
  split
  · exact (freePlace_keeps held).trans (answerPub_keeps ..)
  · refine (freePlace_keeps held).addPub (fun fresh => ?_) fun _ _ h => by cases h
    rw [(by simp [freePlace_frame] : (freePlace n s).reqs = s.reqs)]
    exact same ▸ fresh.2.1 n q held

end Sys2Proof.Machine
end

section
/-! PROOFS. The commands of the host port keep the invariants: requests, the cache, publishing, lookups, settings, region requests, bursts and completion writes. -/

namespace Sys2Proof.Machine

variable {a : Nat}

/-! ## The places of a bucket key, in park order (R38, R39) -/

theorem Bmc.mem_parkedOn {b : Bmc} {key : Byte × BitVec 32} {x : Fin 4 × Parked} :
    x ∈ b.parkedOn key ↔ vget b.hold x.1 = some x.2 ∧ x.2.bucket = key := by
  unfold parkedOn
  rw [List.mem_insertionSort, List.mem_filterMap]
  simp only [List.mem_finRange, true_and, Option.bind_eq_some_iff]
  constructor
  · rintro ⟨n, p, held, chosen⟩
    split at chosen
    · rename_i same
      cases chosen
      exact ⟨held, eq_of_beq same⟩
    · cases chosen
  · rintro ⟨held, same⟩
    exact ⟨x.1, x.2, held, by rw [if_pos (beq_iff_eq.mpr same)]⟩

theorem Bmc.nodup_parkedOn (b : Bmc) (key : Byte × BitVec 32) : ((b.parkedOn key).map Prod.fst).Nodup := by
  refine List.Nodup.map_on (fun x hx y hy same => ?_) ?_
  · have hx := (Bmc.mem_parkedOn.mp hx).1
    rw [same, (Bmc.mem_parkedOn.mp hy).1] at hx
    exact Prod.ext same (Option.some.inj hx).symm
  · unfold parkedOn
    rw [(List.perm_insertionSort _ _).nodup_iff]
    refine (List.nodup_finRange 4).filterMap fun n m x hn hm => ?_
    obtain ⟨p, -, hp⟩ := Option.bind_eq_some_iff.mp hn
    obtain ⟨q, -, hq⟩ := Option.bind_eq_some_iff.mp hm
    split at hp
    · split at hq
      · cases hp
        cases hq
        rfl
      · cases hq
    · cases hp

/-- An action made for each of several places of the Miss Hold keeps the invariants, when at each place it does so and leaves the other places their requests. -/
theorem foldl_places_keeps {f : State → Fin 4 × Parked → State} {good : State → Prop} (l : List (Fin 4 × Parked)) (nodup : (l.map Prod.fst).Nodup)
    (keeps : ∀ t x q, good t → vget t.bmc.hold x.1 = some q → q.pub = x.2.pub → Keeps a a t (f t x) ∧ good (f t x))
    (others : ∀ t x q, vget t.bmc.hold x.1 = some q → ∀ m w, m ≠ x.1 → vget t.bmc.hold m = some w → ∃ u, vget (f t x).bmc.hold m = some u ∧ u.pub = w.pub)
    (s : State) (start : good s) (held : ∀ x ∈ l, ∃ q, vget s.bmc.hold x.1 = some q ∧ q.pub = x.2.pub) : Keeps a a s (l.foldl f s) := by
  induction l generalizing s with
  | nil => exact .refl s
  | cons x rest ih =>
    obtain ⟨q, hq, same⟩ := held x List.mem_cons_self
    rw [List.map_cons, List.nodup_cons] at nodup
    obtain ⟨first, next⟩ := keeps s x q start hq same
    refine first.trans (ih nodup.2 _ next fun y hy => ?_)
    obtain ⟨w, hw, sameY⟩ := held y (List.mem_cons_of_mem x hy)
    obtain ⟨u, hu, same'⟩ := others s x q hq y.1 w (fun e => nodup.1 (e ▸ List.mem_map_of_mem hy)) hw
    exact ⟨u, hu, same'.trans sameY⟩

/-! ## BUCKET.LOAD, BUCKET.DENY, BUCKET.FLUSH and the miss deadline -/

theorem hold_endWait {denied : Bool} (n : Fin 4) (p : Parked) (s : State) : (endWait denied n p s).bmc = (freePlace n s).bmc := by
  unfold endWait
  split
  · simp [answerPub, answer]
  · rfl

theorem install_keeps (e : BucketEntry) (s : State) : Keeps a a s (install e s).1 := by
  unfold install
  split
  · exact .withBmc_of_hold rfl
  · split
    · exact .withBmc_of_hold rfl
    · exact .withBmc_of_hold rfl

theorem resumeParked_keeps {placement : Placement} {load : Nat} {x : Fin 4 × Parked} {q : Parked} {s : State} (held : vget s.bmc.hold x.1 = some q)
    (same : q.pub = x.2.pub) (below : load < s.reqs.nextLoad) : Keeps a a s (resumeParked placement load x s) := by
  have reqs : (freePlace x.1 s).reqs = s.reqs := by simp
  refine (freePlace_keeps held).addPub (fun fresh => ?_) fun pl l h => ?_
  · rw [reqs]
    exact same ▸ fresh.2.1 x.1 q held
  · cases h
    rw [reqs]
    exact below

theorem nextLoad_keeps (s : State) : Keeps a a s (s.withReqs { s.reqs with nextLoad := s.reqs.nextLoad + 1 }) :=
  .withReqs id (fun fresh p hp pl l stage => (fresh p hp pl l stage).trans (Nat.lt_succ_self _)) le_rfl

theorem resumeAll_keeps {placement : Placement} {load : Nat} {key : Byte × BitVec 32} {s : State} (below : load < s.reqs.nextLoad) :
    Keeps a a s ((s.bmc.parkedOn key).foldl (fun t x => resumeParked placement load x t) s) := by
  refine foldl_places_keeps (good := fun t => load < t.reqs.nextLoad) _ (Bmc.nodup_parkedOn ..) (fun t x w below held same => ?_)
    (fun t x w held m u other hu => ?_) s below fun x hx => ⟨x.2, (Bmc.mem_parkedOn.mp hx).1, rfl⟩
  · refine ⟨resumeParked_keeps held same below, ?_⟩
    show load < (freePlace x.1 t).reqs.nextLoad
    rw [(by simp : (freePlace x.1 t).reqs = t.reqs)]
    exact below
  · exact (freePlace_frees held).others other hu

theorem takeBucketLoad_keeps (ring : ReqRing) (q : BucketLoadReq) (s : State) : Keeps (a + 1) a s (takeBucketLoad ring q s) := by
  refine managed_keeps ?_
  split
  · exact answer_keeps ..
  · split
    · exact answer_keeps ..
    · have installed : Keeps (a + 1) (a + 1) s (install (BucketLoadReq.entry q) s).1 := install_keeps ..
      dsimp only
      cases taken : install (BucketLoadReq.entry q) s with
      | mk s1 i =>
        rw [taken] at installed
        have resumed : Keeps (a + 1) (a + 1) _ _ := resumeAll_keeps (placement := (BucketLoadReq.entry q).placement) (load := s1.reqs.nextLoad)
          (key := (q.tenant, q.bucket)) (s := s1.withReqs { s1.reqs with nextLoad := s1.reqs.nextLoad + 1 }) (Nat.lt_succ_self _)
        exact .after (answer_keeps ..) ((advance_keeps ..).after (installed.trans ((nextLoad_keeps s1).trans resumed)))

theorem takeBucketDeny_keeps (ring : ReqRing) (tag : Word) (tenant : Byte) (bucket : BitVec 32) (s : State) :
    Keeps (a + 1) a s (takeBucketDeny ring tag tenant bucket s) := by
  refine managed_keeps (.after (answer_keeps ..) ?_)
  refine foldl_places_keeps (good := fun _ => True) _ (Bmc.nodup_parkedOn ..) (fun t x w _ held same => ⟨endWait_keeps held same, trivial⟩)
    (fun t x w held m u other hu => ?_) s trivial fun x hx => ⟨x.2, (Bmc.mem_parkedOn.mp hx).1, rfl⟩
  rw [hold_endWait]
  exact (freePlace_frees held).others other hu

theorem takeBucketFlush_keeps (ring : ReqRing) (tag : Word) (scope tenant : Byte) (bucket : BitVec 32) (s : State) :
    Keeps (a + 1) a s (takeBucketFlush ring tag scope tenant bucket s) := by
  unfold takeBucketFlush
  split
  · exact malformed_keeps ..
  · exact managed_keeps (.after (answer_keeps ..) (.withBmc_of_hold rfl))

/-! ## PUBLISH and DELETE (R28 to R58) -/

theorem nextId_keeps (s : State) : Keeps a a s (s.withReqs { s.reqs with nextId := s.reqs.nextId + 1 }) :=
  .withReqs (fun ⟨pubs, held, accepts, batches⟩ => ⟨fun p hp => (pubs p hp).trans (Nat.lt_succ_self _), fun n p h => (held n p h).trans (Nat.lt_succ_self _),
    fun p hp => (accepts p hp).trans (Nat.lt_succ_self _), fun p hp => (batches p hp).trans (Nat.lt_succ_self _)⟩) id le_rfl

theorem startStage_keeps (p : Pub) (table : Addr) (count : Nat) (s : State) : Keeps a a s (startStage p table count s) := by
  unfold startStage
  split
  · exact addRead_keeps ..
  · exact .refl s

theorem startStage_reqs (p : Pub) (table : Addr) (count : Nat) (s : State) : (startStage p table count s).reqs = s.reqs := by
  unfold startStage
  split <;> simp

theorem takeHit_keeps {p : Pub} {fault : Option ExtentDetail} {table : Addr} {count : Nat} {i : Fin 32} {e : BucketEntry} {s : State}
    (number : p.id < s.reqs.nextId) : Keeps (a + 1) a s (takeHit p fault table count i e s) := by
  unfold takeHit
  dsimp only
  split
  · exact .after (answerPub_keeps ..) (.withBmc_of_hold rfl)
  · have joined : Keeps (a + 1) a s (addPub { p with stage := .placed e.placement none } (s.withBmc { s.bmc with recent := some i })) :=
      Keeps.addPub (.withBmc_of_hold rfl) (fun _ => number) fun _ _ h => by cases h
    split
    · refine joined.trans (.trans (startStage_keeps ..) (placementCheck_keeps ⟨{ p with stage := .placed e.placement none }, ?_, rfl⟩))
      rw [startStage_reqs]
      exact List.mem_append_right _ (List.mem_singleton.mpr rfl)
    · exact joined.trans (startStage_keeps ..)

theorem hold_park (n : Fin 4) (p : Pub) (s : State) : ∃ q, vget (park n p s).bmc.hold n = some q ∧ q.pub = { p with stage := .parked } := by
  unfold park
  dsimp only
  split
  · rw [(place_frame ..).2.2.2.2.2.2.1]
    exact ⟨_, vget_vset_self .., rfl⟩
  · exact ⟨_, vget_vset_self .., rfl⟩

theorem takeParked_keeps {p : Pub} {fault : Option ExtentDetail} {table : Addr} {count : Nat} {n : Fin 4} {s : State} (number : p.id < s.reqs.nextId) :
    Keeps (a + 1) a s (takeParked p fault table count n s) := by
  have parked : Keeps (a + 1) a s (park n p s) := park_keeps fun _ => number
  unfold takeParked
  split
  · obtain ⟨q, held, -⟩ := hold_park n p s
    exact parked.trans ((freePlace_keeps held).trans (answerPub_keeps ..))
  · exact parked.trans (startStage_keeps ..)

theorem takeUnparked_keeps {p : Pub} {fault : Option ExtentDetail} {table : Addr} {count : Nat} {s : State} (number : p.id < s.reqs.nextId) :
    Keeps (a + 1) a s (takeUnparked p fault table count s) := by
  unfold takeUnparked
  split
  · exact answerPub_keeps ..
  · exact answerPub_keeps ..
  · have joined : Keeps (a + 1) a s (addPub { p with stage := .doomed false } s) := (Keeps.refl s).addPub (fun _ => number) fun _ _ h => by cases h
    exact joined.trans (startStage_keeps ..)

theorem takePub_keeps {p : Pub} {fault : Option ExtentDetail} {table : Addr} {count : Nat} {s : State} (number : p.id = s.reqs.nextId) :
    Keeps (a + 1) a s (takePub p fault table count s) := by
  have below : p.id < (s.withReqs { s.reqs with nextId := s.reqs.nextId + 1 }).reqs.nextId := number.trans_lt (Nat.lt_succ_self _)
  unfold takePub
  dsimp only
  split
  · rename_i i found
    split
    · exact (nextId_keeps s).trans (takeHit_keeps below)
    · rename_i empty
      have hit := List.find?_some found
      rw [empty] at hit
      cases hit
  · split
    · exact (nextId_keeps s).trans (takeParked_keeps below)
    · exact (nextId_keeps s).trans (takeUnparked_keeps below)

theorem takePublish_keeps (ring : ReqRing) (q : PublishReq) (s : State) : Keeps (a + 1) a s (takePublish ring q s) := takePub_keeps rfl

theorem takeDelete_keeps (ring : ReqRing) (q : DeleteReq) (s : State) : Keeps (a + 1) a s (takeDelete ring q s) := takePub_keeps rfl

theorem advanceAfter_keeps (p : Pub) (s : State) : Keeps a a s (advanceAfter p s) := by
  unfold advanceAfter
  split
  · exact advance_keeps ..
  · exact .refl s

theorem goOn_keeps {p : Pub} {s : State} (inFlight : ∃ q ∈ s.reqs.pubs, q.id = p.id) : Keeps a a s (goOn p s) := by
  unfold goOn
  split
  · exact placementCheck_keeps inFlight
  · exact advance_keeps ..
  · exact (dropPub_keeps inFlight).trans (answerPub_keeps ..)
  · exact .refl s

theorem tableRead_keeps {p : Pub} {xs : List Extent} {s : State} (inFlight : p ∈ s.reqs.pubs) : Keeps a a s (tableRead p xs s) := by
  unfold tableRead
  split
  · exact (dropPub_keeps ⟨p, inFlight, rfl⟩).trans ((answerPub_keeps ..).trans (advanceAfter_keeps ..))
  · refine .after (goOn_keeps ?_) (modPub_keeps (fun _ _ => rfl) fun _ _ _ pl l stage => ⟨p, inFlight, stage⟩)
    exact ⟨{ p with extents := .good xs }, List.mem_map.mpr ⟨p, inFlight, by simp⟩, rfl⟩

theorem parkedTableRead_keeps {n : Fin 4} {p : Parked} {xs : List Extent} {s : State} (held : vget s.bmc.hold n = some p) :
    Keeps a a s (parkedTableRead n p xs s) := by
  unfold parkedTableRead
  split
  · exact (freePlace_keeps held).trans (answerPub_keeps ..)
  · exact withBmc_vset_keeps held rfl

theorem Bmc.heldAt_some {b : Bmc} {id : Nat} {n : Fin 4} {p : Parked} (h : b.heldAt id = some (n, p)) : vget b.hold n = some p ∧ p.pub.id = id := by
  obtain ⟨m, -, hm⟩ := List.exists_of_findSome?_eq_some h
  obtain ⟨q, hq, named⟩ := Option.bind_eq_some_iff.mp hm
  split at named
  · rename_i same
    cases named
    exact ⟨hq, eq_of_beq same⟩
  · cases named

theorem joinNew_keeps {r : Record} {s : State} (able : s.setAble (setOf r.key) = true) : Keeps a a s (addRec r (makeRoom (setOf r.key) s).1) :=
  (makeRoom_keeps ..).addRec fun legal _ => setHasPlace_makeRoom legal able

theorem applyPub_keeps (p : Pub) (placement : Placement) (s : State) : Keeps (a + 1) a s (applyPub p placement s) := by
  unfold applyPub
  dsimp only
  split
  · unfold applyOver
    split
    · exact answerPub_keeps ..
    · split
      · exact answerPub_keeps ..
      · exact .after (answerPub_keeps ..) (supersede_keeps ..)
  · unfold applyNew
    split
    · exact answerPub_keeps ..
    · rename_i able
      rw [Bool.not_eq_true', Bool.not_eq_false] at able
      split
      · exact answerPub_keeps ..
      · exact .after (answerPub_keeps ..) (.after (pressureCheck_keeps _) (.after (joinTargets_keeps ..) (joinNew_keeps able)))

/-! ## Lookups (R22 to R24) -/

theorem takeLookup_keeps (ring : ReqRing) (tag : Word) (k : Key) (s : State) : Keeps (a + 1) a s (takeLookup ring tag k s) := by
  unfold takeLookup
  split <;> exact answer_keeps ..

theorem batchLookup_keeps (b : Batch) (s : State) : Keeps a a s (batchLookup b s) := by
  unfold batchLookup
  split
  · exact addWrite_keeps ..
  · exact .refl s

theorem takeBatch_keeps (ring : ReqRing) (q : BatchReq) (s : State) : Keeps (a + 1) a s (takeBatch ring q s) := by
  unfold takeBatch
  split
  · exact malformed_keeps ..
  · refine .after (addRead_keeps ..) ((nextId_keeps s).trans (.withReqs (fun ⟨pubs, held, accepts, batches⟩ => ⟨pubs, held, accepts, fun b hb => ?_⟩) id ?_))
    · rcases List.mem_append.mp hb with old | new
      · exact batches b old
      · rw [List.mem_singleton.mp new]
        exact Nat.lt_succ_self _
    · simp only [State.inFlight, State.withReqs_reqs, State.withReqs_bmc, List.length_append, List.length_singleton]
      omega

theorem modBatch_keeps (b : Batch) (s : State) : Keeps a a s (modBatch b s) := by
  refine .withReqs (fun ⟨pubs, held, accepts, batches⟩ => ⟨pubs, held, accepts, fun c hc => ?_⟩) id ?_
  · obtain ⟨d, hd, rfl⟩ := List.mem_map.mp hc
    split
    · rename_i same
      rw [← eq_of_beq same]
      exact batches d hd
    · exact batches d hd
  · simp only [State.inFlight, State.withReqs_reqs, State.withReqs_bmc, List.length_map, le_refl]

theorem endBatch_keeps {b : Batch} {status : Status} {count : Nat} {addr : Addr} {s : State} (open_ : ∃ c ∈ s.reqs.batches, c.id = b.id) :
    Keeps a a s (endBatch b status count addr s) := by
  obtain ⟨c, hc, same⟩ := open_
  refine .after (answer_keeps ..) (.withReqs (fun ⟨pubs, held, accepts, batches⟩ => ⟨pubs, held, accepts, fun d hd => batches d (List.mem_of_mem_filter hd)⟩) id ?_)
  have less : (s.reqs.batches.filter fun d => d.id != b.id).length < s.reqs.batches.length :=
    List.length_filter_lt_length_iff_exists.mpr ⟨c, hc, by simp [same]⟩
  simp only [State.inFlight, State.withReqs_reqs, State.withReqs_bmc]
  omega

theorem onBatch_keeps {use : OpUse} {p : Op → Bool} {request : Nat} {work : Batch → Op → State → State} (h : ∀ b o t, b ∈ t.reqs.batches → Keeps a a t (work b o t))
    (s : State) : Keeps a a s (onBatch use p request work s) := by
  unfold onBatch
  split
  · rename_i o b _ found
    split
    · exact (dropOp_keeps ..).trans (h b o _ (List.mem_of_find?_eq_some found))
    · exact .refl s
  · exact .refl s

/-! ## Settings (R196, R197) -/

theorem takeSettingsSet_keeps (ring : ReqRing) (tag : Word) (mask : BitVec 16) (values : Vector Word 14) (s : State) :
    Keeps (a + 1) a s (takeSettingsSet ring tag mask values s) := by
  unfold takeSettingsSet
  split
  · exact malformed_keeps ..
  · refine managed_keeps ?_
    split
    · exact answer_keeps ..
    · refine .after (answer_keeps ..) (.trans (Keeps.withSettings s (selectSettings mask values s.settings)) ?_)
      unfold markCheck
      split
      · exact .refl _
      · exact pressureCheck_keeps _

theorem takeSettingsGet_keeps (ring : ReqRing) (tag : Word) (first : Byte) (s : State) : Keeps (a + 1) a s (takeSettingsGet ring tag first s) := by
  unfold takeSettingsGet
  split
  · exact malformed_keeps ..
  · exact answer_keeps ..

/-! ## Region requests (R152 to R154) -/

theorem applyGroups_state (q : RegionSetReq) (e : RegionEntry) : (applyGroups q e).state = e.state := by
  unfold applyGroups applyPace
  dsimp only
  split <;> split <;> split <;> split <;> rfl

theorem applyEnable_keeps (q : RegionSetReq) (x : Region) (s : State) : Keeps a a s (applyEnable q x s) := by
  unfold applyEnable
  split
  · split
    · rename_i dark _
      exact suspend_keeps (.inr (.inl dark))
    · rename_i live _
      exact suspend_keeps (.inr (.inr live))
    · rename_i suspended _
      exact unsuspend_keeps (.inl suspended)
    · exact .refl s
  · exact .refl s

theorem takeRegionSet_keeps (ring : ReqRing) (q : RegionSetReq) (s : State) : Keeps (a + 1) a s (takeRegionSet ring q s) := by
  refine managed_keeps ?_
  split
  · exact answer_keeps ..
  · split
    · exact answer_keeps ..
    · split
      · exact answer_keeps ..
      · refine .after (answer_keeps ..) (handingOn_keeps_invariants ?_)
        exact .after (modRegion_keeps (.inl (applyGroups_state ..))) (applyEnable_keeps ..)

theorem takeRegionGet_keeps (ring : ReqRing) (tag : Word) (index : Byte) (s : State) : Keeps (a + 1) a s (takeRegionGet ring tag index s) := by
  unfold takeRegionGet
  split <;> exact answer_keeps ..

/-! ## The engine's bursts (R171 to R175) -/

theorem burstTo_keeps (op i : Nat) (st : BurstState) (s : State) : Keeps a a s (burstTo op i st s) := modOp_keeps ..

theorem issueBurst_keeps (s : State) : Keeps a a s (issueBurst s) := by
  unfold issueBurst
  split
  · exact .after (burstTo_keeps ..) (.withHme ..)
  · split
    · exact .after (burstTo_keeps ..) (.withHme ..)
    · exact .refl s

/-! ## Completion writes and the interrupt (R186, R190) -/

theorem handEntry_keeps (i : Nat) (e : BacklogEntry) (s : State) : Keeps a a s (handEntry i e s) :=
  .after (addWrite_keeps ..) (.after (.withRings ..) (.withBacklog_of_le (by simp) rfl))

theorem markEntry_keeps (op : Nat) (st : WriteState) (s : State) : Keeps a a s (markEntry op st s) := .withBacklog_of_le (by simp) rfl

theorem countEntries_keeps (n : Nat) (s : State) : Keeps a a s (countEntries n s) := by
  unfold countEntries
  split
  · exact .refl s
  · dsimp only
    split
    · exact (raiseEntries_keeps _).after (.withIrq rfl rfl)
    · exact .withIrq rfl rfl

theorem popEntries_keeps (n : Nat) (s : State) : Keeps a a s (popEntries n s) :=
  Keeps.after (.withRings ..) (.withBacklog_of_le (v := { s.backlog with entries := s.backlog.entries.drop n }) (by simp) rfl)

theorem leaveBacklog_keeps (s : State) : Keeps a a s (leaveBacklog s) := by
  unfold leaveBacklog
  dsimp only
  split
  · exact .refl s
  · exact (serve_keeps _).after ((countEntries_keeps ..).after (popEntries_keeps ..))

end Sys2Proof.Machine
end

section
/-! PROOFS. The other commands keep the invariants: start-up and resets, the window, convergence, transfers, regions and the WAN Port. -/

namespace Sys2Proof.Machine

variable {a : Nat}

/-! ## Start-up and resets (R155, R179, R180, R194, R195) -/

theorem vget_replicate {α : Type} {n : Nat} (x : α) (i : Fin n) : vget (Vector.replicate n x) i = x := Vector.getElem_replicate _

theorem vget_ofFn {α : Type} {n : Nat} (f : Fin n → α) (i : Fin n) : vget (Vector.ofFn f) i = f i := Vector.getElem_ofFn _

/-- R138, R155: the Region Table of an image, and that of no image, is legal. -/
theorem regionsLegal_of_image {s : State} (h : s.regions = (s.start.image.map regionsOf).getD .reset) : RegionsLegal s := by
  intro x
  cases image : s.start.image with
  | none =>
    rw [image] at h
    show (vget s.regions.entry x).state = .absent
    rw [h]
    exact congrArg RegionEntry.state (vget_replicate ..)
  | some im =>
    rw [image] at h
    have entry : s.region x = regionEntryOf im x := by
      show vget s.regions.entry x = _
      rw [h]
      exact vget_ofFn ..
    dsimp only
    rw [entry]
    unfold regionEntryOf
    split
    · rename_i own
      rw [if_pos own.2]
      exact if_pos own.1
    · rename_i notOwn
      split
      · rename_i outside
        rw [if_neg (Nat.not_lt.mpr outside)]
        rfl
      · rename_i inside
        have below := Nat.not_le.mp inside
        rw [if_pos below]
        exact .inr (.inl (if_neg fun own => notOwn ⟨own, below⟩))

theorem contextsBounded_of_reset {s : State} (h : s.pool = .reset) : ContextsBounded s := by
  have none_ : ∀ p : Ctx → Bool, p .free = false → ((Vector.replicate 64 Ctx.free).toList.filter p).length = 0 := by
    intro p hp
    rw [length_filter_toList, List.length_eq_zero_iff, List.filter_eq_nil_iff]
    intro i _
    rw [vget_replicate, hp]
    exact Bool.false_ne_true
  unfold ContextsBounded
  rw [h]
  exact ⟨(none_ _ rfl).trans_le (Nat.zero_le _), (none_ _ rfl).trans_le (Nat.zero_le _)⟩

/-- Every block that an invariant speaks of stands at its value after a reset. -/
structure ResetBlocks (s : State) : Prop where
  queue : s.wan.queue = []
  fifo : s.inbound.fifo = []
  trigger : s.irq.trigger = 1
  coalesce : s.irq.coalesce = 0
  pubs : s.reqs.pubs = []
  accepts : s.reqs.accepts = []
  batches : s.reqs.batches = []
  hold : s.bmc.hold = Vector.replicate 4 none
  pool : s.pool = .reset
  records : s.table.records = []
  regions : s.regions = (s.start.image.map regionsOf).getD .reset
  entries : s.backlog.entries = []
  reservations : s.backlog.reservations = 0

namespace ResetBlocks

variable {s : State} (h : ResetBlocks s)

include h

theorem controlQueueBounded : ControlQueueBounded s := by rw [ControlQueueBounded, h.queue]; exact Nat.zero_le _

theorem stagingBounded : StagingBounded s := by rw [StagingBounded, h.fifo]; exact Nat.zero_le _

theorem interruptLegal : InterruptLegal s := ⟨.inl h.trigger, by rw [h.coalesce]; exact Nat.zero_le _⟩

theorem hold_none (n : Fin 4) : vget s.bmc.hold n = none := by rw [h.hold, vget_replicate]

theorem numbersFresh : NumbersFresh s := by
  refine ⟨fun p hp => ?_, fun n p hp => ?_, fun p hp => ?_, fun p hp => ?_⟩
  · rw [h.pubs] at hp
    cases hp
  · rw [h.hold_none] at hp
    cases hp
  · rw [h.accepts] at hp
    cases hp
  · rw [h.batches] at hp
    cases hp

theorem loadsFresh : LoadsFresh s := by
  intro p hp
  rw [h.pubs] at hp
  cases hp

theorem contextsBounded : ContextsBounded s := contextsBounded_of_reset h.pool

theorem tableLegal : TableLegal s := by
  refine ⟨by rw [h.records]; exact .nil, fun n => ?_⟩
  rw [Table.inSet, h.records]
  exact Nat.zero_le _

theorem regionsLegal : RegionsLegal s := regionsLegal_of_image h.regions

theorem backlogRoom : BacklogRoom 0 s := by
  have parked : (s.bmc.hold.toList.filter Option.isSome).length = 0 := by
    rw [length_filter_toList, List.length_eq_zero_iff, List.filter_eq_nil_iff]
    intro n _
    rw [h.hold_none]
    exact Bool.false_ne_true
  have flight : s.inFlight = 0 := by rw [State.inFlight, parked, h.pubs, h.accepts, h.batches]; rfl
  refine ⟨?_, ?_, ?_⟩
  · rw [flight, h.reservations]
  · rw [h.reservations]
    exact Nat.zero_le _
  · rw [h.entries, h.reservations]
    exact Nat.zero_le _

/-- A reset keeps every invariant, since it makes each hold. -/
theorem keeps (t : State) : Keeps 0 0 t s :=
  ⟨fun _ => h.controlQueueBounded, fun _ => h.stagingBounded, fun _ => h.interruptLegal, fun _ => h.numbersFresh, fun _ => h.loadsFresh,
    fun _ => h.contextsBounded, fun _ => h.tableLegal, fun _ => h.regionsLegal, fun _ => h.backlogRoom⟩

end ResetBlocks

theorem coldReset_resetBlocks (s : State) : ResetBlocks (coldReset s) := ⟨rfl, rfl, rfl, rfl, rfl, rfl, rfl, rfl, rfl, rfl, rfl, rfl, rfl⟩

theorem functionReset_resetBlocks (s : State) : ResetBlocks (functionResetValues s) := ⟨rfl, rfl, rfl, rfl, rfl, rfl, rfl, rfl, rfl, rfl, rfl, rfl, rfl⟩

theorem reset_resetBlocks : ResetBlocks State.reset := ⟨rfl, rfl, rfl, rfl, rfl, rfl, rfl, rfl, rfl, rfl, rfl, rfl, rfl⟩

theorem loadImage_keeps (flash : Option (List Byte)) (s : State) : Keeps a a s (loadImage flash s) := by
  unfold loadImage
  split
  · exact .withStart rfl
  · exact ⟨id, id, id, id, id, id, id, fun _ => regionsLegal_of_image rfl, id⟩

theorem run_keeps (s : State) : Keeps a a s (run s) := by
  unfold run
  split
  · split
    · dsimp only
      split
      · exact .withStart rfl
      · exact (raise_keeps _).after (.withStart rfl)
    · exact .after (.withRegions fun _ => .inl rfl) (.after (.withRings ..) (.withStart rfl))
  · exact .refl s

theorem enterResetting_keeps (s : State) : Keeps a a s (enterResetting s) := by
  unfold enterResetting
  split
  · exact .after (.withRings ..) (.after (.withWan (.inr (Nat.zero_le _))) (.after (.withHme ..) (.after (.withIrq rfl rfl) (.withStart rfl))))
  · exact .refl s

theorem controlWrite_keeps (word : Word) (s : State) : Keeps a a s (controlWrite word s) := by
  unfold controlWrite
  split
  · exact enterResetting_keeps s
  · split
    · exact run_keeps s
    · exact .refl s

/-! ## The register window (R178) -/

theorem writeProducer_keeps (ring : ReqRing) (v : Word) (s : State) : Keeps a a s (writeProducer ring v s) := by
  unfold writeProducer
  dsimp only
  split
  · split
    · exact modRing_keeps ..
    · exact faultRing_keeps ..
  · exact .refl s

theorem writeConsumer_keeps (v : Word) (s : State) : Keeps a a s (writeConsumer v s) := by
  unfold writeConsumer
  split
  · split
    · exact modRing_keeps ..
    · exact faultRing_keeps ..
  · exact .refl s

theorem writeRestart_keeps (name : RingName) (word : Word) (s : State) : Keeps a a s (writeRestart name word s) := by
  unfold writeRestart
  split
  · exact modRing_keeps ..
  · exact .refl s

theorem writeTrigger_keeps (v : Word) (s : State) : Keeps a a s (writeTrigger v s) := by
  unfold writeTrigger
  split
  · rename_i legal
    simp only [Bool.and_eq_true, Bool.or_eq_true, beq_iff_eq] at legal
    have written : Keeps a a s (s.withIrq { s.irq with trigger := v }) :=
      ⟨id, id, fun h => ⟨or_assoc.mp (or_assoc.mp legal.2), h.2⟩, id, id, id, id, id, id⟩
    dsimp only
    split
    · exact written.trans (raiseEntries_keeps _)
    · exact written
  · exact .refl s

theorem writeCoalesce_keeps (v : Word) (s : State) : Keeps a a s (writeCoalesce v s) := by
  unfold writeCoalesce
  split
  · rename_i legal
    rw [Bool.and_eq_true, decide_eq_true_eq] at legal
    exact ⟨id, id, fun h => ⟨h.1, legal.2⟩, id, id, id, id, id, id⟩
  · exact .refl s

theorem writeFaultClear_keeps (word : Word) (s : State) : Keeps a a s (writeFaultClear word s) := by
  unfold writeFaultClear
  split
  · exact .withHme ..
  · exact .refl s

theorem writeGroup_keeps (name : RingName) (f : Ring → Ring) (s : State) : Keeps a a s (writeGroup name f s) := by
  unfold writeGroup
  split
  · exact modRing_keeps ..
  · exact .refl s

theorem writeRingGroup_keeps (name : RingName) (field : Nat) (v : Word) (s : State) : Keeps a a s (writeRingGroup name field v s) := by
  unfold writeRingGroup
  split
  · exact writeGroup_keeps ..
  · exact writeGroup_keeps ..
  · exact writeGroup_keeps ..
  · split
    · exact writeProducer_keeps ..
    · exact writeProducer_keeps ..
    · exact .refl s
  · split
    · exact writeConsumer_keeps ..
    · exact .refl s
  · exact writeRestart_keeps ..
  · exact .refl s

theorem writeRegister_keeps (index : BitVec 10) (v : Word) (s : State) : Keeps a a s (writeRegister index v s) := by
  unfold writeRegister
  dsimp only
  split
  · split
    · exact controlWrite_keeps ..
    · exact .refl s
  split
  · exact writeRingGroup_keeps ..
  split
  · exact writeRingGroup_keeps ..
  split
  · exact writeRingGroup_keeps ..
  split
  · exact writeTrigger_keeps ..
  split
  · exact writeCoalesce_keeps ..
  split
  · exact writeFaultClear_keeps ..
  · exact .refl s

theorem readCause_keeps (s : State) : Keeps a a s (readCause s) := by
  unfold readCause
  split <;> exact .withIrq rfl rfl

theorem restartEffect_keeps (name : RingName) (s : State) : Keeps a a s (restartEffect name s) := by
  unfold restartEffect
  split
  · split
    · exact modRing_keeps ..
    · dsimp only
      split
      · exact .after (.withBacklog_of_le (by simp) rfl) (.after (.withIrq rfl rfl) (.after (.withRings ..) (modRing_keeps ..)))
      · exact modRing_keeps ..
  · exact .refl s

/-! ## Convergence (R68 to R81) -/

theorem grantTo_keeps {x : Region} {c : CtxNo} {r : Record} {s : State} (few : s.pool.outCount < 48) : Keeps a a s (grantTo x c r s) := by
  refine .after (sendCtl_keeps ..) (.after (.withSched ..) (.after (modSlot_keeps ..) (.after (workLeave_keeps ..) ?_)))
  exact .after (.withPool (.inl le_rfl) (.inl le_rfl)) (setCtx_keeps (fun _ => .inr few) fun h => nomatch h)

theorem leaveSlot_keeps (k : Key) (x : Region) (sl : Slot) (s : State) : Keeps a a s (leaveSlot k x sl s) := by
  unfold leaveSlot
  split
  · exact workLeave_keeps ..
  · exact confirmLeave_keeps ..
  · split
    · exact endOutbound_keeps ..
    · exact .refl s
  · split
    · exact endOutbound_keeps ..
    · exact .refl s
  · exact .refl s

theorem confirmCommitted_keeps (x : Region) (k : Key) (v : Version) (s : State) : Keeps a a s (confirmCommitted x k v s) := by
  unfold confirmCommitted
  split
  · split
    · exact .refl s
    · exact (pressureCheck_keeps _).after ((finish_keeps ..).after (leaveSlot_keeps ..))
  · exact .refl s

theorem confirmRejected_keeps (x : Region) (k : Key) (v : Version) (s : State) : Keeps a a s (confirmRejected x k v s) := by
  unfold confirmRejected
  split
  · split
    · exact .refl s
    · exact (failSlot_keeps ..).after (leaveSlot_keeps ..)
  · exact .refl s

theorem abandonWork_keeps (r : Record) (x : Region) (s : State) : Keeps a a s (abandonWork r x s) := by
  unfold abandonWork
  dsimp only
  split
  · exact (sendCtl_keeps ..).after (leaveSlot_keeps ..)
  · exact leaveSlot_keeps ..

theorem takeAbandon_keeps (ring : ReqRing) (tag : Word) (k : Key) (region : Byte) (s : State) : Keeps (a + 1) a s (takeAbandon ring tag k region s) := by
  unfold takeAbandon
  split
  · exact answer_keeps ..
  · split
    · exact answer_keeps ..
    · split
      · exact .after (answer_keeps ..) ((pressureCheck_keeps _).after ((settleTest_keeps ..).after ((slotTo_keeps ..).after (abandonWork_keeps ..))))
      · exact answer_keeps ..

theorem takeRetry_keeps (ring : ReqRing) (tag : Word) (k : Key) (region : Byte) (s : State) : Keeps (a + 1) a s (takeRetry ring tag k region s) := by
  unfold takeRetry
  split
  · exact answer_keeps ..
  · split
    · exact answer_keeps ..
    · split
      · exact .after (answer_keeps ..) ((requeue_keeps ..).after (modSlot_keeps ..))
      · exact answer_keeps ..

theorem foldl_deferOne_keeps (x : Region) (queue : List Key) (acc : State × Nat) : Keeps a a acc.1 (queue.foldl (deferOne x) acc).1 := by
  induction queue generalizing acc with
  | nil => exact .refl _
  | cons k rest ih => exact .trans (.after (settleTest_keeps ..) (slotTo_keeps ..)) (ih (deferOne x acc k))

theorem takeDefer_keeps (ring : ReqRing) (tag : Word) (region : Byte) (s : State) : Keeps (a + 1) a s (takeDefer ring tag region s) := by
  refine managed_keeps ?_
  split
  · exact answer_keeps ..
  · split
    · exact answer_keeps ..
    · exact .after (answer_keeps ..) ((pressureCheck_keeps _).after ((foldl_deferOne_keeps ..).after (.withSched ..)))

/-! ## Inbound transfers (R110 to R135) -/

theorem bindInbound_keeps {c : CtxNo} {r : Record} {x : Region} {s : State} (few : s.pool.inCount < 32) : Keeps a a s (bindInbound c r x s) :=
  .after (sendCtl_keeps ..) (.after (emitRecord_keeps ..) (.after (modRec_keeps ..) (setCtx_keeps (fun h => nomatch h) fun _ => .inr few)))

theorem landTombstone_keeps (r : Record) (x : Region) (s : State) : Keeps a a s (landTombstone r x s) :=
  .after (sendCtl_keeps ..) (.after (emitRecord_keeps ..) (.after (emitRecord_keeps ..) (modRec_keeps ..)))

theorem freshOffer_keeps (k : Key) (x : Region) (s : State) : Keeps a a s (freshOffer k x s) := by
  unfold freshOffer
  split
  · split
    · exact landTombstone_keeps ..
    · split
      · rename_i choice
        refine bindInbound_keeps ?_
        unfold Pool.inboundChoice at choice
        split at choice
        · assumption
        · cases choice
      · exact sendCtl_keeps ..
  · exact .refl s

theorem offerNew_keeps (x : Region) (f : OfferFrame) (kind : Kind) (s : State) : Keeps a a s (offerNew x f kind s) := by
  unfold offerNew
  split
  · rename_i able
    refine (pressureCheck_keeps _).after ((freshOffer_keeps ..).after (joinNew_keeps (r := newRecord f.key (OfferFrame.brings f kind) .remoteRole .waiting []) ?_))
    unfold State.canCreate at able
    rw [Bool.and_eq_true] at able
    exact able.1
  · exact sendCtl_keeps ..

theorem offerSame_keeps (x : Region) (f : OfferFrame) (r : Record) (s : State) : Keeps a a s (offerSame x f r s) := by
  unfold offerSame
  split
  · exact sendCtl_keeps ..
  · split
    · split
      · rename_i bound
        exact .after (sendCtl_keeps ..) (setCtx_inb_keeps bound _)
      · exact .refl s
    · exact .refl s
  · exact freshOffer_keeps ..
  · exact sendCtl_keeps ..
  · split <;> exact sendCtl_keeps ..
  · exact .refl s

theorem answerOffer_keeps (x : Region) (f : OfferFrame) (kind : Kind) (s : State) : Keeps a a s (answerOffer x f kind s) := by
  unfold answerOffer
  split
  · exact offerNew_keeps ..
  · split
    · exact sendCtl_keeps ..
    · split
      · exact (freshOffer_keeps ..).after (supersede_keeps ..)
      · exact offerSame_keeps ..

theorem offerFrame_keeps (x : Region) (f : OfferFrame) (s : State) : Keeps a a s (offerFrame x f s) := by
  unfold offerFrame
  split
  · exact .refl s
  · split
    · exact answerOffer_keeps ..
    · exact .refl s

theorem applyAccept_keeps (r : Record) (c : CtxNo) (xs : List Extent) (s : State) : Keeps a a s (applyAccept r c xs s).1 := by
  unfold applyAccept
  dsimp only
  split
  · exact .after (sendCtl_keeps ..) (.after (emitRecord_keeps ..) (.after (modRec_keeps ..) (releaseInbound_keeps ..)))
  · exact .after (sendCtl_keeps ..) (.after (modRec_keeps ..) (modIn_keeps ..))

theorem decideAccept_keeps (ring : ReqRing) (q : AcceptReq) (xs : List Extent) (s : State) : Keeps (a + 1) a s (decideAccept ring q xs s) := by
  unfold decideAccept
  split
  · exact answer_keeps ..
  · split
    · exact answer_keeps ..
    · exact .after (answer_keeps ..) (applyAccept_keeps ..)

theorem takeAccept_keeps (ring : ReqRing) (q : AcceptReq) (s : State) : Keeps (a + 1) a s (takeAccept ring q s) := by
  unfold takeAccept
  split
  · refine .after (addRead_keeps ..) ((nextId_keeps s).trans (.withReqs (fun ⟨pubs, held, accepts, batches⟩ => ⟨pubs, held, fun b hb => ?_, batches⟩) id ?_))
    · rcases List.mem_append.mp hb with old | new
      · exact accepts b old
      · rw [List.mem_singleton.mp new]
        exact Nat.lt_succ_self _
    · simp only [State.inFlight, State.withReqs_reqs, State.withReqs_bmc, List.length_append, List.length_singleton]
      omega
  · exact decideAccept_keeps ..

theorem onAccept_keeps {request : Nat} {p : Op → Bool} {work : PendingAccept → Op → State → State} (h : ∀ b o t, Keeps (a + 1) a t (work b o t)) (s : State) :
    Keeps a a s (onAccept request p work s) := by
  unfold onAccept
  split
  · rename_i o b _ found
    split
    · refine (h b o _).after (.after (.withReqs (fun ⟨pubs, held, accepts, batches⟩ => ⟨pubs, held, fun d hd => accepts d (List.mem_of_mem_filter hd), batches⟩)
        id ?_) (dropOp_keeps o.id s))
      have less : (s.reqs.accepts.filter fun d => d.id != request).length < s.reqs.accepts.length := by
        refine List.length_filter_lt_length_iff_exists.mpr ⟨b, List.mem_of_find?_eq_some found, ?_⟩
        have named := List.find?_some found
        simpa using named
      simp only [State.inFlight, State.withReqs_reqs, State.withReqs_bmc, dropOp, State.withHme_reqs, State.withHme_bmc]
      omega
    · exact .refl s
  · exact .refl s

theorem applyDecline_keeps (ring : ReqRing) (tag : Word) (k : Key) (v : Version) (have_ : Bool) (s : State) :
    Keeps (a + 1) a s (applyDecline ring tag k v have_ s) := by
  unfold applyDecline
  split
  · exact answer_keeps ..
  · exact .after (answer_keeps ..) (.after (pressureCheck_keeps _) (.after (retireIfDue_keeps ..) (.after (sendCtl_keeps ..)
      (.after (settle_keeps ..) (releaseInbound_keeps ..)))))

theorem takeDecline_keeps (ring : ReqRing) (tag : Word) (k : Key) (v : Version) (reason : Byte) (s : State) :
    Keeps (a + 1) a s (takeDecline ring tag k v reason s) := by
  unfold takeDecline
  split
  · exact applyDecline_keeps ..
  · split
    · exact applyDecline_keeps ..
    · exact malformed_keeps ..

theorem takeVerdict_keeps (kind : ReqKind) (committed : Bool) (ring : ReqRing) (tag : Word) (k : Key) (v : Version) (s : State) :
    Keeps (a + 1) a s (takeVerdict kind committed ring tag k v s) := by
  unfold takeVerdict
  split
  · split
    · exact .after (answer_keeps ..) (.after (pressureCheck_keeps _) (.after (retireIfDue_keeps ..) (.after (sendCtl_keeps ..) (settle_keeps ..))))
    · exact answer_keeps ..
  · exact answer_keeps ..

theorem onInTimer_keeps {c : CtxNo} {st : InState} {act : InCtx → State → State} {s : State} (h : ∀ i, s.ctx c = .inb i → Keeps a a s (act i s)) :
    Keeps a a s (onInTimer c st act s) := by
  unfold onInTimer
  split
  · rename_i i bound
    split
    · exact h i bound
    · exact .refl s
  · exact .refl s

theorem toWaiting_keeps (k : Key) (s : State) : Keeps a a s (toWaiting k s) := modRec_keeps ..

theorem sendHold_keeps (x : Region) (s : State) : Keeps a a s (sendHold x s) := .after (.withInbound (.inl le_rfl)) (sendCtl_keeps ..)

theorem holdTest_keeps (x : Region) (s : State) : Keeps a a s (holdTest x s) := by
  unfold holdTest
  split
  · split
    · exact sendHold_keeps ..
    · split
      · exact sendHold_keeps ..
      · exact .refl s
  · exact .refl s

theorem startHolding_keeps (s : State) : Keeps a a s (startHolding s) := by
  unfold startHolding
  split
  · exact .after (Keeps.foldl (fun t x => sendHold_keeps x t) _ _) (.withInbound (.inl le_rfl))
  · exact .refl s

theorem ackAdvance_keeps (c : CtxNo) (s : State) : Keeps a a s (ackAdvance c s) := by
  unfold ackAdvance
  split
  · rename_i i bound
    dsimp only
    split
    · split
      · split
        · exact .after (emitRecord_keeps ..) (.after (modRec_keeps ..) (.after (releaseInbound_keeps ..) (sendCtl_keeps ..)))
        · exact .after (modRec_keeps ..) (.after (releaseInbound_keeps ..) (sendCtl_keeps ..))
      · exact .after (setCtx_inb_keeps ((State.ctx_of_pool (by simp) c).trans bound) _) (sendCtl_keeps ..)
    · exact .refl s
  · exact .refl s

theorem discardChunk_keeps {c : CtxNo} {i : InCtx} {s : State} (bound : s.ctx c = .inb i) : Keeps a a s (discardChunk c i s) :=
  .after (fifoRemove_keeps ..) (.after (.withInbound (.inl (by simp))) (setCtx_inb_keeps bound _))

theorem chunkComplete_keeps (c : CtxNo) (s : State) : Keeps a a s (chunkComplete c s) := by
  unfold chunkComplete
  split
  · rename_i i bound
    split
    · split
      · exact (ackAdvance_keeps ..).after (setCtx_inb_keeps bound _)
      · exact discardChunk_keeps bound
    · exact .refl s
  · exact .refl s

theorem segmentTaken_keeps {c : CtxNo} {i : InCtx} {g : SegmentFrame} {j : Fin 32} {s : State} (bound : s.ctx c = .inb i) (room : s.inbound.fifo.length < 64) :
    Keeps a a s (segmentTaken c i g j s) := by
  refine (chunkComplete_keeps ..).after ((startHolding_keeps _).after (.after (.withInbound (.inr ?_)) (setCtx_inb_keeps bound _)))
  show (s.inbound.fifo ++ [_]).length ≤ 64
  rw [List.length_append, List.length_singleton]
  exact room

theorem segmentTests_keeps {c : CtxNo} {i : InCtx} {g : SegmentFrame} {computed : BitVec 32} {s : State} (bound : s.ctx c = .inb i) :
    Keeps a a s (segmentTests c i g computed s) := by
  unfold segmentTests
  split
  · exact .refl s
  split
  · exact .refl s
  split
  · exact sendCtl_keeps ..
  split
  · exact .refl s
  split
  · split
    · exact .refl s
    · split
      · exact .refl s
      · rename_i room
        exact segmentTaken_keeps bound (Nat.not_le.mp room)
  · exact .refl s

theorem segmentUnclaimed_keeps (x : Region) (g : SegmentFrame) (s : State) : Keeps a a s (segmentUnclaimed x g s) := by
  unfold segmentUnclaimed
  split
  · split
    · exact sendCtl_keeps ..
    · exact .refl s
  · exact .refl s

theorem segmentFrame_keeps (x : Region) (g : SegmentFrame) (computed : BitVec 32) (s : State) : Keeps a a s (segmentFrame x g computed s) := by
  unfold segmentFrame
  dsimp only
  split
  · split
    · rename_i bound
      exact (segmentTests_keeps bound).after (holdTest_keeps ..)
    · exact holdTest_keeps ..
  · exact (segmentUnclaimed_keeps ..).after (holdTest_keeps ..)

theorem issueEntry_keeps (e : FifoEntry) (n : Nat) (s : State) : Keeps a a s (issueEntry e n s) := .after (addOp_keeps ..) (.withInbound (.inl (by simp)))

theorem drainCheck_keeps (c : CtxNo) (i : InCtx) (s : State) : Keeps a a s (drainCheck c i s) := by
  unfold drainCheck
  split
  · exact (pressureCheck_keeps _).after (drainFree_keeps ..)
  · exact .refl s

theorem writeEnded_keeps (op : Nat) (s : State) : Keeps a a s (writeEnded op s) := (fifoRemove_keeps ..).after (dropOp_keeps ..)

theorem writeDone_keeps (c : CtxNo) (op : Nat) (s : State) : Keeps a a s (writeDone c op s) := by
  unfold writeDone
  dsimp only
  split
  · split
    · exact (drainCheck_keeps ..).after (writeEnded_keeps ..)
    · exact (ackAdvance_keeps ..).after (writeEnded_keeps ..)
  · exact writeEnded_keeps ..

theorem writeFailed_keeps (c : CtxNo) (op : Nat) (s : State) : Keeps a a s (writeFailed c op s) := by
  unfold writeFailed
  dsimp only
  split
  · split
    · exact (drainCheck_keeps ..).after (writeEnded_keeps ..)
    · exact (sendCtl_keeps ..).after ((cancelDrain_keeps ..).after ((toWaiting_keeps ..).after (writeEnded_keeps ..)))
  · exact writeEnded_keeps ..

theorem withdrawFrame_keeps (x : Region) (k : Key) (v : Version) (s : State) : Keeps a a s (withdrawFrame x k v s) := by
  unfold withdrawFrame
  split
  · split
    · unfold withdrawRecord
      dsimp only
      split
      · exact (emitRecord_keeps ..).after (toWaiting_keeps ..)
      · exact (cancelDrain_keeps ..).after (toWaiting_keeps ..)
      · exact toWaiting_keeps ..
    · exact .refl s
  · exact .refl s

/-! ## Regions (R140 to R151) -/

theorem countMiss_state (e : RegionEntry) : (RegionEntry.countMiss e).state = e.state := by
  unfold RegionEntry.countMiss
  split <;> rfl

theorem darkAtLimit_keeps (s : State) (x : Region) : Keeps a a s (darkAtLimit s x) := by
  unfold darkAtLimit
  split
  · rename_i live
    rw [Bool.and_eq_true, beq_iff_eq] at live
    exact becomeDark_keeps (.inr (.inr live.1))
  · exact .refl s

theorem sendProbe_keeps (s : State) (x : Region) : Keeps a a s (sendProbe s x) := by
  unfold sendProbe
  split
  · exact sendCtl_keeps ..
  · exact .refl s

/-- The state with the probe timer started in full (R141). -/
def restartProbe (s : State) : State := s.withRegions { s.regions with probe := some (s.now + s.settingTime 6) }

theorem restartProbe_keeps (s : State) : Keeps a a s (restartProbe s) := .withRegions fun _ => .inl rfl

/-- R141: the steps of a probe expiry, one after the other. -/
theorem probeExpiry_eq (s : State) : probeExpiry s = restartProbe ((List.finRange 8).foldl sendProbe ((List.finRange 8).foldl darkAtLimit
    (s.withRegions { s.regions with entry := s.regions.entry.map RegionEntry.countMiss }))) := by
  simp only [probeExpiry, restartProbe]

theorem probeExpiry_keeps (s : State) : Keeps a a s (probeExpiry s) := by
  have counted : Keeps a a s (s.withRegions { s.regions with entry := s.regions.entry.map RegionEntry.countMiss }) :=
    .withRegions fun x => .inl (by rw [vget_map]; exact countMiss_state _)
  rw [probeExpiry_eq]
  exact (restartProbe_keeps _).after ((Keeps.foldl sendProbe_keeps _ _).after ((Keeps.foldl darkAtLimit_keeps _ _).after counted))

theorem holdFrame_keeps (x : Region) (time : Nat) (s : State) : Keeps a a s (holdFrame x time s) := by
  unfold holdFrame
  split
  · exact handingOn_keeps_invariants (modRegion_keeps (.inl rfl))
  · exact .refl s

theorem endHold_keeps (x : Region) (s : State) : Keeps a a s (endHold x s) := handingOn_keeps_invariants (modRegion_keeps (.inl rfl))

theorem windowEnds_state (e : RegionEntry) : (RegionEntry.windowEnds e).state = e.state := by
  unfold RegionEntry.windowEnds
  split <;> rfl

/-! ## Outbound transfers (R88 to R107) -/

theorem onOutbound_keeps {x : Region} {k : Key} {v : Version} {act : CtxNo → OutCtx → State → State} {s : State}
    (h : ∀ c o, s.ctx c = .out o → Keeps a a s (act c o s)) : Keeps a a s (onOutbound x k v act s) := by
  unfold onOutbound
  split
  · split
    · rename_i bound
      exact h _ _ bound
    · exact .refl s
  · exact .refl s

theorem onOffering_keeps {x : Region} {k : Key} {v : Version} {act : CtxNo → OutCtx → State → State} {s : State}
    (h : ∀ c o, s.ctx c = .out o → Keeps a a s (act c o s)) : Keeps a a s (onOffering x k v act s) := by
  refine onOutbound_keeps fun c o bound => ?_
  split
  · exact h c o bound
  · exact .refl s

theorem replyAccepted_keeps (x : Region) (k : Key) (v : Version) (r : Nat) (s : State) : Keeps a a s (replyAccepted x k v r s) := by
  refine onOffering_keeps fun c o bound => ?_
  split
  · exact .refl s
  · split
    · exact (modSlot_keeps ..).after (setCtx_out_keeps bound _)
    · exact (confirming_keeps ..).after (endOutbound_keeps ..)

theorem startBackoff_keeps (x : Region) (s : State) : Keeps a a s (startBackoff x s) := modRegion_keeps (.inl rfl)

theorem abortAndRequeue_keeps (c : CtxNo) (k : Key) (x : Region) (s : State) : Keeps a a s (requeue k x (endOutbound c s)) :=
  (requeue_keeps ..).after (endOutbound_keeps ..)

theorem replyPending_keeps (x : Region) (k : Key) (v : Version) (s : State) : Keeps a a s (replyPending x k v s) :=
  onOffering_keeps fun _ _ bound => setCtx_out_keeps bound _

theorem replyBusy_keeps (x : Region) (k : Key) (v : Version) (s : State) : Keeps a a s (replyBusy x k v s) :=
  onOffering_keeps fun _ _ _ => (startBackoff_keeps ..).after (abortAndRequeue_keeps ..)

theorem replyTimeout_keeps (x : Region) (k : Key) (v : Version) (s : State) : Keeps a a s (replyTimeout x k v s) :=
  onOffering_keeps fun _ _ _ => (startBackoff_keeps ..).after (countRetry_keeps fun _ _ => abortAndRequeue_keeps ..)

theorem replyHave_keeps (x : Region) (k : Key) (v : Version) (s : State) : Keeps a a s (replyHave x k v s) :=
  onOutbound_keeps fun _ _ _ => (pressureCheck_keeps _).after ((finish_keeps ..).after (endOutbound_keeps ..))

theorem replyNewer_keeps (x : Region) (k : Key) (v other : Version) (s : State) : Keeps a a s (replyNewer x k v other s) := by
  refine onOutbound_keeps fun c o bound => ?_
  split
  · exact (pressureCheck_keeps _).after ((finish_keeps ..).after (endOutbound_keeps ..))
  · exact .refl s

theorem replyLanded_keeps (x : Region) (k : Key) (v : Version) (s : State) : Keeps a a s (replyLanded x k v s) :=
  onOffering_keeps fun _ _ _ => (confirming_keeps ..).after (endOutbound_keeps ..)

theorem replyDeclined_keeps (x : Region) (k : Key) (v : Version) (s : State) : Keeps a a s (replyDeclined x k v s) :=
  onOffering_keeps fun _ _ _ => (failSlot_keeps ..).after (endOutbound_keeps ..)

theorem replyAborted_keeps (x : Region) (k : Key) (v : Version) (s : State) : Keeps a a s (replyAborted x k v s) :=
  onOutbound_keeps fun _ _ _ => countRetry_keeps fun _ _ => abortAndRequeue_keeps ..

theorem abortingReadEnded_keeps {c : CtxNo} {b : Fin 2} {o : OutCtx} {s : State} (bound : s.ctx c = .out o) : Keeps a a s (abortingReadEnded c b o s) := by
  unfold abortingReadEnded
  dsimp only
  split
  · exact setCtx_out_keeps bound _
  · exact (pressureCheck_keeps _).after (freeCtx_keeps ..)

theorem readKept_keeps {c : CtxNo} {b : Fin 2} {o : OutCtx} {data : List Byte} {s : State} (bound : s.ctx c = .out o) : Keeps a a s (readKept c b o data s) := by
  unfold readKept
  split
  · exact setCtx_out_keeps bound _
  · exact .refl s

theorem onSegmentRead_keeps {c : CtxNo} {b : Fin 2} {p : Op → Bool} {act : OutCtx → Op → State → State} {s : State}
    (h : ∀ o op t, t.ctx c = .out o → Keeps a a t (act o op t)) : Keeps a a s (onSegmentRead c b p act s) := by
  unfold onSegmentRead
  split
  · rename_i op o _ bound
    split
    · exact (dropOp_keeps op.id s).trans (h o op _ bound)
    · exact .refl s
  · exact .refl s

theorem ackFrame_keeps (x : Region) (k : Key) (v : Version) (e : Nat) (s : State) : Keeps a a s (ackFrame x k v e s) := by
  refine onOutbound_keeps fun c o bound => ?_
  split
  · split
    · exact (confirming_keeps ..).after (endOutbound_keeps ..)
    · exact setCtx_out_keeps bound _
  · exact .refl s

theorem onOutTimer_keeps {c : CtxNo} {st : OutState} {act : OutCtx → State → State} {s : State} (h : ∀ o, s.ctx c = .out o → Keeps a a s (act o s)) :
    Keeps a a s (onOutTimer c st act s) := by
  unfold onOutTimer
  split
  · rename_i o bound
    split
    · exact h o bound
    · exact .refl s
  · exact .refl s

theorem resendOffer_keeps {c : CtxNo} {o : OutCtx} {s : State} (bound : s.ctx c = .out o) : Keeps a a s (resendOffer c o s) := by
  unfold resendOffer
  split
  · exact (sendCtl_keeps ..).after (setCtx_out_keeps bound _)
  · exact .refl s

/-! ## The WAN Port (R157 to R167) -/

theorem replyFrame_keeps (x : Region) (c : List Byte) (s : State) : Keeps a a s (replyFrame x c s) := by
  unfold replyFrame
  dsimp only
  split
  · exact replyAccepted_keeps ..
  · exact replyPending_keeps ..
  · exact replyBusy_keeps ..
  · exact replyTimeout_keeps ..
  · exact replyNewer_keeps ..
  · exact replyLanded_keeps ..
  · exact replyHave_keeps ..
  · exact replyDeclined_keeps ..
  · exact replyAborted_keeps ..
  · exact .refl s

theorem confirmFrame_keeps (x : Region) (c : List Byte) (s : State) : Keeps a a s (confirmFrame x c s) := by
  unfold confirmFrame
  split
  · exact confirmCommitted_keeps ..
  · exact confirmRejected_keeps ..
  · exact .refl s

theorem dispatch_keeps (x : Region) (body : List Byte) (s : State) : Keeps a a s (dispatch x body s) := by
  unfold dispatch
  dsimp only
  split
  · exact offerFrame_keeps ..
  · exact replyFrame_keeps ..
  · exact segmentFrame_keeps ..
  · exact ackFrame_keeps ..
  · exact confirmFrame_keeps ..
  · exact withdrawFrame_keeps ..
  · exact holdFrame_keeps ..
  · exact endHold_keeps ..
  · exact sendCtl_keeps ..
  · exact .refl s
  · exact .refl s

theorem receiveFrame_keeps (bytes : List Byte) (dispatchFirst : Bool) (s : State) : Keeps a a s (receiveFrame bytes dispatchFirst s) := by
  unfold receiveFrame
  split
  · exact .refl s
  · dsimp only
    split
    · exact (heardFrom_keeps ..).after (dispatch_keeps ..)
    · exact (dispatch_keeps ..).after (heardFrom_keeps ..)

theorem transmit_keeps (frame : List Byte) (s : State) : Keeps a a s (transmit frame s) := .withWan (.inl le_rfl)

theorem sendSegment_keeps (c : CtxNo) (s : State) : Keeps a a s (sendSegment c s) := by
  unfold sendSegment
  split
  · rename_i o bound
    split
    · split
      · dsimp only
        have sent : ∀ o' frame, Keeps a a s (transmit frame (setCtx c (.out o') s)) := fun o' frame => (transmit_keeps ..).after (setCtx_out_keeps bound o')
        split
        · unfold burstTest
          split
          · exact (loseGrant_keeps ..).after (sent ..)
          · exact sent ..
        · exact sent ..
      · exact .refl s
    · exact .refl s
  · exact .refl s

theorem giveGrant_keeps (c : CtxNo) (s : State) : Keeps a a s (giveGrant c s) := .after (modOut_keeps ..) (.withWan (.inl le_rfl))

/-- R164 step 2: a grant holder that is no candidate any more loses the grant. -/
def dropStaleHolder (s : State) : State :=
  match s.wan.holder with
  | some c => if s.candidate c then s else loseGrant c s
  | none => s

theorem portSegments_eq (s : State) : portSegments s =
    match (dropStaleHolder s).wan.holder with
    | some c => sendSegment c (dropStaleHolder s)
    | none => match (contextOrder (dropStaleHolder s).wan.lastGranted).find? (dropStaleHolder s).candidate with
      | some c => sendSegment c (giveGrant c (dropStaleHolder s))
      | none => (dropStaleHolder s).withWan { (dropStaleHolder s).wan with tx := none } := by
  rfl

theorem dropStaleHolder_keeps (s : State) : Keeps a a s (dropStaleHolder s) := by
  unfold dropStaleHolder
  split
  · split
    · exact .refl s
    · exact loseGrant_keeps ..
  · exact .refl s

theorem portSegments_keeps (s : State) : Keeps a a s (portSegments s) := by
  rw [portSegments_eq]
  refine (dropStaleHolder_keeps s).trans ?_
  split
  · exact sendSegment_keeps ..
  · split
    · exact (sendSegment_keeps ..).after (giveGrant_keeps ..)
    · exact .withWan (.inl le_rfl)

theorem portReady_keeps (s : State) : Keeps a a s (portReady s) := by
  unfold portReady
  split
  · exact .withWan (.inl le_rfl)
  · split
    · exact .refl s
    · split
      · rename_i queue
        refine (transmit_keeps ..).after (.withWan (.inl ?_))
        rw [queue]
        exact Nat.le_succ _
      · exact portSegments_keeps s

theorem tick_keeps (s : State) : Keeps a a s (tick s) := by
  unfold tick
  dsimp only
  split
  · refine .after (.withRegions fun x => .inl ?_) (.withNow ..)
    rw [vget_map]
    unfold RegionEntry.countDown
    split <;> rfl
  · exact .withNow ..

end Sys2Proof.Machine
end

section
/-! PROOFS. Every command and every step keeps the invariants. -/

namespace Sys2Proof.Machine

/-! ## Requests taken from a ring (R182, R183) -/

theorem route_keeps {a : Nat} (ring : ReqRing) (kind : ReqKind) (e : List Byte) (s : State) : Keeps (a + 1) a s (route ring kind e s) := by
  cases kind
  case publish => exact takePublish_keeps ..
  case delete => exact takeDelete_keeps ..
  case lookup => exact takeLookup_keeps ..
  case lookupBatch => exact takeBatch_keeps ..
  case accept => exact takeAccept_keeps ..
  case decline => exact takeDecline_keeps ..
  case commit => exact takeVerdict_keeps ..
  case reject => exact takeVerdict_keeps ..
  case abandon => exact takeAbandon_keeps ..
  case retry => exact takeRetry_keeps ..
  case settingsGet => exact takeSettingsGet_keeps ..
  case regionGet => exact takeRegionGet_keeps ..
  case settingsSet => exact takeSettingsSet_keeps ..
  case regionSet => exact takeRegionSet_keeps ..
  case bucketLoad => exact takeBucketLoad_keeps ..
  case bucketDeny => exact takeBucketDeny_keeps ..
  case bucketFlush => exact takeBucketFlush_keeps ..
  case defer => exact takeDefer_keeps ..

theorem takeEntry_keeps {a : Nat} (ring : ReqRing) (e : List Byte) (s : State) : Keeps (a + 1) a s (takeEntry ring e s) := by
  unfold takeEntry
  split
  · exact route_keeps ..
  · exact malformed_keeps ..

theorem takeFetched_keeps {a : Nat} (ring : ReqRing) (e : List Byte) (s : State) : Keeps a a s (takeFetched ring e s) := by
  unfold takeFetched
  split
  · rename_i ok
    rw [Bool.and_eq_true] at ok
    exact .after (takeEntry_keeps ..) (.after (modRing_keeps ..) (reserve_keeps ok.1))
  · exact .refl s

/-! ## Commands -/

/-- A command that changes nothing when its condition fails. -/
theorem Keeps.ite {a : Nat} {c : Prop} [Decidable c] {s t : State} (h : c → Keeps a a s t) : Keeps a a s (if c then t else s) := by
  split
  · rename_i hc
    exact h hc
  · exact .refl s

theorem requestTake_keeps (ring : ReqRing) {s t : State} (h : exec (.requestTake ring) s = .next t) : Keeps 0 0 s t := by
  cases h
  split
  · exact .ite fun _ => (dropOp_keeps ..).trans (takeFetched_keeps ..)
  · exact .refl s

theorem tableReadDone_keeps (request : Nat) {s t : State} (h : exec (.extentTableReadDone request) s = .next t) : Keeps 0 0 s t := by
  cases h
  split
  · refine .ite fun _ => ?_
    split
    · rename_i held
      exact (dropOp_keeps ..).trans (parkedTableRead_keeps (Bmc.heldAt_some held).1)
    · split
      · rename_i found
        exact (dropOp_keeps ..).trans (tableRead_keeps (List.mem_of_find?_eq_some found))
      · exact dropOp_keeps ..
  · exact .refl s

theorem tableReadFail_keeps (request : Nat) {s t : State} (h : exec (.extentTableReadFail request) s = .next t) : Keeps 0 0 s t := by
  cases h
  split
  · refine .ite fun _ => ?_
    split
    · rename_i held
      exact .after (answerPub_keeps ..) (.after (freePlace_keeps (Bmc.heldAt_some held).1) (dropOp_keeps ..))
    · split
      · rename_i p found
        exact .after (advanceAfter_keeps ..) (.after (answerPub_keeps ..) (.after (dropPub_keeps ⟨p, List.mem_of_find?_eq_some found, rfl⟩) (dropOp_keeps ..)))
      · exact dropOp_keeps ..
  · exact .refl s

theorem tableControllerApply_keeps (request : Nat) {s t : State} (h : exec (.tableControllerApply request) s = .next t) : Keeps 0 0 s t := by
  cases h
  split
  · rename_i p found
    split
    · exact .ite fun _ => (dropPub_keeps ⟨p, List.mem_of_find?_eq_some found, rfl⟩).trans (applyPub_keeps ..)
    · exact .refl s
  · exact .refl s

theorem resultWriteDone_keeps (request : Nat) {s t : State} (h : exec (.resultWriteDone request) s = .next t) : Keeps 0 0 s t := by
  cases h
  refine onBatch_keeps (fun b o t inBatches => ?_) s
  dsimp only
  split
  · exact (modBatch_keeps ..).trans (batchLookup_keeps ..)
  · exact endBatch_keeps ⟨b, inBatches, rfl⟩

theorem burstComplete_keeps (name : BurstName) (data : List Byte) {s t : State} (h : exec (.burstComplete name data) s = .next t) : Keeps 0 0 s t := by
  cases h
  split
  · exact .ite fun _ => burstTo_keeps ..
  · exact .refl s

theorem burstFail_keeps (name : BurstName) (kind : AnswerFault) {s t : State} (h : exec (.burstFail name kind) s = .next t) : Keeps 0 0 s t := by
  cases h
  split
  · exact .ite fun _ => burstFails_keeps ..
  · exact .refl s

theorem burstTimeout_keeps (name : BurstName) {s t : State} (h : exec (.burstTimeout name) s = .next t) : Keeps 0 0 s t := by
  cases h
  split
  · refine .ite fun _ => ?_
    split
    · exact burstFails_keeps ..
    · exact .after (.withHme ..) (burstTo_keeps ..)
  · exact .refl s

theorem segmentReadIssue_keeps (c : CtxNo) {s t : State} (h : exec (.segmentReadIssue c) s = .next t) : Keeps 0 0 s t := by
  cases h
  split
  · rename_i bound
    split
    · exact .ite fun _ => .after (addOp_keeps ..) (setCtx_out_keeps bound _)
    · exact .refl s
  · exact .refl s

theorem segmentReadDone_keeps (c : CtxNo) (b : Fin 2) {s t : State} (h : exec (.segmentReadDone c b) s = .next t) : Keeps 0 0 s t := by
  cases h
  refine onSegmentRead_keeps fun o op t bound => ?_
  split
  · exact abortingReadEnded_keeps bound
  · exact readKept_keeps bound

theorem segmentReadFail_keeps (c : CtxNo) (b : Fin 2) {s t : State} (h : exec (.segmentReadFail c b) s = .next t) : Keeps 0 0 s t := by
  cases h
  refine onSegmentRead_keeps fun o op t bound => ?_
  split
  · exact abortingReadEnded_keeps bound
  · exact (failSlot_keeps ..).after ((endOutbound_keeps ..).after (setCtx_out_keeps bound _))

theorem carrierLoss_keeps {s t : State} (h : exec .carrierLoss s = .next t) : Keeps 0 0 s t := by
  cases h
  refine .withWan ?_
  split
  · exact .inr (Nat.zero_le _)
  · exact .inl le_rfl

/-- Every command keeps every invariant. -/
theorem exec_keeps (i : Instr) {s t : State} (h : exec i s = .next t) : Keeps 0 0 s t := by
  cases i
  case requestTake ring => exact requestTake_keeps ring h
  case extentTableReadDone request => exact tableReadDone_keeps request h
  case extentTableReadFail request => exact tableReadFail_keeps request h
  case tableControllerApply request => exact tableControllerApply_keeps request h
  case resultWriteDone request => exact resultWriteDone_keeps request h
  case burstComplete name data => exact burstComplete_keeps name data h
  case burstFail name kind => exact burstFail_keeps name kind h
  case burstTimeout name => exact burstTimeout_keeps name h
  case segmentReadIssue c => exact segmentReadIssue_keeps c h
  case segmentReadDone c b => exact segmentReadDone_keeps c b h
  case segmentReadFail c b => exact segmentReadFail_keeps c b h
  case carrierLoss => exact carrierLoss_keeps h
  all_goals cases h
  case coldReset => exact (coldReset_resetBlocks s).keeps s
  case imageLoad => exact .ite fun _ => loadImage_keeps ..
  case run => exact controlWrite_keeps ..
  case functionReset => exact controlWrite_keeps ..
  case pcieFunctionReset => exact enterResetting_keeps s
  case drainEnd => exact .ite fun _ => (functionReset_resetBlocks s).keeps s
  case producerIndexWrite => exact writeProducer_keeps ..
  case completionConsumerIndexWrite => exact writeConsumer_keeps ..
  case restart => exact writeRestart_keeps ..
  case ringRestartEffect => exact restartEffect_keeps ..
  case triggerLevelWrite => exact writeTrigger_keeps ..
  case coalescingTimeWrite => exact writeCoalesce_keeps ..
  case faultClear => exact writeFaultClear_keeps ..
  case causeRead => exact readCause_keeps s
  case registerWrite => exact writeRegister_keeps ..
  case vectorUnmask => split <;> exact .withIrq rfl rfl
  case vectorMask => exact .withIrq rfl rfl
  case carrierReturn => exact .withWan (.inl le_rfl)
  case ringFetch => exact .ite fun _ => addRead_keeps ..
  case ringFetchFail =>
    split
    · exact .ite fun _ => (faultRing_keeps ..).after (dropOp_keeps ..)
    · exact .refl s
  case publish => exact taking_keeps (takePublish_keeps _ _) s
  case delete => exact taking_keeps (takeDelete_keeps _ _) s
  case lookup => exact taking_keeps (takeLookup_keeps _ _ _) s
  case lookupBatch => exact taking_keeps (takeBatch_keeps _ _) s
  case keyTableReadDone => exact onBatch_keeps (fun _ _ _ _ => (batchLookup_keeps ..).after (modBatch_keeps ..)) s
  case keyTableReadFail => exact onBatch_keeps (fun b _ _ inBatches => endBatch_keeps ⟨b, inBatches, rfl⟩) s
  case resultWriteFail => exact onBatch_keeps (fun b _ _ inBatches => endBatch_keeps ⟨b, inBatches, rfl⟩) s
  case accept => exact taking_keeps (takeAccept_keeps _ _) s
  case landingTableReadDone => exact onAccept_keeps (fun _ _ _ => decideAccept_keeps ..) s
  case landingTableReadFail => exact onAccept_keeps (fun _ _ _ => answer_keeps ..) s
  case decline => exact taking_keeps (takeDecline_keeps _ _ _ _ _) s
  case commit => exact taking_keeps (takeVerdict_keeps _ _ _ _ _ _) s
  case reject => exact taking_keeps (takeVerdict_keeps _ _ _ _ _ _) s
  case abandon => exact taking_keeps (takeAbandon_keeps _ _ _ _) s
  case retry => exact taking_keeps (takeRetry_keeps _ _ _ _) s
  case defer => exact taking_keeps (takeDefer_keeps _ _ _) s
  case settingsSet => exact taking_keeps (takeSettingsSet_keeps _ _ _ _) s
  case settingsGet => exact taking_keeps (takeSettingsGet_keeps _ _ _) s
  case regionSet => exact taking_keeps (takeRegionSet_keeps _ _) s
  case regionGet => exact taking_keeps (takeRegionGet_keeps _ _ _) s
  case bucketLoad => exact taking_keeps (takeBucketLoad_keeps _ _) s
  case bucketDeny => exact taking_keeps (takeBucketDeny_keeps _ _ _ _) s
  case bucketFlush => exact taking_keeps (takeBucketFlush_keeps _ _ _ _ _) s
  case missDeadlineExpiry =>
    split
    · rename_i held
      exact .ite fun _ => endWait_keeps held rfl
    · exact .refl s
  case grant =>
    split
    · rename_i next
      refine grantTo_keeps ?_
      unfold State.nextGrant at next
      split at next
      · rename_i may
        rw [Bool.and_eq_true, decide_eq_true_eq] at may
        exact may.2
      · cases next
    · exact .refl s
  case replyTimerExpiry =>
    refine onOutTimer_keeps fun o bound => countRetry_keeps fun t same => resendOffer_keeps ?_
    rw [State.ctx_of_pool same, bound]
  case stallTimerExpiry =>
    refine onOutTimer_keeps fun o bound => countRetry_keeps fun t same => setCtx_out_keeps (o := o) ?_ _
    rw [State.ctx_of_pool same, bound]
  case frameReceive => exact .ite fun _ => receiveFrame_keeps ..
  case frameHeard => exact .ite fun _ => heardFrom_keeps ..
  case offer => exact .ite fun _ => offerFrame_keeps ..
  case replyAccepted => exact .ite fun _ => replyAccepted_keeps ..
  case replyPending => exact .ite fun _ => replyPending_keeps ..
  case replyBusy => exact .ite fun _ => replyBusy_keeps ..
  case replyTimeout => exact .ite fun _ => replyTimeout_keeps ..
  case replyHave => exact .ite fun _ => replyHave_keeps ..
  case replyNewer => exact .ite fun _ => replyNewer_keeps ..
  case replyLanded => exact .ite fun _ => replyLanded_keeps ..
  case replyDeclined => exact .ite fun _ => replyDeclined_keeps ..
  case replyAborted => exact .ite fun _ => replyAborted_keeps ..
  case replyUnknownReason => exact .refl s
  case portReady => exact portReady_keeps s
  case ack => exact .ite fun _ => ackFrame_keeps ..
  case confirmCommitted => exact .ite fun _ => confirmCommitted_keeps ..
  case confirmRejected => exact .ite fun _ => confirmRejected_keeps ..
  case confirmDeadlineExpiry =>
    split
    · exact .ite fun _ => (requeue_keeps ..).after (confirmLeave_keeps ..)
    · exact .refl s
  case segment => exact .ite fun _ => segmentFrame_keeps ..
  case fifoWriteIssue =>
    split
    · exact .ite fun _ => issueEntry_keeps ..
    · exact .refl s
  case segmentWriteDone =>
    split
    · exact .ite fun _ => writeDone_keeps ..
    · exact .refl s
  case segmentWriteFail =>
    split
    · exact .ite fun _ => writeFailed_keeps ..
    · exact .refl s
  case withdraw => exact .ite fun _ => withdrawFrame_keeps ..
  case acceptTimerExpiry =>
    exact onInTimer_keeps fun _ _ => .after (sendCtl_keeps ..) (.after (emitRecord_keeps ..) (.after (toWaiting_keeps ..) (releaseInbound_keeps ..)))
  case idleTimerExpiry => exact onInTimer_keeps fun _ _ => (cancelDrain_keeps ..).after (toWaiting_keeps ..)
  case hold => exact .ite fun _ => holdFrame_keeps ..
  case resume => exact .ite fun _ => endHold_keeps ..
  case probe => exact .ite fun _ => sendCtl_keeps ..
  case echo => exact .refl s
  case probeTimerExpiry => exact .ite fun _ => probeExpiry_keeps s
  case backoffExpiry => exact .ite fun _ => modRegion_keeps (.inl rfl)
  case holdExpiry => exact .ite fun _ => endHold_keeps ..
  case paceWindowEnd => exact .ite fun _ => handingOn_keeps_invariants (modRegion_keeps (.inl (windowEnds_state _)))
  case lingerExpiry => exact .ite fun _ => (pressureCheck_keeps _).after (retireIfDue_keeps ..)
  case completionEntryHand =>
    split
    · exact .ite fun _ => handEntry_keeps ..
    · exact .refl s
  case completionWriteDone => exact .ite fun _ => (leaveBacklog_keeps _).after ((markEntry_keeps ..).after (dropOp_keeps ..))
  case completionWriteFail => exact .ite fun _ => (faultRing_keeps ..).after ((markEntry_keeps ..).after (dropOp_keeps ..))
  case coalescingTimerExpiry => exact .ite fun _ => raiseEntries_keeps s
  case burstIssue => exact issueBurst_keeps s

/-! ## Steps -/

/-- Every step keeps every invariant: it runs the front command on the queue's rest, or lets a microsecond pass. -/
theorem step_keeps {s t : State} (h : step s = .next t) : Keeps 0 0 s t := by
  unfold step at h
  split at h
  · cases h
    exact tick_keeps s
  · exact (Keeps.withPending s _).trans (exec_keeps _ h)

/-- Settles O5: each invariant is a field of what every step keeps. -/
theorem stepKeepsQueuesRegistersAndContextsLegal : Obligations.StepKeepsQueuesRegistersAndContextsLegal :=
  ⟨fun _ _ h => ⟨(step_keeps h).queue, (step_keeps h).staging, (step_keeps h).irq, (step_keeps h).numbers, (step_keeps h).loads⟩,
    fun _ _ bounded h => (step_keeps h).contexts bounded⟩

/-- Settles O6: between two claims no reservation is loose. -/
theorem stepKeepsTheBacklogBounded : Obligations.StepKeepsTheBacklogBounded := fun _ _ bounded h => (step_keeps h).room bounded

/-- Settles O7: the table's records rise by key, and a record is added to a set with a place left alone. -/
theorem stepKeepsTheReplicaTableLegal : Obligations.StepKeepsTheReplicaTableLegal := fun _ _ legal h => (step_keeps h).table legal

/-- Settles O8: a region's entry moves among SUSPENDED, DARK and LIVE alone. -/
theorem stepKeepsRegionStatesLegal : Obligations.StepKeepsRegionStatesLegal := fun _ _ legal h => (step_keeps h).regions legal

end Sys2Proof.Machine
end

section
/-! PROOFS. The step, reset, and the commands that find no claim to make. -/

namespace Sys2Proof.Machine

/-! ## The step (log entry 2) -/

/-- Settles O1: the front of the queue decides the arm of `step`. -/
theorem stepRunsTheFrontCommand : Obligations.StepRunsTheFrontCommand := by
  intro c rest s front
  unfold step
  rw [front]

/-- R150: which pace timers count. -/
theorem counting_iff (e : RegionEntry) : e.counting = true ↔ e.run = true ∧ (e.mode = .alternate ∨ (e.mode = .single ∧ e.phase = .a)) := by
  unfold RegionEntry.counting
  cases e.mode <;> simp

theorem countDown_eq (e : RegionEntry) : RegionEntry.countDown e =
    if e.run = true ∧ (e.mode = .alternate ∨ (e.mode = .single ∧ e.phase = .a)) then { e with remaining := e.remaining - 1 } else e := by
  unfold RegionEntry.countDown
  simp only [counting_iff]

/-- Settles O2: a microsecond passes, and at a whole millisecond in RUNNING each entry counts down as `countDown_eq` says. -/
theorem emptyQueuePassesTime : Obligations.EmptyQueuePassesTime := by
  intro s empty
  refine ⟨tick s, by unfold step; rw [empty], ?_⟩
  unfold tick
  dsimp only
  by_cases due : s.running = true ∧ (s.now + 1) % 1000 = 0
  · rw [if_pos (by simpa using due)]
    refine ⟨rfl, ?_, rfl, fun x => ?_⟩
    · intro block untouched
      cases block
      case clock => exact absurd (by simp) untouched
      case regions => exact absurd (by simp) untouched
      all_goals rfl
    · refine (vget_map ..).trans ((countDown_eq _).trans ?_)
      simp only [due, true_and]
      rfl
  · rw [if_neg (by simpa using due)]
    refine ⟨rfl, ?_, rfl, fun x => ?_⟩
    · intro block untouched
      cases block
      case clock => exact absurd (by simp) untouched
      all_goals rfl
    · exact (if_neg fun h => due ⟨h.1, h.2.1⟩).symm

/-! ## Reset -/

/-- Settles O3. -/
theorem resetHoldsTheGivenValues : Obligations.ResetHoldsTheGivenValues := by
  refine ⟨rfl, fun n => ?rings, rfl, rfl, rfl, rfl, rfl, rfl, fun i => vget_replicate .., rfl, rfl, fun n => vget_replicate ..,
    fun x => ⟨vget_replicate .., vget_replicate ..⟩, rfl, fun c => vget_replicate .., rfl, fun x => ?region, rfl, rfl, rfl, rfl, rfl, rfl, rfl, rfl⟩
  case rings => cases n <;> rfl
  case region => exact congrArg RegionEntry.state (vget_replicate ..)

/-- Settles O4: each invariant follows from the values of the blocks it speaks of. -/
theorem resetMeetsTheInvariants : Obligations.ResetMeetsTheInvariants :=
  have h := reset_resetBlocks
  ⟨h.controlQueueBounded, h.stagingBounded, h.interruptLegal, h.numbersFresh, h.loadsFresh, h.backlogRoom, h.tableLegal, h.contextsBounded, h.regionsLegal⟩

/-! ## Commands without their claim (log entries 1, 3, 4) -/

theorem taking_of_not_takeOk {ring : ReqRing} {s : State} (h : s.takeOk ring = false) (work : State → State) : taking ring work s = s :=
  if_neg (by rw [h]; exact Bool.false_ne_true)

/-- A request whose ring may not be taken from. -/
theorem exec_request_of_not_takeOk {c : Instr} {ring : ReqRing} {s : State} (request : requestRing c = some ring) (h : s.takeOk ring = false) :
    exec c s = .next s := by
  cases c <;> cases request
  all_goals exact congrArg _ (taking_of_not_takeOk h _)

/-- A frame of a region that checks 6 and 9 of R157 do not admit. -/
theorem exec_frame_of_not_admits {c : Instr} {x : Region} {s : State} (frame : frameSource c = some x) (h : s.admits x = false) : exec c s = .next s := by
  have closed : ¬ s.admits x = true := by rw [h]; exact Bool.false_ne_true
  cases c <;> cases frame
  case replyUnknownReason => rfl
  case echo => rfl
  all_goals exact congrArg _ (if_neg closed)

/-- The other commands that act in RUNNING alone: they neither take a request nor are a frame. -/
theorem exec_of_not_running {c : Instr} {s : State} (inside : actsOutsideRunning c = false) (notRequest : requestRing c = none)
    (notFrame : frameSource c = none) (h : s.running = false) : exec c s = .next s := by
  cases c
  all_goals try contradiction
  all_goals refine congrArg Host.Outcome.next ?_
  case producerIndexWrite => simp [writeProducer, h]
  case restart => simp [writeRestart, h]
  case ringRestartEffect => simp [restartEffect, State.restartDue, h]
  case ringFetch => simp [State.takeOk, h]
  case grant => simp [State.nextGrant, h]
  case frameReceive => simp [h]
  case probeTimerExpiry => simp [h]
  case backoffExpiry => simp [h]
  case holdExpiry => simp [h]
  case paceWindowEnd => simp [h]
  case lingerExpiry => simp [h]
  case completionWriteDone => simp [h]
  case completionWriteFail => simp [h]
  case coalescingTimerExpiry => simp [h]
  case requestTake => split <;> simp [h]
  case ringFetchFail => split <;> simp [h]
  case extentTableReadDone => split <;> simp [h]
  case extentTableReadFail => split <;> simp [h]
  case keyTableReadDone =>
    unfold onBatch
    split <;> simp [h]
  case keyTableReadFail =>
    unfold onBatch
    split <;> simp [h]
  case resultWriteDone =>
    unfold onBatch
    split <;> simp [h]
  case resultWriteFail =>
    unfold onBatch
    split <;> simp [h]
  case landingTableReadDone =>
    unfold onAccept
    split <;> simp [h]
  case landingTableReadFail =>
    unfold onAccept
    split <;> simp [h]
  case missDeadlineExpiry => split <;> simp [h]
  case replyTimerExpiry =>
    unfold onOutTimer
    split <;> simp [h]
  case stallTimerExpiry =>
    unfold onOutTimer
    split <;> simp [h]
  case segmentReadDone =>
    unfold onSegmentRead
    split <;> simp [h]
  case segmentReadFail =>
    unfold onSegmentRead
    split <;> simp [h]
  case confirmDeadlineExpiry => split <;> simp [h]
  case fifoWriteIssue => split <;> simp [h]
  case segmentWriteDone => split <;> simp [h]
  case segmentWriteFail => split <;> simp [h]
  case acceptTimerExpiry =>
    unfold onInTimer
    split <;> simp [h]
  case idleTimerExpiry =>
    unfold onInTimer
    split <;> simp [h]
  case completionEntryHand => split <;> simp [h]
  case tableControllerApply =>
    split
    · split <;> simp [h]
    · rfl
  case segmentReadIssue =>
    split
    · split <;> simp [State.mayReadSegment, h]
    · rfl

/-- Settles O9: outside RUNNING no ring may be taken from and no frame is admitted, so the last two claims give most of the first. -/
theorem commandsWithoutTheirClaimChangeNothing : Obligations.CommandsWithoutTheirClaimChangeNothing := by
  refine ⟨fun c s inside stopped => ?_, fun _ _ _ => exec_request_of_not_takeOk, fun _ _ _ => exec_frame_of_not_admits⟩
  cases request : requestRing c with
  | some ring => exact exec_request_of_not_takeOk request (by simp [State.takeOk, stopped])
  | none =>
    cases frame : frameSource c with
    | some x => exact exec_frame_of_not_admits frame (by simp [State.admits, stopped])
    | none => exact exec_of_not_running inside request frame stopped

end Sys2Proof.Machine
end

section
/-! PROOFS. Refused requests, start-up, resets, index writes, restart and the interrupt controls. -/

namespace Sys2Proof.Machine

/-! ## Frames -/

/-- The blocks one by one. -/
theorem keepsAllBut_iff {touched : List Block} {s t : State} : KeepsAllBut touched s t ↔
    (.clock ∉ touched → t.now = s.now) ∧ (.startUp ∉ touched → t.start = s.start) ∧ (.settings ∉ touched → t.settings = s.settings) ∧
    (.rings ∉ touched → t.rings = s.rings) ∧ (.backlog ∉ touched → t.backlog = s.backlog) ∧ (.irq ∉ touched → t.irq = s.irq) ∧
    (.requests ∉ touched → t.reqs = s.reqs) ∧ (.cache ∉ touched → t.bmc = s.bmc) ∧ (.table ∉ touched → t.table = s.table) ∧
    (.lists ∉ touched → t.sched = s.sched) ∧ (.contexts ∉ touched → t.pool = s.pool) ∧ (.staging ∉ touched → t.inbound = s.inbound) ∧
    (.regions ∉ touched → t.regions = s.regions) ∧ (.port ∉ touched → t.wan = s.wan) ∧ (.engine ∉ touched → t.hme = s.hme) ∧
    (.queue ∉ touched → t.pending = s.pending) := by
  constructor
  · exact fun h => ⟨h .clock, h .startUp, h .settings, h .rings, h .backlog, h .irq, h .requests, h .cache, h .table, h .lists, h .contexts, h .staging,
      h .regions, h .port, h .engine, h .queue⟩
  · rintro ⟨h1, h2, h3, h4, h5, h6, h7, h8, h9, h10, h11, h12, h13, h14, h15, h16⟩ block untouched
    cases block
    exacts [h1 untouched, h2 untouched, h3 untouched, h4 untouched, h5 untouched, h6 untouched, h7 untouched, h8 untouched, h9 untouched, h10 untouched,
      h11 untouched, h12 untouched, h13 untouched, h14 untouched, h15 untouched, h16 untouched]

theorem KeepsAllBut.trans {xs ys zs : List Block} {s t u : State} (h : KeepsAllBut xs s t) (k : KeepsAllBut ys t u) (hx : xs ⊆ zs) (hy : ys ⊆ zs) :
    KeepsAllBut zs s u := by
  intro block untouched
  have first := h block fun m => untouched (hx m)
  have second := k block fun m => untouched (hy m)
  cases block <;> exact Eq.trans second first

/-- A raise changes the interrupt state alone: one message sent or held. -/
theorem raise_raises {s : State} (may : s.mayRaise = true) : KeepsAllBut [.irq] s (raise s) ∧ MessageRaised s.irq (raise s).irq := by
  refine ⟨keepsAllBut_iff.mpr (by simp), ?_⟩
  unfold raise MessageRaised
  rw [if_pos may]
  split <;> rfl

theorem mayRaise_of_running {s : State} (h : s.running = true) : s.mayRaise = true := by
  unfold State.running at h
  unfold State.mayRaise
  rw [h, Bool.or_true]

/-! ## Rings (R178, R192) -/

@[simp] theorem Rings.get_set_self (r : Rings) (name : RingName) (v : Ring) : (r.set name v).get name = v := by cases name <;> rfl

theorem Rings.get_set_of_ne (r : Rings) {name other : RingName} (h : other ≠ name) (v : Ring) : (r.set name v).get other = r.get other := by
  cases name <;> cases other <;> first | rfl | exact absurd rfl h

theorem Rings.set_writePos (r : Rings) (name : RingName) (v : Ring) : (r.set name v).writePos = r.writePos := by cases name <;> rfl

theorem Rings.set_writePhase (r : Rings) (name : RingName) (v : Ring) : (r.set name v).writePhase = r.writePhase := by cases name <;> rfl

/-- One ring's group changed: the other groups, the write position and phase stand. -/
theorem modRing_changes (name : RingName) (f : Ring → Ring) (s : State) :
    KeepsAllBut [.rings] s (modRing name f s) ∧ OtherRings name s (modRing name f s) ∧ (modRing name f s).rings.get name = f (s.rings.get name) :=
  ⟨keepsAllBut_iff.mpr (by simp), ⟨fun _ h => Rings.get_set_of_ne _ h _, Rings.set_writePos .., Rings.set_writePhase ..⟩, Rings.get_set_self ..⟩

/-- R192: a ring that is not FAULTED becomes so. -/
theorem faultRing_faults {name : RingName} {why : RingReason} {s : State} (up : (s.rings.get name).state ≠ .faulted) (may : s.mayRaise = true) :
    KeepsAllBut [.rings, .irq] s (faultRing name why s) ∧ RingFaulted name why s (faultRing name why s) := by
  obtain ⟨kept, others, changed⟩ := modRing_changes name (fun r => { r with state := .faulted, reason := some why }) s
  unfold faultRing
  rw [if_neg (by simpa using up)]
  dsimp only
  cases pending : s.ringFaultPending with
  | true =>
    rw [if_pos rfl]
    exact ⟨keepsAllBut_iff.mpr (by simp), changed, others, fun _ => by simp, fun h => absurd h (by rw [pending]; decide)⟩
  | false =>
    rw [if_neg Bool.false_ne_true]
    obtain ⟨keptIrq, raised⟩ := raise_raises (s := modRing name (fun r => { r with state := .faulted, reason := some why }) s) may
    have rings := keptIrq .rings (by simp)
    unfold Block.same at rings
    exact ⟨keepsAllBut_iff.mpr (by simp), by rw [rings]; exact changed, by unfold OtherRings; rw [rings]; exact others,
      fun h => absurd h (by rw [pending]; decide), fun _ => raised⟩

theorem ringFaultPending_iff (s : State) :
    s.ringFaultPending = true ↔ (∃ n, (s.rings.get n).state = .faulted) ∨ s.start.startFault ≠ none := by
  unfold State.ringFaultPending
  simp only [Bool.or_eq_true, beq_iff_eq, Option.isSome_iff_ne_none]
  refine or_congr_left ⟨?_, ?_⟩
  · rintro ((h | h) | h)
    exacts [⟨.data, h⟩, ⟨.management, h⟩, ⟨.completion, h⟩]
  · rintro ⟨n, h⟩
    cases n
    exacts [.inl (.inl h), .inl (.inr h), .inr h]

/-! ## Refused requests (R183) -/

theorem exec_lookupBatch (ring : ReqRing) (q : BatchReq) (s : State) : exec (.lookupBatch ring q) s = .next (taking ring (takeBatch ring q) s) := rfl
theorem exec_decline (ring : ReqRing) (tag : Word) (k : Key) (v : Version) (reason : Byte) (s : State) :
    exec (.decline ring tag k v reason) s = .next (taking ring (takeDecline ring tag k v reason) s) := rfl
theorem exec_settingsSet (ring : ReqRing) (tag : Word) (mask : BitVec 16) (values : Vector Word 14) (s : State) :
    exec (.settingsSet ring tag mask values) s = .next (taking ring (takeSettingsSet ring tag mask values) s) := rfl
theorem exec_regionSet (ring : ReqRing) (q : RegionSetReq) (s : State) : exec (.regionSet ring q) s = .next (taking ring (takeRegionSet ring q) s) := rfl
theorem exec_bucketLoad (ring : ReqRing) (q : BucketLoadReq) (s : State) : exec (.bucketLoad ring q) s = .next (taking ring (takeBucketLoad ring q) s) := rfl
theorem exec_bucketDeny (ring : ReqRing) (tag : Word) (tenant : Byte) (bucket : BitVec 32) (s : State) :
    exec (.bucketDeny ring tag tenant bucket) s = .next (taking ring (takeBucketDeny ring tag tenant bucket) s) := rfl
theorem exec_defer (ring : ReqRing) (tag : Word) (region : Byte) (s : State) :
    exec (.defer ring tag region) s = .next (taking ring (takeDefer ring tag region) s) := rfl

/-- R183: on the Data Ring a management kind completes PRIVILEGED. -/
theorem managed_data (tag : Word) (kind : ReqKind) (work : State → State) (s : State) :
    managed .data tag kind work s = answer .data tag kind .privileged .plain s := rfl

/-- A mask of 16 bits selects a setting above 13 when bit 14 or 15 is set. -/
theorem mask_out_of_range_iff (mask : BitVec 16) : 2 ^ 14 ≤ mask.toNat ↔ mask.getLsbD 14 = true ∨ mask.getLsbD 15 = true := by
  have below := mask.isLt
  simp only [BitVec.getLsbD, Nat.testBit_eq_decide_div_mod_eq, decide_eq_true_eq]
  omega

theorem reason_not_known_iff (b : Byte) : b.toNat ∉ [1, 2] ↔ ¬ b = 1 ∧ ¬ b = 2 := by
  simp [← BitVec.toNat_inj]

/-- Settles O10: each refusal is the one completion of the request, whose own reservation becomes the entry (`complete_reserve`). -/
theorem refusedRequestsOnlyComplete : Obligations.RefusedRequestsOnlyComplete := by
  intro s ring tag ok
  refine ⟨?batch, ?flush, ?decline, ?settingsSet, ?settingsGet, ?privileged⟩
  case batch =>
    rintro q rfl bad
    rw [exec_lookupBatch, taking_of_takeOk ok, takeBatch, if_pos bad]
    exact congrArg _ (complete_reserve ring q.tag 0x04 .malformed _ s)
  case flush => exact fun scope tenant bucket bad => exec_bucketFlush_of_bad_scope ok bad tag tenant bucket
  case decline =>
    intro k v reason bad
    obtain ⟨notHave, notRefuse⟩ := (reason_not_known_iff reason).mp bad
    rw [exec_decline, taking_of_takeOk ok, takeDecline, if_neg notHave, if_neg notRefuse]
    exact congrArg _ (complete_reserve ring tag 0x06 .malformed _ s)
  case settingsSet =>
    intro mask values bad
    rw [exec_settingsSet, taking_of_takeOk ok, takeSettingsSet, if_pos ((mask_out_of_range_iff mask).mpr bad)]
    exact congrArg _ (complete_reserve ring tag 0x20 .malformed _ s)
  case settingsGet =>
    intro first bad
    rw [exec_settingsGet, taking_of_takeOk ok, takeSettingsGet, if_pos bad]
    exact congrArg _ (complete_reserve ring tag 0x10 .malformed _ s)
  case privileged =>
    rintro rfl
    refine ⟨fun mask values low high => ?_, fun q hq => ?_, fun q hq => ?_, fun tenant bucket => ?_, fun scope tenant bucket good => ?_, fun region => ?_⟩
    · rw [exec_settingsSet, taking_of_takeOk ok, takeSettingsSet, if_neg (by rw [mask_out_of_range_iff, low, high]; decide), managed_data]
      exact congrArg _ (complete_reserve .data tag 0x20 .privileged _ s)
    · rw [exec_regionSet, taking_of_takeOk ok, takeRegionSet, managed_data, hq]
      exact congrArg _ (complete_reserve .data tag 0x21 .privileged _ s)
    · rw [exec_bucketLoad, taking_of_takeOk ok, takeBucketLoad, managed_data, hq]
      exact congrArg _ (complete_reserve .data tag 0x22 .privileged _ s)
    · rw [exec_bucketDeny, taking_of_takeOk ok, takeBucketDeny, managed_data]
      exact congrArg _ (complete_reserve .data tag 0x23 .privileged _ s)
    · rw [exec_bucketFlush, taking_of_takeOk ok, takeBucketFlush, if_neg ((mem_scopes_iff _).mp good), managed_data]
      exact congrArg _ (complete_reserve .data tag 0x24 .privileged _ s)
    · rw [exec_defer, taking_of_takeOk ok, takeDefer, managed_data]
      exact congrArg _ (complete_reserve .data tag 0x25 .privileged _ s)

/-! ## RUN (R180) -/

theorem sizeOk_iff (name : RingName) (size : Word) :
    sizeOk name size = true ↔ (∃ e, size.toNat = 2 ^ e) ∧ (sizeRange name).1 ≤ size.toNat ∧ size.toNat ≤ (sizeRange name).2 := by
  unfold sizeOk
  simp only [Bool.and_eq_true, decide_eq_true_eq, List.any_eq_true, List.mem_range, beq_iff_eq]
  constructor
  · rintro ⟨⟨low, high⟩, e, -, power⟩
    exact ⟨⟨e, power⟩, low, high⟩
  · rintro ⟨⟨e, power⟩, low, high⟩
    refine ⟨⟨low, high⟩, e, ?_, power⟩
    have most : (sizeRange name).2 < 2 ^ 14 := by cases name <;> decide
    exact (Nat.pow_lt_pow_iff_right (by decide : 1 < 2)).mp (power ▸ high.trans_lt most)

theorem baseOk_iff (base : Addr) : baseOk base = true ↔ base.toNat % 64 = 0 := beq_iff_eq

theorem ringFaultOf_eq (name : RingName) (r : Ring) : ringFaultOf name r =
    if sizeOk name r.size = true then (if r.base.toNat % 64 = 0 then none else some .badBase) else some .badSize := by
  unfold ringFaultOf
  by_cases size : sizeOk name r.size = true <;> by_cases base : r.base.toNat % 64 = 0 <;> simp [size, base, baseOk_iff]

theorem ringFaultOf_eq_none_iff (name : RingName) (r : Ring) : ringFaultOf name r = none ↔ sizeOk name r.size = true ∧ r.base.toNat % 64 = 0 := by
  rw [ringFaultOf_eq]
  split
  · split <;> simp_all
  · simp_all

/-- R180: the first ring in the order that has a fault is the one recorded. -/
theorem startFault_eq_some {r : Rings} {n : RingName} {why : RingReason}
    (before : ∀ m ∈ [RingName.data, .management, .completion].takeWhile (· != n), ringFaultOf m (r.get m) = none)
    (here : ringFaultOf n (r.get n) = some why) : r.startFault = some (n, why) := by
  unfold Rings.startFault
  cases n
  · simp [List.findSome?, here]
  · simp [List.findSome?, here, before .data (by decide)]
  · simp [List.findSome?, here, before .data (by decide), before .management (by decide)]

theorem startFault_eq_none {r : Rings} (h : ∀ n, ringFaultOf n (r.get n) = none) : r.startFault = none := by
  simp [Rings.startFault, h]

theorem exec_run_of_word {word : Word} (runBit : word.getLsbD 0 = true) (resetBit : word.getLsbD 1 = false) (s : State) :
    exec (.run word) s = .next (run s) := by
  show Host.Outcome.next (controlWrite word s) = _
  unfold controlWrite
  rw [resetBit, runBit]
  rfl

/-- Settles O12: RUN starts the rings when no ring has a fault, and else records that of the first ring that has one. -/
theorem runStartsTheRingsOrRecordsAFault : Obligations.RunStartsTheRingsOrRecordsAFault := by
  intro word s runBit resetBit
  rw [exec_run_of_word runBit resetBit]
  refine ⟨fun notReady => congrArg _ (if_neg (by simpa using notReady)), fun ready => ?_⟩
  intro sizeFits baseFits
  have fits : ∀ n, ringFaultOf n (s.rings.get n) = none ↔ sizeFits n ∧ baseFits n := fun n => by
    rw [ringFaultOf_eq_none_iff, sizeOk_iff]
  have isReady : (s.start.state == .ready) = true := beq_iff_eq.mpr ready
  refine ⟨fun good => ⟨run s, rfl, ?_⟩, fun n before bad => ?_⟩
  · unfold run
    rw [if_pos isReady, startFault_eq_none fun n => (fits n).mpr (good n)]
    exact ⟨keepsAllBut_iff.mpr (by simp), rfl, fun n => by cases n <;> rfl, rfl, rfl, rfl⟩
  · cases fault : ringFaultOf n (s.rings.get n) with
    | none => exact absurd ((fits n).mp fault) bad
    | some why =>
      have first := startFault_eq_some (fun m hm => (fits m).mpr (before m hm)) fault
      have reason : (sizeFits n → why = .badBase) ∧ (¬ sizeFits n → why = .badSize) := by
        rw [ringFaultOf_eq] at fault
        have size : sizeOk n (s.rings.get n).size = true ↔ sizeFits n := sizeOk_iff ..
        refine ⟨fun h => ?_, fun h => ?_⟩
        · rw [if_pos (size.mpr h)] at fault
          split at fault <;> cases fault
          rfl
        · rw [if_neg (mt size.mp h)] at fault
          cases fault
          rfl
      refine ⟨run s, why, rfl, ?_⟩
      unfold run
      rw [if_pos isReady, first]
      dsimp only
      split
      · exact ⟨keepsAllBut_iff.mpr (by simp), rfl, reason.1, reason.2, (ringFaultPending_iff _).mpr (.inr (by simp))⟩
      · exact ⟨keepsAllBut_iff.mpr (by simp), by simp, reason.1, reason.2, (ringFaultPending_iff _).mpr (.inr (by simp))⟩

/-! ## Function reset (R177, R194, R195) -/

theorem isUnissued_iff (st : BurstState) : st.isUnissued = true ↔ st = .unissued := by cases st <;> simp [BurstState.isUnissued]

theorem isOut_iff (st : BurstState) : st.isOut = true ↔ st = .awaiting ∨ ∃ reissue deadline, st = .issued reissue deadline := by
  cases st <;> simp [BurstState.isOut]

theorem not_untouched_eq (o : Op) : (!o.untouched) = o.bursts.any fun b => b.state != .unissued := by
  unfold Op.untouched
  rw [List.not_all_eq_any_not]
  congr 1
  funext b
  cases b.state <;> rfl

theorem dropUnissued_eq (b : Burst) : dropUnissued b = if b.state = .unissued then { b with state := .dropped } else b := by
  unfold dropUnissued
  simp only [isUnissued_iff]

theorem not_drained_iff (h : Hme) :
    h.drained = false ↔ ∃ op ∈ h.ops, ∃ b ∈ op.bursts, b.state = .awaiting ∨ ∃ reissue deadline, b.state = .issued reissue deadline := by
  unfold Hme.drained
  simp only [← isOut_iff]
  simp

theorem regionEntryOf_fresh (im : Image) (x : Region) : (regionEntryOf im x).fresh := by
  unfold regionEntryOf
  split
  · exact ⟨rfl, rfl, rfl, rfl, rfl, rfl, rfl, rfl, rfl, rfl⟩
  · exact ⟨rfl, rfl, rfl, rfl, rfl, rfl, rfl, rfl, rfl, rfl⟩

theorem regionEntryOf_outside {im : Image} {x : Region} (h : im.n.toNat ≤ x.val) : (regionEntryOf im x).outside := by
  unfold regionEntryOf
  rw [if_neg h.not_gt]
  exact ⟨rfl, rfl, rfl, rfl, rfl⟩

/-- R155: the entry of an index below N holds what the image gives it. -/
theorem regionEntryOf_inside {im : Image} {x : Region} (h : x.val < im.n.toNat) :
    (regionEntryOf im x).station = vget im.stations x ∧ (regionEntryOf im x).state = (if x.val = im.own.toNat then .own else .dark) ∧
    (regionEntryOf im x).mode = (vget im.pace x).mode ∧ (regionEntryOf im x).run = (vget im.pace x).run ∧
    (regionEntryOf im x).sendWindow = (vget im.pace x).sendWindow.toNat ∧ (regionEntryOf im x).quietWindow = (vget im.pace x).quietWindow.toNat := by
  unfold regionEntryOf
  rw [if_pos h]
  exact ⟨rfl, rfl, rfl, rfl, rfl, rfl⟩

theorem exec_pcieFunctionReset (s : State) : exec .pcieFunctionReset s = .next (enterResetting s) := rfl

theorem exec_drainEnd (s : State) :
    exec .drainEnd s = .next (if s.start.state == .resetting && s.hme.drained then functionResetValues s else s) := rfl

/-- Settles O13. -/
theorem functionResetDrainsAndReturnsToReady : Obligations.FunctionResetDrainsAndReturnsToReady := by
  refine ⟨fun word s resetBit => ⟨?same, fun outside => ?stays, fun inside => ?enters⟩, fun s => ⟨fun waits => ?undrained, fun im resetting drained image => ?done⟩⟩
  case same =>
    show Host.Outcome.next (controlWrite word s) = _
    unfold controlWrite
    rw [resetBit]
    rfl
  case stays =>
    have : ¬ (s.start.state == .ready || s.start.state == .running) = true := by simpa using outside
    rw [exec_pcieFunctionReset, enterResetting, if_neg this]
  case enters =>
    have : (s.start.state == .ready || s.start.state == .running) = true := by simpa using inside
    refine ⟨enterResetting s, rfl, ?_⟩
    unfold enterResetting
    rw [if_pos this]
    refine ⟨keepsAllBut_iff.mpr (by simp), rfl, rfl, rfl, fun n => by cases n <;> rfl, rfl, rfl, ?_⟩
    simp only [← not_untouched_eq, ← dropUnissued_eq]
    rfl
  case undrained =>
    rw [exec_drainEnd, if_neg]
    rw [Bool.and_eq_true, beq_iff_eq]
    rintro ⟨resetting, drained⟩
    rcases waits with other | out
    · exact other resetting
    · exact Bool.false_ne_true (((not_drained_iff s.hme).mpr out).symm.trans drained)
  case done =>
    have isDrained : s.hme.drained = true := by
      cases h : s.hme.drained with
      | true => rfl
      | false => exact absurd ((not_drained_iff s.hme).mp h) drained
    have entry : ∀ x, (functionResetValues s).region x = regionEntryOf im x := fun x => by
      show vget ((s.start.image.map regionsOf).getD .reset).entry x = _
      rw [image]
      exact vget_ofFn ..
    refine ⟨functionResetValues s, ?_, rfl, ?_, rfl, rfl, rfl, rfl, rfl, rfl, rfl, rfl, rfl, rfl, rfl, rfl, rfl, rfl, rfl, rfl, rfl, rfl, rfl, rfl, rfl, rfl,
      rfl, ?_, fun x => ?_, rfl, rfl⟩
    · rw [exec_drainEnd, if_pos (by rw [resetting, isDrained]; rfl)]
    · simp [functionResetValues, image]
    · simp [functionResetValues, image, regionsOf]
    · rw [entry]
      exact ⟨regionEntryOf_fresh im x, regionEntryOf_inside, regionEntryOf_outside⟩

/-! ## Index writes (R181, R186, R192) -/

theorem exec_producerIndexWrite (ring : ReqRing) (v : Word) (s : State) : exec (.producerIndexWrite ring v) s = .next (writeProducer ring v s) := rfl

theorem exec_completionConsumerIndexWrite (v : Word) (s : State) : exec (.completionConsumerIndexWrite v) s = .next (writeConsumer v s) := rfl

theorem writable_of_running {s : State} (h : s.running = true) : s.writable = true := by
  unfold State.running at h
  unfold State.writable
  rw [h, Bool.or_true]

/-- Settles O14. -/
theorem indexWrites : Obligations.IndexWrites := by
  refine ⟨fun ring v s => ⟨fun closed => ?_, fun running active inRange => ?_, fun running active out => ?_⟩,
    fun v s => ⟨fun closed => ?_, fun running active inRange => ?_, fun running active out => ?_⟩⟩
  · rw [exec_producerIndexWrite, writeProducer, if_neg]
    rw [Bool.and_eq_true, beq_iff_eq]
    rintro ⟨running, active⟩
    rcases closed with stopped | notActive
    · exact Bool.false_ne_true (stopped.symm.trans running)
    · exact notActive active
  · refine ⟨_, rfl, ?_⟩
    rw [writeProducer, if_pos (by rw [running, active]; rfl), if_pos inRange]
    exact modRing_changes ..
  · refine ⟨_, rfl, ?_⟩
    rw [writeProducer, if_pos (by rw [running, active]; rfl), if_neg out.not_gt]
    exact faultRing_faults (by rw [active]; decide) (mayRaise_of_running running)
  · rw [exec_completionConsumerIndexWrite, writeConsumer, if_neg]
    rw [Bool.and_eq_true, beq_iff_eq]
    rintro ⟨writable, active⟩
    rcases closed with notActive | state
    · exact notActive active
    · simp only [List.mem_cons, List.not_mem_nil, or_false] at state
      rcases state with state | state <;> simp [State.writable, state] at writable
  · refine ⟨_, rfl, ?_⟩
    have ok : s.rings.comp.consumerOk v.toNat = true := by simpa [Ring.consumerOk] using inRange
    rw [writeConsumer, if_pos (by rw [writable_of_running running, active]; rfl), if_pos ok]
    exact modRing_changes ..
  · refine ⟨_, rfl, ?_⟩
    have bad : ¬ s.rings.comp.consumerOk v.toNat = true := by simpa [Ring.consumerOk] using out
    rw [writeConsumer, if_pos (by rw [writable_of_running running, active]; rfl), if_neg bad]
    exact faultRing_faults (by rw [show (s.rings.get .completion).state = _ from active]; decide) (mayRaise_of_running running)

/-! ## Restart (R193, R199) -/

theorem exec_restart (name : RingName) (word : Word) (s : State) : exec (.restart name word) s = .next (writeRestart name word s) := rfl

theorem exec_ringRestartEffect (name : RingName) (s : State) : exec (.ringRestartEffect name) s = .next (restartEffect name s) := rfl

theorem restartDue_iff (name : RingName) (s : State) : s.restartDue name = true ↔
    s.running = true ∧ (s.rings.get name).state = .faulted ∧ (s.rings.get name).restart = true ∧ ∀ op ∈ s.hme.ops, op.use.client ≠ ringClient name := by
  simp [State.restartDue, Hme.idle, and_assoc]

/-- Settles O15: a due restart checks the ring's size and base as they then stand, and starts the ring or keeps it FAULTED with the reason. -/
theorem restartTakesEffectWhenTheClientIsIdle : Obligations.RestartTakesEffectWhenTheClientIsIdle := by
  refine ⟨fun name word s bit => ⟨fun closed => ?_, fun running faulted => ?_⟩, fun name s => ?_⟩
  · rw [exec_restart, writeRestart, if_neg]
    rw [Bool.and_eq_true, Bool.and_eq_true, beq_iff_eq]
    rintro ⟨⟨-, running⟩, faulted⟩
    rcases closed with stopped | up
    · exact Bool.false_ne_true (stopped.symm.trans running)
    · exact up faulted
  · refine ⟨_, rfl, ?_⟩
    rw [writeRestart, if_pos (by rw [bit, running, faulted]; rfl)]
    exact modRing_changes ..
  · rw [exec_ringRestartEffect, restartEffect]
    refine ⟨fun notDue => ?_, fun due size base => ?_, fun due bad => ?_⟩
    · rw [if_neg (mt (restartDue_iff name s).mp notDue)]
    · rw [if_pos ((restartDue_iff name s).mpr due), (ringFaultOf_eq_none_iff ..).mpr ⟨size, base⟩]
      dsimp only
      refine ⟨_, rfl, ?_⟩
      cases name
      case completion =>
        refine ⟨rfl, fun h => absurd rfl h, fun _ => ⟨keepsAllBut_iff.mpr (by simp [resumeWriting]), rfl, rfl, rfl, rfl, rfl, ?_⟩⟩
        simp [resumeWriting, waitingEntries]
      all_goals
        obtain ⟨kept, others, changed⟩ := modRing_changes _ Ring.restarted s
        exact ⟨changed, fun _ => ⟨kept, others⟩, fun h => by cases h⟩
    · rw [if_pos ((restartDue_iff name s).mpr due)]
      have fault : ringFaultOf name (s.rings.get name) = some (if sizeOk name (s.rings.get name).size = true then .badBase else .badSize) := by
        rw [ringFaultOf_eq]
        split
        · rename_i size
          exact if_neg fun base => bad ⟨size, base⟩
        · rfl
      rw [fault]
      exact ⟨_, rfl, modRing_changes ..⟩

/-! ## Interrupt controls (R175, R178, R190, R191) -/

/-- The value of CAUSE by the three causes. -/
def causeWord (entries ringFault deviceFault : Bool) : Word :=
  BitVec.ofNat 32 (entries.toNat + 2 * ringFault.toNat + 4 * deviceFault.toNat +
    256 * if deviceFault then 3 else if ringFault then 2 else if entries then 1 else 0)

theorem cause_eq (s : State) : s.cause = causeWord s.irq.entries s.ringFaultPending s.deviceFaultPending := by
  unfold State.cause causeWord
  dsimp only

theorem causeWord_fields (e r d : Bool) : (causeWord e r d).getLsbD 0 = e ∧ (causeWord e r d).getLsbD 1 = r ∧ (causeWord e r d).getLsbD 2 = d ∧
    ((causeWord e r d).extractLsb' 8 2).toNat = if d then 3 else if r then 2 else if e then 1 else 0 := by
  cases e <;> cases r <;> cases d <;> decide

theorem trigger_legal_iff (v : Word) : v.toNat ∈ [1, 4, 16, 64] ↔ (v == 1 || v == 4 || v == 16 || v == 64) = true := by
  simp [← BitVec.toNat_inj, or_assoc]

/-- Settles O16. -/
theorem interruptControls : Obligations.InterruptControls := by
  refine ⟨fun v s => ⟨fun closed => ?_, fun open_ legal => ?_⟩, fun v s => ⟨fun closed => ?_, fun open_ legal => ?_⟩,
    fun word s bit => ⟨fun loading => ?_, fun shown => ?_⟩, fun s => ?_, fun _ => rfl, fun s => ⟨fun held may => ?_, fun free => ?_⟩⟩
  · refine congrArg Host.Outcome.next (if_neg ?_)
    rw [Bool.and_eq_true, ← trigger_legal_iff]
    rintro ⟨open_, legal⟩
    rcases closed with shut | illegal
    · exact Bool.false_ne_true (shut.symm.trans open_)
    · exact illegal legal
  · refine ⟨writeTrigger v s, rfl, ?_⟩
    rw [writeTrigger, if_pos (by rw [open_, (trigger_legal_iff v).mp legal]; rfl)]
    dsimp only
    split
    · rename_i reached
      refine ⟨keepsAllBut_iff.mpr (by simp), fun few => absurd reached few.not_ge, fun _ may => (raise_raises ?_).2⟩
      exact may
    · rename_i few
      exact ⟨keepsAllBut_iff.mpr (by simp), fun _ => rfl, fun reached => absurd reached few⟩
  · refine congrArg Host.Outcome.next (if_neg ?_)
    rw [Bool.and_eq_true, decide_eq_true_eq]
    rintro ⟨open_, legal⟩
    rcases closed with shut | illegal
    · exact Bool.false_ne_true (shut.symm.trans open_)
    · exact illegal.not_ge legal
  · refine ⟨writeCoalesce v s, rfl, ?_⟩
    rw [writeCoalesce, if_pos (by rw [open_, Bool.true_and]; exact decide_eq_true legal)]
    refine ⟨keepsAllBut_iff.mpr (by simp), ?_⟩
    simp only [State.withIrq_irq, show v = 0 ↔ v.toNat = 0 from by rw [← BitVec.toNat_inj]; rfl]
  · refine congrArg Host.Outcome.next (if_neg ?_)
    simp [State.windowOpen, loading]
  · refine ⟨writeFaultClear word s, rfl, ?_⟩
    rw [writeFaultClear, if_pos (by simpa [State.windowOpen, bit] using shown)]
    exact ⟨keepsAllBut_iff.mpr (by simp), rfl, rfl⟩
  · obtain ⟨entries, ringFault, deviceFault, highest⟩ := causeWord_fields s.irq.entries s.ringFaultPending s.deviceFaultPending
    rw [← cause_eq] at entries ringFault deviceFault highest
    have device : s.deviceFaultPending = true ↔ s.hme.latch ≠ none := Option.isSome_iff_ne_none
    refine ⟨readCause s, rfl, ?_, fun loading => ?_, fun shown => ?_, ?_⟩
    · unfold readCause
      split <;> exact keepsAllBut_iff.mpr (by simp)
    · rw [readCause, if_neg (by simp [State.windowOpen, loading])]
      rfl
    · rw [readCause, if_pos (by simpa [State.windowOpen] using shown)]
      rfl
    · have ring := ringFaultPending_iff s
      rw [entries, ringFault, deviceFault, highest]
      refine ⟨Iff.rfl, ring, device, fun h => if_pos (device.mpr h), fun h r => ?_, fun h r => ?_⟩
      · rw [if_neg (fun d => device.mp d h), if_pos (ring.mpr r)]
      · rw [if_neg (fun d => device.mp d h), if_neg (mt ring.mp r)]
  · refine congrArg Host.Outcome.next (if_pos ?_)
    rw [held, may]
    rfl
  · refine congrArg Host.Outcome.next (if_neg ?_)
    rw [free]
    exact Bool.false_ne_true

end Sys2Proof.Machine
end

section
/-! PROOFS. The rings: fetching, taking, and the failures that fault a ring. -/

namespace Sys2Proof.Machine

/-! ## What a take needs (R182, R188) -/

theorem any_toList_eq_false_iff {α : Type} {n : Nat} (v : Vector α n) (p : α → Bool) : v.toList.any p = false ↔ ∀ i : Fin n, p (vget v i) = false := by
  rw [toList_eq_map_vget, List.any_eq_false]
  simp

/-- R187: no notice is owed when none of the four kinds is. -/
theorem anyOwed_eq_false_iff (s : State) : s.anyOwed = false ↔
    s.backlog.owedPressure = false ∧ (∀ x, (s.region x).owed = false) ∧ (∀ n p, vget s.bmc.hold n = some p → p.owed = false) ∧ s.backlog.owedList = [] := by
  unfold State.anyOwed
  simp only [Bool.or_eq_false_iff, any_toList_eq_false_iff, Bool.not_eq_false', List.isEmpty_iff, and_assoc, State.region]
  refine and_congr_right' (and_congr_right' (and_congr_left' (forall_congr' fun n => ?_)))
  unfold owedPlace
  cases vget s.bmc.hold n <;> simp

theorem admitsData_iff (b : Bmc) : b.admitsData = true ↔ ∃ n, vget b.hold n = none := by
  rw [← not_iff_not, Bool.not_eq_true, Bmc.admitsData, any_toList_eq_false_iff]
  simp [Option.ne_none_iff_isSome]

/-- The conditions of R182 one by one. -/
theorem takeOk_iff (ring : ReqRing) (s : State) : s.takeOk ring = true ↔
    s.running = true ∧ (s.rings.get (ringName ring)).state = .active ∧ s.backlog.entries.length + s.backlog.reservations < 64 ∧
      s.backlog.reservations < 48 ∧
      (s.backlog.owedPressure = false ∧ (∀ x, (s.region x).owed = false) ∧ (∀ n p, vget s.bmc.hold n = some p → p.owed = false) ∧ s.backlog.owedList = []) ∧
      (ring = .data → ∃ n, vget s.bmc.hold n = none) := by
  rw [← anyOwed_eq_false_iff, ← admitsData_iff]
  unfold State.takeOk
  simp only [Bool.and_eq_true, beq_iff_eq, decide_eq_true_eq, Bool.not_eq_true', Bool.or_eq_true, and_assoc]
  cases ring <;> simp [Config.backlogPlaces, Config.maxReservations]

/-- A change of a ring's consumer index leaves the conditions of a take alone. -/
theorem takeOk_advanceConsumer (ring other : ReqRing) (s : State) : (advanceConsumer ring s).takeOk other = s.takeOk other := by
  cases ring <;> cases other <;> rfl

/-! ## Fetching (R182) -/

/-- A burst of 64 bytes at a multiple of 64 is one piece. -/
theorem cutPieces_entry {addr : Addr} (aligned : addr.toNat % 64 = 0) : cutPieces [(addr, 64)] = [(addr, 64)] := by
  have fits : 64 ≤ 4096 - addr.toNat % 4096 := by omega
  simp [cutPieces, cutPiece, Config.burstBytes, min_eq_left fits]

/-- The entry at the consumer index stands at a multiple of 64 when the ring's base does. -/
theorem entry_address_aligned {base : Addr} (aligned : base.toNat % 64 = 0) (cons : Nat) : (base + BitVec.ofNat 64 (64 * cons)).toNat % 64 = 0 := by
  rw [BitVec.toNat_add, BitVec.toNat_ofNat]
  omega

theorem find_any_eq_none_iff (h : Hme) (use : OpUse) : h.find use (fun _ => true) = none ↔ ∀ op ∈ h.ops, op.use ≠ use := by
  simp [Hme.find, List.find?_eq_none]

theorem addRead_adds (use : OpUse) (addr : Addr) (len : Nat) (s : State) : KeepsAllBut [.engine] s (addRead use addr len s) ∧
    OperationAdded use (readBursts (cutPieces [(addr, len)])) s.hme (addRead use addr len s).hme :=
  ⟨keepsAllBut_iff.mpr (by simp), rfl⟩

theorem addWrite_adds (use : OpUse) (addr : Addr) (bytes : List Byte) (s : State) : KeepsAllBut [.engine] s (addWrite use addr bytes s) ∧
    OperationAdded use (writeBursts (cutPieces [(addr, bytes.length)]) bytes) s.hme (addWrite use addr bytes s).hme :=
  ⟨keepsAllBut_iff.mpr (by simp), rfl⟩

theorem exec_ringFetch (ring : ReqRing) (s : State) : exec (.ringFetch ring) s = .next
    (if s.takeOk ring && 0 < (s.rings.get (ringName ring)).available && (s.fetchOp ring fun _ => true).isNone then
      addRead (.fetch ring) ((s.rings.get (ringName ring)).base + BitVec.ofNat 64 (64 * (s.rings.get (ringName ring)).cons)) 64 s else s) := rfl

/-! ## Failures (R192) -/

theorem exec_ringFetchFail (ring : ReqRing) (s : State) : exec (.ringFetchFail ring) s = .next (match s.fetchOp ring Op.failed with
    | some o => if s.running then faultRing (ringName ring) .fetchError (dropOp o.id s) else s
    | none => s) := rfl

theorem exec_completionWriteFail (id : Nat) (s : State) : exec (.completionWriteFail id) s =
    .next (if s.running && s.completionOp id Op.failed then faultRing .completion .writeError (markEntry id .failed (dropOp id s)) else s) := rfl

theorem completionOp_iff (s : State) (id : Nat) (p : Op → Bool) :
    s.completionOp id p = true ↔ ∃ op ∈ s.hme.ops, op.id = id ∧ op.use = .completion ∧ p op = true := by
  simp [State.completionOp, and_assoc]

/-- R192: the fault of a ring leaves everything but the rings and the interrupt alone, and a FAULTED ring as it is. -/
theorem faultRing_effect (name : RingName) (why : RingReason) {s : State} (may : s.mayRaise = true) : KeepsAllBut [.rings, .irq] s (faultRing name why s) ∧
    ((s.rings.get name).state ≠ .faulted → RingFaulted name why s (faultRing name why s)) ∧
    ((s.rings.get name).state = .faulted → faultRing name why s = s) := by
  by_cases down : (s.rings.get name).state = .faulted
  · have same : faultRing name why s = s := by rw [faultRing, if_pos (beq_iff_eq.mpr down)]
    exact ⟨by rw [same]; exact fun b _ => by cases b <;> rfl, fun up => absurd down up, fun _ => same⟩
  · exact ⟨(faultRing_faults down may).1, fun up => (faultRing_faults up may).2, fun h => absurd h down⟩

/-- Settles O18. -/
theorem ringFetchesReadTheNextEntryAndFailuresFaultTheRing : Obligations.RingFetchesReadTheNextEntryAndFailuresFaultTheRing := by
  refine ⟨fun ring s => ?fetch, fun ring s op found running => ?fetchFail, fun id s found running => ?writeFail⟩
  case fetch =>
    intro r conditions addr
    have due : (s.takeOk ring && 0 < (s.rings.get (ringName ring)).available && (s.fetchOp ring fun _ => true).isNone) = true ↔ conditions := by
      rw [Bool.and_eq_true, Bool.and_eq_true, Option.isNone_iff_eq_none, State.fetchOp, find_any_eq_none_iff, takeOk_iff, decide_eq_true_eq, Ring.available]
      tauto
    rw [exec_ringFetch]
    refine ⟨fun closed => by rw [if_neg (mt due.mp closed)], fun open_ => ?_⟩
    rw [if_pos (due.mpr open_)]
    obtain ⟨kept, added⟩ := addRead_adds (.fetch ring) addr 64 s
    refine ⟨_, rfl, kept, added, fun aligned => ?_⟩
    rw [cutPieces_entry (entry_address_aligned aligned _)]
    rfl
  case fetchFail =>
    rw [exec_ringFetchFail, State.fetchOp, found]
    dsimp only
    rw [if_pos running]
    obtain ⟨kept, faults, stays⟩ := faultRing_effect (ringName ring) .fetchError (s := dropOp op.id s) (mayRaise_of_running running)
    refine ⟨_, rfl, ?_, kept .engine (by decide), faults, fun down => ?_⟩
    · exact (KeepsAllBut.trans (s := s) (t := dropOp op.id s) (xs := [.engine]) (keepsAllBut_iff.mpr (by simp)) kept (by decide) (by decide))
    · rw [stays down]
      exact ⟨rfl, rfl⟩
  case writeFail =>
    rw [exec_completionWriteFail, if_pos (by rw [running, (completionOp_iff ..).mpr found]; rfl)]
    obtain ⟨kept, faults, stays⟩ := faultRing_effect .completion .writeError (s := markEntry id .failed (dropOp id s)) (mayRaise_of_running running)
    refine ⟨_, rfl, ?_, kept .engine (by decide), (kept .backlog (by decide)).trans ?_, faults, fun down => ?_⟩
    · exact (KeepsAllBut.trans (s := s) (t := markEntry id .failed (dropOp id s)) (xs := [.engine, .backlog])
        (keepsAllBut_iff.mpr (by simp [markEntry])) kept (by decide) (by decide))
    · show Backlog.mk _ _ _ _ = _
      simp only [beq_iff_eq]
      rfl
    · rw [stays down]
      exact ⟨rfl, rfl⟩

/-! ## Taking (R182, R183) -/

/-- The request command of a kind, read from an entry (R183). -/
def commandOfKind (ring : ReqRing) (e : List Byte) : ReqKind → Instr
  | .publish => .publish ring (publishEntry e)
  | .delete => .delete ring (deleteEntry e)
  | .lookup => .lookup ring (entryTag e) (entryKey e)
  | .lookupBatch => .lookupBatch ring (batchEntry e)
  | .accept => .accept ring (acceptEntry e)
  | .decline => .decline ring (entryTag e) (entryKey e) (entryVersion e) (byteAt e 32)
  | .commit => .commit ring (entryTag e) (entryKey e) (entryVersion e)
  | .reject => .reject ring (entryTag e) (entryKey e) (entryVersion e)
  | .abandon => .abandon ring (entryTag e) (entryKey e) (byteAt e 32)
  | .retry => .retry ring (entryTag e) (entryKey e) (byteAt e 32)
  | .settingsGet => .settingsGet ring (entryTag e) (byteAt e 8)
  | .regionGet => .regionGet ring (entryTag e) (byteAt e 8)
  | .settingsSet => .settingsSet ring (entryTag e) (BitVec.ofNat 16 (leAt e 2 2)) (settingsEntry e)
  | .regionSet => .regionSet ring (regionSetEntry e)
  | .bucketLoad => .bucketLoad ring (bucketLoadEntry e)
  | .bucketDeny => .bucketDeny ring (entryTag e) (byteAt e 20) (entryBucket e)
  | .bucketFlush => .bucketFlush ring (entryTag e) (byteAt e 24) (byteAt e 20) (entryBucket e)
  | .defer => .defer ring (entryTag e) (byteAt e 8)

/-- The kind code decides which command an entry spells. -/
theorem commandOfEntry_eq (ring : ReqRing) (e : List Byte) : commandOfEntry ring e = (ReqKind.ofCode (byteAt e 0)).map (commandOfKind ring e) := by
  unfold commandOfEntry ReqKind.ofCode
  generalize (byteAt e 0).toNat = code
  match code with
  | 1 | 2 | 3 | 4 | 5 | 6 | 7 | 8 | 9 | 10 => rfl
  | 16 | 17 => rfl
  | 32 | 33 | 34 | 35 | 36 | 37 => rfl
  | 0 | 11 | 12 | 13 | 14 | 15 => rfl
  | 18 | 19 | 20 | 21 | 22 | 23 | 24 | 25 | 26 | 27 | 28 | 29 | 30 | 31 => rfl
  | _ + 38 => rfl

/-- Each command of a request kind is that kind's work under the conditions of a take. -/
theorem exec_commandOfKind (ring : ReqRing) (e : List Byte) (kind : ReqKind) (s : State) :
    exec (commandOfKind ring e kind) s = .next (taking ring (route ring kind e) s) := by
  cases kind <;> rfl

theorem exec_requestTake (ring : ReqRing) (s : State) : exec (.requestTake ring) s = .next (match s.fetchOp ring Op.succeeded with
    | some o => if s.running then takeFetched ring o.data (dropOp o.id s) else s
    | none => s) := rfl

/-- Settles O19: the entry's take is the take of its command, since the consumer index is no condition of it. -/
theorem requestTakeRunsTheCommandOfTheEntry : Obligations.RequestTakeRunsTheCommandOfTheEntry := by
  intro ring s
  rw [exec_requestTake, State.fetchOp]
  refine ⟨?_, fun op found running => ?_⟩
  · rintro (none | stopped)
    · rw [none]
    · rw [stopped]
      cases s.hme.find (.fetch ring) Op.succeeded <;> rfl
  · intro r dropped advanced
    rw [found]
    dsimp only
    rw [if_pos running]
    have ok : dropped.takeOk ring = s.takeOk ring := rfl
    refine ⟨fun closed => ?_, fun open_ some => ?_⟩
    · refine congrArg Host.Outcome.next (if_neg ?_)
      rw [Bool.and_eq_true, decide_eq_true_eq]
      rintro ⟨open_, some⟩
      rcases closed with notOk | empty
      · exact Bool.false_ne_true (notOk.symm.trans open_)
      · exact some.ne' empty
    · have taken : takeFetched ring op.data (dropOp op.id s) = takeEntry ring op.data (reserve advanced) := by
        refine if_pos ?_
        rw [Bool.and_eq_true, decide_eq_true_eq]
        exact ⟨open_, some⟩
      have advancedOk : advanced.takeOk ring = true := (takeOk_advanceConsumer ring ring dropped).trans open_
      rw [taken, takeEntry, commandOfEntry_eq]
      refine ⟨fun c spelt => ?_, fun unknown => ?_⟩
      · obtain ⟨kind, known, rfl⟩ := Option.map_eq_some_iff.mp spelt
        rw [known, exec_commandOfKind, taking_of_takeOk advancedOk]
      · rw [Option.map_eq_none_iff.mp unknown]
        have kind : BitVec.ofNat 8 (byteAt op.data 0).toNat = byteAt op.data 0 := by simp
        have completes := complete_reserve ring (entryTag op.data) (byteAt op.data 0).toNat .malformed (.malformed (byteAt op.data 0) .kind) advanced
        rw [kind] at completes
        exact congrArg Host.Outcome.next completes

end Sys2Proof.Machine
end

section
/-! PROOFS. Lookups, batches and the settings. -/

namespace Sys2Proof.Machine

/-! ## Masks (R22) -/

/-- The sum of the powers of two of the set bits is the number of those bits. -/
theorem sum_powers_eq_ofBits {n : Nat} (f : Fin n → Bool) : ((List.finRange n).map fun i => if f i = true then 2 ^ i.val else 0).sum = Nat.ofBits f := by
  induction n with
  | zero => rfl
  | succ n ih =>
    have twice : ∀ l : List (Fin n), (l.map fun i => if f i.succ = true then 2 ^ (i.val + 1) else 0).sum =
        2 * (l.map fun i => if f i.succ = true then 2 ^ i.val else 0).sum := fun l => by
      rw [← List.sum_map_mul_left]
      refine congrArg List.sum (List.map_congr_left fun i _ => ?_)
      split <;> ring
    rw [List.finRange_succ, List.map_cons, List.sum_cons, List.map_map, Nat.ofBits_succ, ← ih]
    simp only [Function.comp_def, Fin.val_succ, twice]
    cases f 0 <;> simp [Nat.add_comm]

/-- Bit `x` of a slot mask is the test of region `x`'s slot. -/
theorem getLsbD_slotMask (slots : Vector Slot 8) (p : SlotState → Bool) (x : Region) : (slotMask slots p).getLsbD x.val = p (vget slots x).state := by
  unfold slotMask
  rw [sum_powers_eq_ofBits (fun i => p (vget slots i).state), BitVec.getLsbD_ofNat, Nat.testBit_ofBits_lt _ _ x.isLt]
  simp

/-- The mask of one number holds the bit of that number alone. -/
theorem getLsbD_bit (n : Nat) (x : Region) : (BitVec.ofNat 8 (2 ^ n)).getLsbD x.val = decide (x.val = n) := by
  rw [BitVec.getLsbD_ofNat, Nat.testBit_two_pow]
  simp [eq_comm]

theorem exec_lookup (ring : ReqRing) (tag : Word) (k : Key) (s : State) : exec (.lookup ring tag k) s = .next (taking ring (takeLookup ring tag k) s) := rfl

/-- Settles O22. -/
theorem lookupAnswersFromTheRecord : Obligations.LookupAnswersFromTheRecord := by
  intro ring tag k s ok
  rw [exec_lookup, taking_of_takeOk ok, takeLookup]
  refine ⟨fun none => ?_, fun r found => ⟨s.answerOf r, ?_, rfl, rfl, rfl, rfl, rfl, fun x => ⟨?_, ?_, ?_⟩⟩⟩
  · rw [show (reserve s).lookup k = Option.none from congrArg (Option.map _) none]
    exact congrArg Host.Outcome.next (complete_reserve ring tag 0x03 .notTracked .plain s)
  · rw [show (reserve s).lookup k = some (s.answerOf r) from congrArg (Option.map _) found]
    exact congrArg Host.Outcome.next (complete_reserve ring tag 0x03 .ok (.lookup (s.answerOf r)) s)
  · unfold State.answerOf
    simp only [BitVec.getLsbD_or, getLsbD_slotMask, apply_ite (fun v : Byte => v.getLsbD x.val), getLsbD_bit]
    simp [and_comm, or_assoc]
  · rw [State.answerOf, getLsbD_slotMask]
    simp [or_assoc]
  · rw [State.answerOf, getLsbD_slotMask]
    simp

/-! ## Batches (R23, R24) -/

theorem layOut_length (n : Nat) (fields : List (Nat × List Byte)) : (layOut n fields).length = n := by simp [layOut]

theorem resultBytes_length (a : Option LookupAnswer) : (resultBytes a).length = 32 := by cases a <;> exact layOut_length ..

/-- The element of a number once it is replaced by one of the same number. -/
theorem find?_map_replace {α : Type} (number : α → Nat) {id : Nat} {b : α} {l : List α} (same : number b = id)
    (stands : (l.find? fun c => number c == id).isSome = true) : (l.map fun c => if number c == id then b else c).find? (fun c => number c == id) = some b := by
  induction l with
  | nil => cases stands
  | cons c rest ih =>
    rw [List.map_cons, List.find?_cons]
    by_cases here : (number c == id) = true
    · rw [if_pos here, beq_iff_eq.mpr same]
    · rw [if_neg here]
      rw [List.find?_cons] at stands
      rw [Bool.not_eq_true] at here
      rw [here] at stands ⊢
      exact ih stands

/-- No element of a number is left once those of that number are gone. -/
theorem find?_filter_gone {α : Type} (number : α → Nat) (id : Nat) (l : List α) : (l.filter fun c => number c != id).find? (fun c => number c == id) = none := by
  simp [List.find?_eq_none]

theorem batch_id {s : State} {id : Nat} {b : Batch} (h : s.batch id = some b) : b.id = id := by
  have number := List.find?_some h
  exact beq_iff_eq.mp number

theorem batch_modBatch {s : State} {id : Nat} {b c : Batch} (h : s.batch id = some b) (same : c.id = id) : (modBatch c s).batch id = some c := by
  unfold modBatch State.batch
  simp only [State.withReqs_reqs, same]
  exact find?_map_replace Batch.id same (by rw [show (s.reqs.batches.find? fun d => d.id == id) = some b from h]; rfl)

/-- R23: the result of the key at the batch's position is handed on as one write. -/
theorem batchLookup_writes {b : Batch} {k : Key} (s : State) (h : b.keys[b.done]? = some k) : KeepsAllBut [.engine] s (batchLookup b s) ∧
    OperationAdded (.result b.id) (writeBursts (cutPieces [(b.req.resultTable + BitVec.ofNat 64 (32 * b.done), 32)]) (resultBytes (s.lookup k)))
      s.hme (batchLookup b s).hme := by
  rw [batchLookup, h]
  have adds := addWrite_adds (.result b.id) (b.req.resultTable + BitVec.ofNat 64 (32 * b.done)) (resultBytes (s.lookup k)) s
  rw [resultBytes_length] at adds
  exact adds

/-- The next key of a batch, once its operation is taken: the batch as given, its result's write issued. -/
theorem nextLookup_effect {s : State} {id op : Nat} {b c : Batch} {k : Key} (stands : s.batch id = some b) (same : c.id = id) (key : c.keys[c.done]? = some k) :
    let t := batchLookup c (modBatch c (dropOp op s))
    KeepsAllBut [.requests, .engine] s t ∧ t.batch id = some c ∧
      OperationAdded (.result id) (writeBursts (cutPieces [(c.req.resultTable + BitVec.ofNat 64 (32 * c.done), 32)]) (resultBytes (s.lookup k)))
        (s.hme.without op) t.hme := by
  obtain ⟨kept, added⟩ := batchLookup_writes (modBatch c (dropOp op s)) key
  rw [same] at added
  refine ⟨?_, ?_, added⟩
  · exact KeepsAllBut.trans (s := s) (t := modBatch c (dropOp op s)) (xs := [.requests, .engine])
      (keepsAllBut_iff.mpr (by simp [modBatch])) kept (by decide) (by decide)
  · have reqs := kept .requests (by decide)
    unfold Block.same at reqs
    rw [State.batch, reqs]
    exact batch_modBatch (s := dropOp op s) (b := b) stands same

/-- The end of a batch, once its operation is taken. -/
theorem endBatch_effect {s : State} {id op : Nat} {b : Batch} (stands : s.batch id = some b) (status : Status) (count : Nat) (addr : Addr) :
    let t := endBatch b status count addr (dropOp op s)
    KeepsAllBut [.requests, .engine, .backlog] s t ∧ t.batch id = none ∧ t.hme = s.hme.without op ∧
      Completed b.ring b.req.tag 0x04 status (.memory count addr) s t := by
  refine ⟨keepsAllBut_iff.mpr (by simp [endBatch, answer]), ?_, rfl, rfl⟩
  rw [← batch_id stands]
  exact find?_filter_gone Batch.id b.id s.reqs.batches

theorem onBatch_of_found {use : OpUse} {p : Op → Bool} {id : Nat} {op : Op} {b : Batch} {s : State} (found : s.hme.find use p = some op)
    (stands : s.batch id = some b) (running : s.running = true) (work : Batch → Op → State → State) :
    onBatch use p id work s = work b op (dropOp op.id s) := by
  rw [onBatch, found, stands]
  exact if_pos running

theorem exec_keyTableReadDone (id : Nat) (s : State) : exec (.keyTableReadDone id) s = .next (onBatch (.keys id) Op.succeeded id (fun b o t =>
    batchLookup { b with keys := keysOf b.req.count.toNat o.data } (modBatch { b with keys := keysOf b.req.count.toNat o.data } t)) s) := rfl

theorem exec_keyTableReadFail (id : Nat) (s : State) : exec (.keyTableReadFail id) s =
    .next (onBatch (.keys id) Op.failed id (fun b o => endBatch b .hostMemoryError 0 o.failedAt) s) := rfl

theorem exec_resultWriteDone (id : Nat) (s : State) : exec (.resultWriteDone id) s = .next (onBatch (.result id) Op.succeeded id (fun b _ t =>
    if b.done + 1 < b.req.count.toNat then batchLookup { b with done := b.done + 1 } (modBatch { b with done := b.done + 1 } t)
    else endBatch { b with done := b.done + 1 } .ok (b.done + 1) 0 t) s) := rfl

theorem exec_resultWriteFail (id : Nat) (s : State) : exec (.resultWriteFail id) s =
    .next (onBatch (.result id) Op.failed id (fun b o => endBatch b .hostMemoryError b.done o.failedAt) s) := rfl

theorem failedAt_of_failure {op : Op} {kind : FailKind} {addr : Addr} (h : op.failure = some (kind, addr)) : op.failedAt = addr := by
  rw [Op.failedAt, h]
  rfl

/-- Settles O23. -/
theorem batchLooksUpInTableOrder : Obligations.BatchLooksUpInTableOrder := by
  refine ⟨fun ring q s ok low high => ?_, fun id s op b running stands => ?_⟩
  · rw [exec_lookupBatch, taking_of_takeOk ok, takeBatch, if_neg (by omega)]
    exact ⟨_, rfl, keepsAllBut_iff.mpr (by simp [reserve]), rfl, rfl, rfl⟩
  · intro issues
    have number := batch_id stands
    refine ⟨fun found fresh k key => ?_, fun found kind addr failure => ?_, fun found => ⟨fun k more key => ?_, fun last => ?_⟩,
      fun found kind addr failure => ?_⟩
    · rw [exec_keyTableReadDone, onBatch_of_found found stands running]
      obtain ⟨kept, held, added⟩ := nextLookup_effect (op := op.id) (c := { b with keys := keysOf b.req.count.toNat op.data }) stands number
        (show _ = some k by rw [fresh]; exact key)
      have first : issues 0 k = issues b.done k := by rw [fresh]
      exact ⟨_, rfl, kept, held, by rw [first]; exact added⟩
    · rw [exec_keyTableReadFail, onBatch_of_found found stands running, failedAt_of_failure failure]
      exact ⟨_, rfl, endBatch_effect stands ..⟩
    · rw [exec_resultWriteDone, onBatch_of_found found stands running, if_pos more]
      exact ⟨_, rfl, nextLookup_effect (c := { b with done := b.done + 1 }) stands number key⟩
    · rw [exec_resultWriteDone, onBatch_of_found found stands running, if_neg last.not_gt]
      exact ⟨_, rfl, endBatch_effect stands ..⟩
    · rw [exec_resultWriteFail, onBatch_of_found found stands running, failedAt_of_failure failure]
      exact ⟨_, rfl, endBatch_effect stands ..⟩

/-! ## Room and pressure within a claim (R185, R187, R20) -/

/-- A taken request leaves the room that its statement names. -/
theorem fits_reserve_iff {ring : ReqRing} {s : State} (ok : s.takeOk ring = true) (n : Nat) : (reserve s).fits n = true ↔ s.roomOnceTaken n := by
  obtain ⟨-, -, room, -, owed, -⟩ := (takeOk_iff ring s).mp ok
  have none : (reserve s).anyOwed = false := (anyOwed_eq_false_iff s).mpr owed
  unfold State.fits State.roomOnceTaken
  rw [none, Bool.not_false, Bool.true_and, decide_eq_true_eq, Backlog.free]
  simp only [reserve, State.withBacklog_backlog, Config.backlogPlaces]
  omega

/-- The comparison speaks of the pressure state before, the table and the mark after, and the owed flags. -/
theorem PressureCompared.of_same {room here : Prop} {es : List BacklogEntry} {s t u v : State} (h : PressureCompared room es s t) (rooms : room ↔ here)
    (rising : u.table.rising = s.table.rising) (reported : u.table.lastReported = s.table.lastReported)
    (owed : u.backlog.owedPressure = s.backlog.owedPressure) (table : v.table = t.table) (settings : v.settings = t.settings)
    (after : v.backlog.owedPressure = t.backlog.owedPressure) : PressureCompared here es u v := by
  unfold PressureCompared PressureKept at h ⊢
  unfold State.setting at h ⊢
  rw [rising, reported, owed, table, settings, after, ← rooms]
  exact h

/-! ## Settings (R196) -/

theorem settingOk_iff (i : Fin 14) (v : Word) : settingOk i v = true ↔ (vget Config.settingRange i).1 ≤ v.toNat ∧ v.toNat ≤ (vget Config.settingRange i).2 := by
  simp [settingOk]

theorem badSetting_eq_some {mask : BitVec 16} {values : Vector Word 14} {i : Fin 14} (selected : mask.getLsbD i.val = true)
    (bad : ¬ settingOk i (vget values i) = true) (before : ∀ j, j < i → mask.getLsbD j.val = true → settingOk j (vget values j) = true) :
    badSetting mask values = some i := by
  refine find?_finRange_eq_some_iff.mpr ⟨?_, fun j hj => ?_⟩
  · simp [selected, bad]
  · by_cases sel : mask.getLsbD j.val = true
    · simp [before j hj sel]
    · simp [sel]

theorem badSetting_eq_none {mask : BitVec 16} {values : Vector Word 14}
    (good : ∀ i : Fin 14, mask.getLsbD i.val = true → settingOk i (vget values i) = true) : badSetting mask values = none := by
  refine find?_finRange_eq_none_iff.mpr fun i => ?_
  by_cases sel : mask.getLsbD i.val = true
  · simp [good i sel]
  · simp [sel]

/-- R20: the comparison after a write of the settings. -/
theorem markCheck_of_same {before : Word} {s : State} (h : vget s.settings 12 = before) : markCheck before s = s := if_pos (beq_iff_eq.mpr h)

theorem markCheck_of_changed {before : Word} {s : State} (h : vget s.settings 12 ≠ before) : markCheck before s = pressureCheck s :=
  if_neg (by simpa using h)

/-- Settles O24. -/
theorem settingsSetTakesTheSelectedValues : Obligations.SettingsSetTakesTheSelectedValues := by
  intro tag mask values s ok low high inRange
  have kind : ¬ 2 ^ 14 ≤ mask.toNat := by rw [mask_out_of_range_iff, low, high]; decide
  rw [exec_settingsSet, taking_of_takeOk ok, takeSettingsSet, if_neg kind, managed_management]
  refine ⟨fun i selected bad before => ?_, fun good => ?_⟩
  · rw [badSetting_eq_some selected (mt (settingOk_iff _ _).mp bad) fun j hj sel => (settingOk_iff _ _).mpr (before j hj sel)]
    exact congrArg Host.Outcome.next (complete_reserve .management tag 0x20 .badSetting (.setting i.val) s)
  · rw [badSetting_eq_none fun i sel => (settingOk_iff _ _).mpr (good i sel)]
    dsimp only
    let u := (reserve s).withSettings (selectSettings mask values s.settings)
    have taken : ∀ i, vget u.settings i = if mask.getLsbD i.val = true then vget values i else vget s.settings i := fun i => vget_ofFn ..
    by_cases same : vget u.settings 12 = vget s.settings 12
    · refine ⟨answer .management tag .settingsSet .ok (.mask mask) u, [], ?_, keepsAllBut_iff.mpr (by simp [answer, u, reserve]), taken, ?_, rfl, rfl, rfl,
        rfl, fun _ => ⟨rfl, rfl, rfl, rfl⟩, fun changed => absurd same changed⟩
      · exact congrArg (fun v => Host.Outcome.next (answer .management tag .settingsSet .ok (.mask mask) v)) (markCheck_of_same same)
      · rw [List.append_nil]
        rfl
    · obtain ⟨es, compared, entries, records, linger, owedList, reservations⟩ := pressureCheck_compares u
      refine ⟨answer .management tag .settingsSet .ok (.mask mask) (pressureCheck u), es, ?_, ?_, ?_, ?_, ?_, owedList, records, linger,
        fun kept => ?_, fun _ => ?_⟩
      · exact congrArg (fun v => Host.Outcome.next (answer .management tag .settingsSet .ok (.mask mask) v)) (markCheck_of_changed same)
      · exact keepsAllBut_iff.mpr (by simp [answer, u, reserve])
      · intro i
        rw [← taken i]
        simp [answer]
      · show (pressureCheck u).backlog.entries ++ _ = _
        rw [entries]
        rfl
      · show (pressureCheck u).backlog.reservations - 1 = _
        rw [reservations]
        rfl
      · exact absurd ((by simp [answer] : vget (answer .management tag .settingsSet .ok (.mask mask) (pressureCheck u)).settings 12 = vget u.settings 12)
          ▸ kept) same
      · exact compared.of_same (fits_reserve_iff ok 1) rfl rfl rfl (by simp [answer]) (by simp [answer]) rfl

end Sys2Proof.Machine
end

section
/-! PROOFS. Target sets and the bursts of an operation. -/

namespace Sys2Proof.Machine

/-! ## Target sets (R51) -/

theorem allows_iff (pl : Placement) (x : Nat) : pl.allows x = true ↔
    if pl.allowFirst.toNat ≤ pl.allowLast.toNat then pl.allowFirst.toNat ≤ x ∧ x ≤ pl.allowLast.toNat
    else pl.allowFirst.toNat ≤ x ∨ x ≤ pl.allowLast.toNat := by
  unfold Placement.allows
  split <;> simp

theorem mem_targetSet_iff (pl : Placement) (n own : Nat) (x : Region) : x ∈ targetSet pl n own ↔
    x.val < n ∧ (∃ p, p < 8 ∧ pl.template.getLsbD p = true ∧ (p + pl.home.toNat) % n = x.val) ∧ pl.allows x.val = true ∧ x.val ≠ own := by
  simp [targetSet, and_assoc]

/-- Settles O32. -/
theorem targetSetIsRotatedLimitedAndForeign : Obligations.TargetSetIsRotatedLimitedAndForeign := by
  refine ⟨fun pl n own x _ => ?_, fun pl n own => ?_, ?_⟩
  · rw [mem_targetSet_iff, allows_iff]
    tauto
  · exact (List.pairwise_lt_finRange 8).filter _
  · decide

/-! ## Bursts (R170) -/

/-- The host addresses of a piece. -/
def addressesOf (a : Addr) (n : Nat) : List Addr := (List.range n).map fun i => a + BitVec.ofNat 64 i

theorem addressesOf_length (a : Addr) (n : Nat) : (addressesOf a n).length = n := by simp [addressesOf]

/-- A piece is its first `m` bytes and the rest. -/
theorem addressesOf_add (a : Addr) (m n : Nat) : addressesOf a (m + n) = addressesOf a m ++ addressesOf (a + BitVec.ofNat 64 m) n := by
  simp only [addressesOf, List.range_add, List.map_append, List.map_map, Function.comp_def, BitVec.ofNat_add, BitVec.add_assoc]

theorem take_addressesOf (a : Addr) (m n : Nat) : (addressesOf a n).take m = addressesOf a (min m n) := by
  rw [addressesOf, addressesOf, ← List.map_take, List.take_range]

theorem drop_addressesOf {a : Addr} {m n : Nat} (h : m ≤ n) : (addressesOf a n).drop m = addressesOf (a + BitVec.ofNat 64 m) (n - m) := by
  obtain ⟨k, rfl⟩ := Nat.exists_eq_add_of_le h
  rw [addressesOf_add, List.drop_left' (addressesOf_length a m), Nat.add_sub_cancel_left]

/-- With enough fuel the bursts of a piece are all of it: each ends at a multiple of 4,096 or at the piece's end. -/
theorem cutPiece_covers (fuel : Nat) (a : Addr) (n : Nat) (enough : n = 0 ∨ n + a.toNat % 4096 ≤ fuel * 4096) :
    (cutPiece fuel a n).flatMap (fun c => addressesOf c.1 c.2) = addressesOf a n := by
  induction fuel generalizing a n with
  | zero =>
    obtain rfl : n = 0 := by omega
    rfl
  | succ fuel ih =>
    unfold cutPiece
    split
    · rename_i empty
      rw [empty]
      rfl
    · rw [List.flatMap_cons, ih]
      · rw [← addressesOf_add]
        congr 1
        omega
      · by_cases short : n ≤ 4096 - a.toNat % 4096
        · exact .inl (by rw [Config.burstBytes]; omega)
        · have aligned : (a + BitVec.ofNat 64 (4096 - a.toNat % 4096)).toNat % 4096 = 0 := by
            rw [BitVec.toNat_add, BitVec.toNat_ofNat]
            omega
          rw [Config.burstBytes, min_eq_right (by omega), aligned]
          exact .inr (by omega)

theorem cutPieces_covers (pieces : List (Addr × Nat)) :
    (cutPieces pieces).flatMap (fun c => addressesOf c.1 c.2) = pieces.flatMap fun p => addressesOf p.1 p.2 := by
  rw [cutPieces, List.flatMap_assoc]
  refine congrArg (fun f => List.flatMap f pieces) (funext fun p => cutPiece_covers _ _ _ (.inr ?_))
  rw [Config.burstBytes]
  omega

/-- The pieces of an extent list are the bytes asked for, in the order of the object. -/
theorem piecesOf_covers (xs : List Extent) (off len : Nat) : (piecesOf xs off len).flatMap (fun p => addressesOf p.1 p.2) =
    ((xs.flatMap fun e => addressesOf e.addr e.len.toNat).drop off).take len := by
  induction xs generalizing off len with
  | nil => simp [piecesOf]
  | cons e rest ih =>
    unfold piecesOf
    have size := addressesOf_length e.addr e.len.toNat
    split
    · rename_i none
      rw [none, List.take_zero]
      rfl
    · split
      · rename_i beyond
        rw [ih, List.flatMap_cons, List.drop_append, List.drop_eq_nil_of_le (size.trans_le beyond), List.nil_append, size]
      · rename_i within
        have reach : (addressesOf (e.addr + BitVec.ofNat 64 off) (e.len.toNat - off)).length = e.len.toNat - off := addressesOf_length ..
        rw [List.flatMap_cons, ih, List.flatMap_cons, List.drop_append_of_le_length (by omega), drop_addressesOf (by omega), List.take_append,
          take_addressesOf, List.drop_zero, reach]
        congr 2
        omega

theorem cutPiece_within (fuel : Nat) (a : Addr) (n : Nat) : ∀ c ∈ cutPiece fuel a n, 1 ≤ c.2 ∧ c.1.toNat % 4096 + c.2 ≤ 4096 := by
  induction fuel generalizing a n with
  | zero => simp [cutPiece]
  | succ fuel ih =>
    unfold cutPiece
    split
    · simp
    · intro c hc
      rcases List.mem_cons.mp hc with rfl | later
      · simp only [Config.burstBytes]
        omega
      · exact ih _ _ c later

/-- Settles O40. -/
theorem burstsCoverTheBytesOfTheOperation : Obligations.BurstsCoverTheBytesOfTheOperation := by
  refine ⟨fun xs off len => ?_, fun a n => ?_, fun pieces c hc => ?_, ?_⟩
  · exact (cutPieces_covers _).trans (piecesOf_covers xs off len)
  · exact (cutPieces_covers [(a, n)]).trans (List.flatMap_singleton ..)
  · obtain ⟨p, -, hp⟩ := List.mem_flatMap.mp hc
    exact cutPiece_within _ _ _ c hp
  · decide

end Sys2Proof.Machine
end

section
/-! PROOFS. Records: reading them after a change, retirement, the notices a claim gives, the pressure comparison and the settle test. -/

namespace Sys2Proof.Machine

/-! ## Reading a record after a change -/

theorem find_modRec_of_ne {k q : Key} (h : q ≠ k) (f : Record → Record) (s : State) (key : ∀ r, (f r).key = r.key := by intro r; rfl) :
    (modRec k f s).table.find q = s.table.find q := by
  show (s.table.records.map _).find? _ = s.table.records.find? _
  induction s.table.records with
  | nil => rfl
  | cons r rest ih =>
    rw [List.map_cons, List.find?_cons, List.find?_cons, ih]
    by_cases here : (r.key == k) = true
    · have other : (r.key == q) = false := by
        rw [beq_iff_eq.mp here]
        exact beq_false_of_ne h.symm
      rw [if_pos here, key, other]
    · rw [if_neg here]

theorem modRec_otherRecords (k : Key) (f : Record → Record) (s : State) (key : ∀ r, (f r).key = r.key := by intro r; rfl) :
    OtherRecords k s (modRec k f s) :=
  fun _ h => find_modRec_of_ne h f s key

theorem find_modRec_of_found {k : Key} {r : Record} {s : State} (found : s.table.find k = some r) (f : Record → Record)
    (key : ∀ r, (f r).key = r.key := by intro r; rfl) : (modRec k f s).table.find k = some (f r) := by
  rw [find_modRec k f s key, found]
  rfl

theorem find_modSlot {k : Key} {r : Record} {s : State} (found : s.table.find k = some r) (x : Region) (f : Slot → Slot) :
    (modSlot k x f s).table.find k = some (r.withSlot x (f (vget r.slots x))) :=
  find_modRec_of_found found _

/-- R61: a slot that takes a state by itself has no context and no reason, and keeps its retry count. -/
theorem find_slotTo {k : Key} {r : Record} {s : State} (found : s.table.find k = some r) (x : Region) (st : SlotState) :
    (slotTo k x st s).table.find k = some (r.withSlot x ((vget r.slots x).moved st)) :=
  find_modSlot found x _

theorem OtherRecords.refl (k : Key) (s : State) : OtherRecords k s s := fun _ _ => rfl

theorem OtherRecords.trans {k : Key} {s t u : State} (h : OtherRecords k s t) (g : OtherRecords k t u) : OtherRecords k s u :=
  fun q hq => (g q hq).trans (h q hq)

/-! ## Retirement (R10 to R12) -/

theorem find_retire_self (k : Key) (s : State) : (retire k s).table.find k = none := by
  rw [Table.find_eq_none_iff]
  intro r hr
  simpa using (List.mem_filter.mp hr).2

theorem retire_otherRecords (k : Key) (s : State) : OtherRecords k s (retire k s) := by
  intro q hq
  show (s.table.records.filter _).find? _ = s.table.records.find? _
  rw [List.find?_filter]
  refine List.find?_congr fun r _ => ?_
  by_cases here : r.key = q
  · simp [here, hq]
  · simp [here]

theorem expired_iff (now : Nat) (deadline : Option Nat) : expired now deadline = true ↔ ∃ d, deadline = some d ∧ d ≤ now := by
  unfold expired
  rw [Option.any_eq_true]
  simp

theorem releases_iff (p : Pool) (k : Key) : p.releases k = true ↔ ∀ c, (vget p.ctx c).key ≠ some k := by
  rw [Pool.releases, toList_eq_map_vget, List.all_eq_true]
  simp

/-- R10, R11: the record is due and may be retired. -/
def DueAt (s : State) (r : Record) : Prop :=
  r.state = .settled ∧ (∃ d, r.linger = some d ∧ d ≤ s.now) ∧ r.owed = false ∧ ∀ c, (s.ctx c).key ≠ some r.key

theorem dueAt_iff (s : State) (r : Record) : (expired s.now r.linger && s.retirable r) = true ↔ DueAt s r := by
  unfold State.retirable DueAt
  rw [Bool.and_eq_true, Bool.and_eq_true, Bool.and_eq_true, expired_iff, beq_iff_eq, Bool.not_eq_true', releases_iff]
  exact ⟨fun ⟨due, ⟨settled, owed⟩, free⟩ => ⟨settled, due, owed, free⟩, fun ⟨settled, due, owed, free⟩ => ⟨due, ⟨settled, owed⟩, free⟩⟩

theorem retireIfDue_of_due {k : Key} {r : Record} {s : State} (found : s.table.find k = some r) (due : DueAt s r) : retireIfDue k s = retire k s := by
  rw [retireIfDue, found]
  exact if_pos ((dueAt_iff s r).mpr due)

theorem retireIfDue_of_not_due {k : Key} {r : Record} {s : State} (found : s.table.find k = some r) (notDue : ¬ DueAt s r) : retireIfDue k s = s := by
  rw [retireIfDue, found]
  exact if_neg (mt (dueAt_iff s r).mp notDue)

theorem retireIfDue_of_absent {k : Key} {s : State} (absent : s.table.find k = none) : retireIfDue k s = s := by rw [retireIfDue, absent]

/-- A record that is not SETTLED is not retired. -/
theorem retireIfDue_of_not_settled {k : Key} {s : State} (h : ∀ r, s.table.find k = some r → r.state ≠ .settled) : retireIfDue k s = s := by
  cases found : s.table.find k with
  | none => exact retireIfDue_of_absent found
  | some r => exact retireIfDue_of_not_due found fun due => h r found due.1

/-- Either nothing happens, or the record leaves the table. -/
theorem retireIfDue_cases (k : Key) (s : State) : retireIfDue k s = s ∨ retireIfDue k s = retire k s := by
  unfold retireIfDue
  split
  · split
    · exact .inr rfl
    · exact .inl rfl
  · exact .inl rfl

theorem retireIfDue_otherRecords (k : Key) (s : State) : OtherRecords k s (retireIfDue k s) := by
  rcases retireIfDue_cases k s with same | gone
  · rw [same]
    exact .refl k s
  · rw [gone]
    exact retire_otherRecords k s

theorem retireIfDue_pressure (k : Key) (s : State) : PressureKept s (retireIfDue k s) := by
  rcases retireIfDue_cases k s with same | gone
  · rw [same]
    exact ⟨rfl, rfl, rfl⟩
  · rw [gone]
    exact ⟨rfl, rfl, rfl⟩

/-- R10, R12: the record stands, or is retired. -/
theorem retireIfDue_standsOrRetires {k : Key} {r : Record} {s : State} (found : s.table.find k = some r) : StandsOrRetires True r s (retireIfDue k s) := by
  obtain ⟨-, key⟩ := Table.find_some found
  have due : Retires True r s (retireIfDue k s) ↔ DueAt s r := by
    unfold Retires DueAt State.ctx
    simp
  unfold StandsOrRetires
  rw [due, key]
  refine ⟨fun h => ?_, fun h => ?_⟩
  · rw [retireIfDue_of_due found h]
    exact ⟨find_retire_self k s, rfl⟩
  · rw [retireIfDue_of_not_due found h]
    exact ⟨⟨r, found, rfl⟩, rfl⟩

/-! ## The room of the Backlog (R185, R187) -/

theorem fits_iff (s : State) (n : Nat) : s.fits n = true ↔ s.anyOwed = false ∧ n ≤ 64 - s.backlog.entries.length - s.backlog.reservations := by
  unfold State.fits
  rw [Bool.and_eq_true, decide_eq_true_eq, Bool.not_eq_true']
  rfl

theorem hasRoom_mono {s : State} {m n : Nat} (h : m ≤ n) (room : s.hasRoom n) : s.hasRoom m := by
  obtain ⟨unowed, fits⟩ := (fits_iff s n).mp room
  exact (fits_iff s m).mpr ⟨unowed, h.trans fits⟩

/-- What decides on room, but for the entries and the Owed List, is as it was. -/
structure RoomKept (s t : State) : Prop where
  bmc : t.bmc = s.bmc
  flags : ∀ x, (t.region x).owed = (s.region x).owed
  reservations : t.backlog.reservations = s.backlog.reservations

theorem RoomKept.trans {s t u : State} (h : RoomKept s t) (g : RoomKept t u) : RoomKept s u :=
  ⟨g.bmc.trans h.bmc, fun x => (g.flags x).trans (h.flags x), g.reservations.trans h.reservations⟩

theorem RoomKept.of_regions {s t : State} (bmc : t.bmc = s.bmc) (regions : t.regions = s.regions)
    (reservations : t.backlog.reservations = s.backlog.reservations) : RoomKept s t :=
  ⟨bmc, fun x => by rw [State.region, regions]; rfl, reservations⟩

theorem RoomKept.anyOwed {s t : State} (h : RoomKept s t) (pressure : t.backlog.owedPressure = s.backlog.owedPressure)
    (list : t.backlog.owedList = s.backlog.owedList) : t.anyOwed = s.anyOwed := by
  rw [Bool.eq_iff_iff, ← not_iff_not, Bool.not_eq_true, Bool.not_eq_true, anyOwed_eq_false_iff, anyOwed_eq_false_iff, h.bmc, pressure, list]
  simp only [h.flags]

theorem anyOwed_of_owedList {s : State} (h : s.backlog.owedList ≠ []) : s.anyOwed = true := by
  by_contra none
  rw [Bool.not_eq_true, anyOwed_eq_false_iff] at none
  exact h none.2.2.2

theorem owedWith_ne_nil (k : Key) (l : List Key) : owedWith k l ≠ [] := by
  unfold owedWith
  split
  · rename_i mem
    exact List.ne_nil_of_mem mem
  · simp

theorem owedWith_owedWith (k : Key) (l : List Key) : owedWith k (owedWith k l) = owedWith k l := by
  have mem : k ∈ owedWith k l := by
    unfold owedWith
    split
    · assumption
    · simp
  exact if_pos mem

theorem entriesOf_append (ms ns : List Notice) : entriesOf (ms ++ ns) = entriesOf ms ++ entriesOf ns := List.flatMap_append ..

theorem entriesOf_cons (n : Notice) (ns : List Notice) : entriesOf (n :: ns) = n.bodies ++ entriesOf ns := List.flatMap_cons ..

theorem entriesOf_singleton (n : Notice) : entriesOf [n] = n.bodies := List.append_nil _

theorem waitingEntries_append (as bs : List EntryBody) : waitingEntries (as ++ bs) = waitingEntries as ++ waitingEntries bs := List.map_append ..

theorem waitingEntries_length (as : List EntryBody) : (waitingEntries as).length = as.length := List.length_map ..

/-! ## A record becomes owed (R187) -/

/-- The record as a notice that could not be placed leaves it. -/
def Record.owe (cancel : Option (Version × CancelReason)) (r : Record) : Record :=
  { r with owed := true, owedCancel := if cancel.isSome then cancel else r.owedCancel }

theorem find_oweRecord {k : Key} {r : Record} {s : State} (found : s.table.find k = some r) (cancel : Option (Version × CancelReason)) :
    (oweRecord k cancel s).table.find k = some (r.owe cancel) := by
  rw [oweRecord, if_pos (by rw [found]; rfl)]
  exact find_modRec_of_found found _

theorem oweRecord_owedList {k : Key} {r : Record} {s : State} (found : s.table.find k = some r) (cancel : Option (Version × CancelReason)) :
    (oweRecord k cancel s).backlog = { s.backlog with owedList := owedWith k s.backlog.owedList } := by
  rw [oweRecord, if_pos (by rw [found]; rfl)]
  show Backlog.mk _ _ (if (s.backlog.owedList.contains k) = true then _ else _) _ = _
  simp only [List.contains_iff_mem]
  rfl

theorem oweRecord_otherRecords (k : Key) (cancel : Option (Version × CancelReason)) (s : State) : OtherRecords k s (oweRecord k cancel s) := by
  unfold oweRecord
  split
  · exact modRec_otherRecords k _ s
  · exact .refl k s

theorem oweRecord_table (k : Key) (cancel : Option (Version × CancelReason)) (s : State) :
    (oweRecord k cancel s).table.linger = s.table.linger ∧ (oweRecord k cancel s).table.rising = s.table.rising ∧
      (oweRecord k cancel s).table.lastReported = s.table.lastReported ∧ (oweRecord k cancel s).table.records.length = s.table.records.length := by
  unfold oweRecord
  split
  · exact ⟨rfl, rfl, rfl, List.length_map _⟩
  · exact ⟨rfl, rfl, rfl, rfl⟩

theorem oweRecord_roomKept (k : Key) (cancel : Option (Version × CancelReason)) (s : State) : RoomKept s (oweRecord k cancel s) := by
  unfold oweRecord
  split
  · exact .of_regions rfl rfl rfl
  · exact .of_regions rfl rfl rfl

theorem owedCancel_owe (r : Record) (n : Notice) : (r.owe n.cancel).owedCancel = cancelOwed r.owedCancel n := by cases n <;> rfl

theorem sameBody_owe (r : Record) (cancel : Option (Version × CancelReason)) : Record.sameBody r (r.owe cancel) := rfl

/-! ## A notice on a record (R187) -/

theorem emitRecord_of_fits {k : Key} {n : Notice} {s : State} (h : s.hasRoom n.length) : emitRecord k n s = place n.bodies s := if_pos h

theorem emitRecord_of_not_fits {k : Key} {n : Notice} {s : State} (h : ¬ s.hasRoom n.length) : emitRecord k n s = oweRecord k n.cancel s := if_neg h

theorem emitRecord_otherRecords (k : Key) (n : Notice) (s : State) : OtherRecords k s (emitRecord k n s) := by
  unfold emitRecord
  split
  · exact .refl k s
  · exact oweRecord_otherRecords k _ s

theorem emitRecord_linger (k : Key) (n : Notice) (s : State) : (emitRecord k n s).table.linger = s.table.linger := by
  unfold emitRecord
  split
  · rfl
  · exact (oweRecord_table k _ s).1

theorem emitRecord_roomKept (k : Key) (n : Notice) (s : State) : RoomKept s (emitRecord k n s) := by
  unfold emitRecord
  split
  · exact .of_regions rfl rfl rfl
  · exact oweRecord_roomKept k _ s

/-- The record keeps its fields, and is owed when the notice could not be placed. -/
theorem emitRecord_record {k : Key} {r : Record} {s : State} (found : s.table.find k = some r) (n : Notice) :
    ∃ q, (emitRecord k n s).table.find k = some q ∧ Record.sameBody r q ∧ (s.hasRoom n.length → q = r) ∧ (¬ s.hasRoom n.length → q.owed = true) := by
  by_cases room : s.hasRoom n.length
  · rw [emitRecord_of_fits room]
    exact ⟨r, found, rfl, fun _ => rfl, fun h => absurd room h⟩
  · rw [emitRecord_of_not_fits room]
    exact ⟨_, find_oweRecord found _, sameBody_owe r _, fun h => absurd h room, fun _ => rfl⟩

/-! ## The notices of one claim on a record (R187, R19) -/

theorem RecordNotices.none (k : Key) (s : State) : RecordNotices s.hasRoom k [] [] s s := by
  refine ⟨⟨[], [], rfl, by simp [entriesOf, waitingEntries], fun h => absurd rfl h, fun _ => ⟨rfl, fun q hq => ?_⟩, fun _ _ h => by cases h⟩, rfl, rfl, rfl⟩
  exact ⟨by simp [State.owedCancel, hq], fun r hr => by cases hq.symm.trans hr; rfl⟩

/-- The room left behind the notices given so far. -/
theorem NoticesGiven.fits_iff {k : Key} {ns : List Notice} {s t : State} (h : NoticesGiven s.hasRoom k ns [] [] s t) (kept : RoomKept s t)
    (pressure : t.backlog.owedPressure = s.backlog.owedPressure) {m : Nat} (some : 0 < m) : t.hasRoom m ↔ s.hasRoom ((entriesOf ns).length + m) := by
  obtain ⟨placed, left, rfl, entries, -, whole, owes⟩ := h
  cases left with
  | nil =>
    obtain ⟨list, -⟩ := whole rfl
    have count : t.backlog.entries.length = s.backlog.entries.length + (entriesOf placed).length := by
      rw [entries]
      simp [waitingEntries]
    rw [State.hasRoom, State.hasRoom, Machine.fits_iff, Machine.fits_iff, kept.anyOwed pressure list, count, kept.reservations, List.append_nil]
    refine and_congr_right fun _ => ?_
    omega
  | cons n rest =>
    obtain ⟨noRoom, -, list, -⟩ := owes n rest rfl
    refine iff_of_false (fun room => ?_) fun room => noRoom (hasRoom_mono ?_ room)
    · have unowed := ((Machine.fits_iff t m).mp room).1
      rw [anyOwed_of_owedList (list ▸ owedWith_ne_nil k _)] at unowed
      cases unowed
    · rw [entriesOf_append, entriesOf_cons, List.length_append, List.length_append]
      omega

/-- One notice more: placed as long as none before it was left owed and it fits. -/
theorem NoticesGiven.emit {k : Key} {ns : List Notice} {s t : State} {r : Record} (h : NoticesGiven s.hasRoom k ns [] [] s t) (kept : RoomKept s t)
    (pressure : t.backlog.owedPressure = s.backlog.owedPressure) (found : t.table.find k = some r) (n : Notice) :
    NoticesGiven s.hasRoom k (ns ++ [n]) [] [] s (emitRecord k n t) := by
  have positive : 0 < n.length := by cases n <;> exact Nat.succ_pos _
  have room := h.fits_iff kept pressure positive
  obtain ⟨placed, left, rfl, entries, fitted, whole, owes⟩ := h
  rw [show waitingEntries [] = [] from rfl, List.append_nil, List.append_nil] at entries
  by_cases fits : t.hasRoom n.length
  · cases left with
    | cons m rest =>
      obtain ⟨-, -, list, -⟩ := owes m rest rfl
      have unowed := ((Machine.fits_iff t _).mp fits).1
      rw [anyOwed_of_owedList (list ▸ owedWith_ne_nil k _)] at unowed
      cases unowed
    | nil =>
      obtain ⟨list, owed⟩ := whole rfl
      rw [emitRecord_of_fits fits, List.append_nil]
      refine ⟨placed ++ [n], [], (List.append_nil _).symm, ?_, fun _ => ?_, fun _ => ⟨list, owed⟩, fun _ _ h => by cases h⟩
      · show t.backlog.entries ++ waitingEntries n.bodies = _
        rw [entries, entriesOf_append, waitingEntries_append, entriesOf_singleton]
        simp [waitingEntries]
      · rw [List.append_nil] at room
        rw [entriesOf_append, entriesOf_singleton, List.length_append, n.bodies_length]
        exact room.mp fits
  · rw [emitRecord_of_not_fits fits]
    have backlog := oweRecord_owedList found n.cancel
    refine ⟨placed, left ++ [n], List.append_assoc .., ?_, fitted, fun h => by simp at h, fun m rest split => ?_⟩
    · rw [backlog, entries]
      simp [waitingEntries]
    · rw [backlog]
      cases left with
      | nil =>
        obtain ⟨list, owed⟩ := whole rfl
        obtain ⟨rfl, rfl⟩ : n = m ∧ [] = rest := by simpa using split
        rw [List.append_nil] at room
        refine ⟨?_, rfl, congrArg (owedWith k) list, r.owe n.cancel, find_oweRecord found _, rfl, ?_⟩
        · rw [n.bodies_length]
          exact mt room.mpr fits
        · rw [owedCancel_owe, (owed r found).1]
          rfl
      | cons l more =>
        obtain ⟨noRoom, -, list, q, stands, -, cancel⟩ := owes l more rfl
        obtain ⟨rfl, rfl⟩ : l = m ∧ more ++ [n] = rest := by simpa using split
        cases found.symm.trans stands
        refine ⟨noRoom, rfl, ?_, r.owe n.cancel, find_oweRecord found _, rfl, ?_⟩
        · show owedWith k t.backlog.owedList = _
          rw [list, owedWith_owedWith]
        · rw [owedCancel_owe, cancel, List.foldl_append]
          rfl

theorem emitRecord_pressure {k : Key} {r : Record} {s : State} (found : s.table.find k = some r) (n : Notice) : PressureKept s (emitRecord k n s) :=
  (emitRecord_gives k n s r found).2

theorem PressureKept.refl (s : State) : PressureKept s s := ⟨rfl, rfl, rfl⟩

theorem PressureKept.trans {s t u : State} (h : PressureKept s t) (g : PressureKept t u) : PressureKept s u :=
  ⟨g.1.trans h.1, g.2.1.trans h.2.1, g.2.2.trans h.2.2⟩

theorem RecordNotices.emit {k : Key} {ns : List Notice} {s t : State} {r : Record} (h : RecordNotices s.hasRoom k ns [] s t) (kept : RoomKept s t)
    (found : t.table.find k = some r) (n : Notice) : RecordNotices s.hasRoom k (ns ++ [n]) [] s (emitRecord k n t) :=
  ⟨h.1.emit kept h.2.2.2 found n, h.2.trans (emitRecord_pressure found n)⟩

/-- A retirement in the claim does not touch what was given: an owed record is not retired. -/
theorem NoticesGiven.retireIfDue {room : Nat → Prop} {k : Key} {ns : List Notice} {es : List BacklogEntry} {tail : List EntryBody} {s t : State}
    (h : NoticesGiven room k ns es tail s t) : NoticesGiven room k ns es tail s (Machine.retireIfDue k t) := by
  obtain ⟨placed, left, split, entries, fitted, whole, owes⟩ := h
  rcases retireIfDue_cases k t with same | gone
  · rw [same]
    exact ⟨placed, left, split, entries, fitted, whole, owes⟩
  · refine ⟨placed, left, split, by simpa using entries, fitted, fun none => ⟨by simpa using (whole none).1, ?_⟩, fun n rest some => ?_⟩
    · intro q hq
      rw [gone, find_retire_self] at hq
      cases hq
    · obtain ⟨noRoom, noMore, list, r, found, owed, cancel⟩ := owes n rest some
      rw [retireIfDue_of_not_due found fun due => Bool.false_ne_true (due.2.2.1.symm.trans owed)]
      exact ⟨noRoom, noMore, list, r, found, owed, cancel⟩

theorem RecordNotices.retireIfDue {room : Nat → Prop} {k : Key} {ns : List Notice} {tail : List EntryBody} {s t : State}
    (h : RecordNotices room k ns tail s t) : RecordNotices room k ns tail s (Machine.retireIfDue k t) :=
  ⟨h.1.retireIfDue, h.2.trans (retireIfDue_pressure k t)⟩

/-- R10: a notice and then the retirement of a due record: only a placed notice lets it go. -/
theorem emit_retire_standsOrRetires {k : Key} {r : Record} {s : State} (found : s.table.find k = some r) (n : Notice) :
    StandsOrRetires (s.hasRoom n.length) r s (retireIfDue k (emitRecord k n s)) := by
  obtain ⟨-, key⟩ := Table.find_some found
  obtain ⟨q, stands, body, whole, owes⟩ := emitRecord_record found n
  have linger := emitRecord_linger k n s
  by_cases room : s.hasRoom n.length
  · obtain rfl := whole room
    have result := retireIfDue_standsOrRetires stands
    unfold StandsOrRetires Retires Retired at result ⊢
    rw [linger, show (emitRecord k n s).now = s.now by simp] at result
    simpa [room] using result
  · have notDue : ¬ DueAt (emitRecord k n s) q := fun due => Bool.false_ne_true (due.2.2.1.symm.trans (owes room))
    rw [retireIfDue_of_not_due stands notDue]
    exact ⟨fun h => absurd h.1 room, fun _ => ⟨⟨q, key ▸ stands, body⟩, linger⟩⟩

/-! ## The pressure comparison behind the notices (R20, R21) -/

theorem pressureCheck_table (s : State) : (pressureCheck s).table.records = s.table.records ∧ (pressureCheck s).table.linger = s.table.linger := by
  obtain ⟨-, -, -, records, linger, -⟩ := pressureCheck_compares s
  exact ⟨records, linger⟩

theorem find_pressureCheck (k : Key) (s : State) : (pressureCheck s).table.find k = s.table.find k := by
  rw [Table.find, (pressureCheck_table s).1]
  rfl

theorem PressureCompared.eq_nil {room : Prop} {es : List BacklogEntry} {s t : State} (h : PressureCompared room es s t) (noRoom : ¬ room) : es = [] := by
  obtain ⟨-, same, differs⟩ := h
  by_cases rising : t.table.rising = s.table.rising
  · exact (same rising).1
  · exact ((differs rising).2 noRoom).1

theorem RecordNotices.compared {k : Key} {ns : List Notice} {s t : State} (h : RecordNotices s.hasRoom k ns [] s t) (kept : RoomKept s t) :
    RecordNoticesCompared s.hasRoom k ns [] s (pressureCheck t) := by
  obtain ⟨given, rising, reported, owed⟩ := h
  have room := given.fits_iff kept owed (m := 1) Nat.one_pos
  obtain ⟨es, compared, entries, records, -, list, -⟩ := pressureCheck_compares t
  refine ⟨es, ?_, compared.of_same room rising.symm reported.symm owed.symm rfl rfl rfl⟩
  obtain ⟨placed, left, split, before, fitted, whole, owes⟩ := given
  have none : waitingEntries [] = [] := rfl
  rw [none, List.append_nil, List.append_nil] at before
  refine ⟨placed, left, split, by rw [entries, before, none, List.append_nil], fitted, fun done => ?_, fun n rest some => ?_⟩
  · obtain ⟨list', owedKept⟩ := whole done
    refine ⟨list.trans list', fun q hq => owedKept q ?_⟩
    rwa [find_pressureCheck] at hq
  · obtain ⟨noRoom, -, list', r, found, owedNow, cancel⟩ := owes n rest some
    refine ⟨noRoom, compared.eq_nil ?_, list.trans list', r, by rwa [find_pressureCheck], owedNow, cancel⟩
    rw [room, split, some, entriesOf_append, entriesOf_cons, List.length_append, List.length_append]
    exact fun all => noRoom (hasRoom_mono (by omega) all)

/-! ## The settle test (R6, R9, R76, R77) -/

/-- The Linger List as the record joins it. -/
theorem lingerJoin_joins (k : Key) (s : State) : JoinsLinger k s (lingerJoin k (s.now + s.settingTime 10) s) := by
  refine ⟨_, _, (List.takeWhile_append_dropWhile ..).symm, rfl, fun q hq r d found linger => ?_, fun q hq => ?_⟩
  · have ahead := List.mem_takeWhile_imp hq
    simpa [found, linger] using ahead
  · have behind := List.head?_dropWhile_not (fun q => decide (((s.table.find q).bind (·.linger)).getD 0 ≤ s.now + s.settingTime 10)) s.table.linger
    rw [hq] at behind
    have late : s.now + s.settingTime 10 < ((s.table.find q).bind (·.linger)).getD 0 := by simpa using behind
    cases found : s.table.find q with
    | none => simp [found] at late
    | some r =>
      cases linger : r.linger with
      | none => simp [found, linger] at late
      | some d => exact ⟨r, d, rfl, linger, by simpa [found, linger] using late⟩

theorem JoinsLinger.filter {k : Key} {s t : State} (h : JoinsLinger k s t) :
    (t.table.linger.filter fun q => q != k) = s.table.linger.filter fun q => q != k := by
  obtain ⟨before, after, was, isNow, -, -⟩ := h
  rw [was, isNow]
  simp

theorem find_settle {k : Key} {r : Record} {s : State} (found : s.table.find k = some r) (o : Settle) : (settle k o s).table.find k = some (r.settledAs o s) :=
  find_modRec_of_found (s := lingerJoin k (s.now + s.settingTime 10) s) found _

theorem settle_otherRecords (k : Key) (o : Settle) (s : State) : OtherRecords k s (settle k o s) := modRec_otherRecords k _ _

theorem settle_joins (k : Key) (o : Settle) (s : State) : JoinsLinger k s (settle k o s) := lingerJoin_joins k s

/-- R9, R10, R12: a record that settles and then stands or retires. -/
theorem StandsOrRetires.of_settle {unowed : Prop} {k : Key} {r : Record} {o : Settle} {s t : State} (key : r.key = k)
    (h : StandsOrRetires unowed (r.settledAs o s) (settle k o s) t) : SettledOrRetired unowed r o s t := by
  subst key
  have joins := settle_joins r.key o s
  obtain ⟨retires, stands⟩ := h
  refine ⟨fun due => ?_, fun notDue => ?_⟩
  · obtain ⟨gone, linger⟩ := retires due
    exact ⟨gone, linger.trans joins.filter⟩
  · obtain ⟨found, linger⟩ := stands notDue
    refine ⟨found, ?_⟩
    unfold JoinsLinger at joins ⊢
    rwa [linger]

/-- What is said of the state after reads the record, the Linger List and the contexts. -/
theorem SettledOrRetired.after_same {unowed : Prop} {r : Record} {o : Settle} {s t v : State} (h : SettledOrRetired unowed r o s t)
    (record : v.table.find r.key = t.table.find r.key) (linger : v.table.linger = t.table.linger) (pool : v.pool = t.pool) :
    SettledOrRetired unowed r o s v := by
  unfold SettledOrRetired Retires Retired JoinsLinger State.ctx at h ⊢
  rw [record, linger, pool]
  exact h

theorem converges_eq {k : Key} {r : Record} {s : State} (found : s.table.find k = some r) (role : r.role = .localRole) (opened : r.state = .opened) :
    s.converges k = r.allFinal := by
  rw [State.converges, found, Option.any_some, role, opened]
  rfl

theorem settleTest_of_open {k : Key} {r : Record} {s : State} (found : s.table.find k = some r) (role : r.role = .localRole) (opened : r.state = .opened)
    (notLast : r.allFinal = false) : settleTest k s = s := by
  rw [settleTest, found]
  exact if_neg (by rw [converges_eq found role opened, notLast]; exact Bool.false_ne_true)

theorem settleTest_of_last {k : Key} {r : Record} {s : State} (found : s.table.find k = some r) (role : r.role = .localRole) (opened : r.state = .opened)
    (last : r.allFinal = true) : settleTest k s = retireIfDue k (emitRecord k (settledNotice r) (settle k .converged s)) := by
  rw [settleTest, found]
  exact if_pos (by rw [converges_eq found role opened, last])

theorem settle_roomKept (k : Key) (o : Settle) (s : State) : RoomKept s (settle k o s) := .of_regions rfl rfl rfl

/-- A change of the record that keeps what is owed of it gives no notice. -/
theorem RecordNotices.of_record {k : Key} {r q : Record} {s t : State} (before : s.table.find k = some r) (after : t.table.find k = some q)
    (owed : q.owed = r.owed) (cancel : q.owedCancel = r.owedCancel) (entries : t.backlog.entries = s.backlog.entries)
    (list : t.backlog.owedList = s.backlog.owedList) (pressure : PressureKept s t) : RecordNotices s.hasRoom k [] [] s t := by
  refine ⟨⟨[], [], rfl, by simp [entriesOf, waitingEntries, entries], fun h => absurd rfl h, fun _ => ⟨list, fun p hp => ?_⟩, fun _ _ h => by cases h⟩, pressure⟩
  cases after.symm.trans hp
  refine ⟨by simp [State.owedCancel, before, cancel], fun r' hr' => ?_⟩
  cases before.symm.trans hr'
  exact owed

theorem RoomKept.retireIfDue (k : Key) (s : State) : RoomKept s (Machine.retireIfDue k s) := .of_regions (by simp) (by simp) (by simp)

/-- R6, R76, R77, R20: the settle test of an OPEN record whose slot has just become final, and the pressure comparison behind it. -/
theorem settleTest_settles {k : Key} {r : Record} {s : State} (found : s.table.find k = some r) (role : r.role = .localRole) (opened : r.state = .opened) :
    SettledWhenLast s.hasRoom r [] s (pressureCheck (settleTest k s)) := by
  obtain ⟨-, key⟩ := Table.find_some found
  unfold SettledWhenLast
  rw [key]
  split
  · rename_i last
    rw [settleTest_of_last found role opened last]
    let u := settle k .converged s
    have settled : u.table.find k = some (r.settledAs .converged s) := find_settle found _
    have kept : RoomKept s u := settle_roomKept k _ s
    have none : RecordNotices s.hasRoom k [] [] s u := .of_record found settled rfl rfl rfl rfl ⟨rfl, rfl, rfl⟩
    refine ⟨?_, ?_⟩
    · have result : SettledOrRetired (s.hasRoom (settledNotice r).length) r .converged s _ :=
        (emit_retire_standsOrRetires settled (settledNotice r)).of_settle key
      rw [Notice.bodies_length]
      exact result.after_same (find_pressureCheck ..) (pressureCheck_table _).2 (by simp [u])
    · exact (none.emit kept settled (settledNotice r)).retireIfDue.compared (kept.trans ((emitRecord_roomKept ..).trans (.retireIfDue ..)))
  · rename_i notLast
    rw [settleTest_of_open found role opened (Bool.not_eq_true _ ▸ notLast)]
    refine ⟨by rw [find_pressureCheck, found], (pressureCheck_table s).2, ?_⟩
    exact (RecordNotices.none k s).compared (.of_regions rfl rfl rfl)

theorem settleTest_otherRecords (k : Key) (s : State) : OtherRecords k s (pressureCheck (settleTest k s)) := by
  refine .trans (t := settleTest k s) ?_ fun q _ => find_pressureCheck q _
  unfold settleTest
  split
  · split
    · exact (settle_otherRecords k _ s).trans ((emitRecord_otherRecords k _ _).trans (retireIfDue_otherRecords k _))
    · exact .refl k s
  · exact .refl k s

end Sys2Proof.Machine
end

section
/-! PROOFS. Ends of outbound contexts, slot moves, and what the words of the statements read of the states before and after a claim. -/

namespace Sys2Proof.Machine

/-! ## Stores -/

theorem vset_vset {α : Type} {n : Nat} (v : Vector α n) (i : Fin n) (x y : α) : vset (vset v i x) i y = vset v i y := by
  simp [vset]

theorem withSlot_withSlot (r : Record) (x : Region) (a b : Slot) : (r.withSlot x a).withSlot x b = r.withSlot x b := by
  simp [Record.withSlot, vset_vset]

theorem vget_withSlot (r : Record) (x y : Region) (a : Slot) : vget (r.withSlot x a).slots y = if y = x then a else vget r.slots y := vget_vset ..

theorem ctx_setCtx (c d : CtxNo) (v : Ctx) (s : State) : (setCtx c v s).ctx d = if d = c then v else s.ctx d := vget_vset ..

theorem ctx_setCtx_self (c : CtxNo) (v : Ctx) (s : State) : (setCtx c v s).ctx c = v := vget_vset_self ..

theorem setCtx_otherContexts (c : CtxNo) (v : Ctx) (s : State) : OtherContexts c s (setCtx c v s) := fun _ h => vget_vset_of_ne _ h _

/-! ## The end of an outbound context (R87, R165, R176) -/

/-- R176: the read of the buffer is an operation with no burst issued. -/
def readUntouched (c : CtxNo) (s : State) (b : Fin 2) : Bool := s.hme.ops.any fun op => op.use == .segRead c b && op.untouched

/-- R87: the buffers as the context ends. -/
def endedBufs (c : CtxNo) (o : OutCtx) (s : State) : Vector Buf 2 :=
  #v[endedBuf (readUntouched c s 0) (vget o.bufs 0), endedBuf (readUntouched c s 1) (vget o.bufs 1)]

/-- R87: what the context is once it has ended. -/
def endedCtx (c : CtxNo) (o : OutCtx) (s : State) : Ctx :=
  if (endedBufs c o s).toList.any Buf.isReading then .out { o with state := .aborting, timer := none, bufs := endedBufs c o s } else .free

/-- R176: the context's reads with no burst issued are dropped. -/
def dropReads (c : CtxNo) (s : State) : State := s.withHme { s.hme with ops := s.hme.ops.filter fun op => !(op.use.readsFor c && op.untouched) }

theorem readUntouched_iff (c : CtxNo) (s : State) (b : Fin 2) : readUntouched c s b = true ↔ ∃ op ∈ s.hme.ops, op.use = .segRead c b ∧ op.untouched = true := by
  simp [readUntouched]

theorem vget_endedBufs (c : CtxNo) (o : OutCtx) (s : State) (b : Fin 2) : vget (endedBufs c o s) b = endedBuf (readUntouched c s b) (vget o.bufs b) := by
  match b with
  | 0 => rfl
  | 1 => rfl

theorem isReading_endedBuf (dropped : Bool) (b : Buf) : (endedBuf dropped b).isReading = true ↔ b.isReading = true ∧ dropped = false := by
  cases b <;> cases dropped <;> simp [endedBuf, Buf.isReading]

/-- R87: a buffer still reads exactly when a read is left. -/
theorem endedBufs_reading_iff (c : CtxNo) (o : OutCtx) (s : State) : (endedBufs c o s).toList.any Buf.isReading = true ↔ ReadsLeft c o s := by
  rw [← not_iff_not, Bool.not_eq_true, any_toList_eq_false_iff, ReadsLeft, not_exists]
  refine forall_congr' fun b => ?_
  rw [← Bool.not_eq_true, vget_endedBufs, isReading_endedBuf, ← Bool.not_eq_true, readUntouched_iff]

theorem endOutbound_eq {c : CtxNo} {o : OutCtx} {s : State} (bound : s.ctx c = .out o) : endOutbound c s =
    if (endedBufs c o s).toList.any Buf.isReading then
      setCtx c (.out { o with state := .aborting, timer := none, bufs := endedBufs c o s }) (loseGrant c (dropReads c s))
    else freeCtx c o.key (loseGrant c (dropReads c s)) := by
  unfold endOutbound
  rw [bound]
  rfl

theorem loseGrant_wan (c : CtxNo) (s : State) :
    (loseGrant c s).wan = { s.wan with holder := if s.wan.holder = some c then none else s.wan.holder } := by
  unfold loseGrant
  by_cases holds : s.wan.holder = some c
  · rw [if_pos (beq_iff_eq.mpr holds), if_pos holds]
    rfl
  · rw [if_neg (mt beq_iff_eq.mp holds), if_neg holds]

theorem ctx_congr {s t : State} (h : t.pool = s.pool) (c : CtxNo) : t.ctx c = s.ctx c := by rw [State.ctx, h, State.ctx]

/-- The end of a context, whose record is not SETTLED, so that nothing is retired. -/
theorem endOutbound_of_unsettled {c : CtxNo} {o : OutCtx} {s : State} (bound : s.ctx c = .out o)
    (unsettled : ∀ r, s.table.find o.key = some r → r.state ≠ .settled) :
    endOutbound c s = setCtx c (endedCtx c o s) (loseGrant c (dropReads c s)) := by
  rw [endOutbound_eq bound, endedCtx]
  split
  · rfl
  · exact retireIfDue_of_not_settled fun r hr => unsettled r (by simpa [dropReads] using hr)

theorem endedCtx_ended (c : CtxNo) (o : OutCtx) (s : State) : (¬ ReadsLeft c o s → endedCtx c o s = .free) ∧
    (ReadsLeft c o s → endedCtx c o s = .out { o with state := .aborting, timer := none, bufs := endedBufs c o s }) :=
  ⟨fun none => if_neg (mt (endedBufs_reading_iff c o s).mp none), fun some => if_pos ((endedBufs_reading_iff c o s).mpr some)⟩

theorem contextEnded_of_ctx {c : CtxNo} {o : OutCtx} {s t : State} (h : t.ctx c = endedCtx c o s) : ContextEnded c o s t := by
  obtain ⟨free, aborting⟩ := endedCtx_ended c o s
  refine ⟨fun none => h.trans (free none), fun some => ⟨_, h.trans (aborting some), rfl, rfl, rfl, rfl, rfl, fun b => ?_⟩⟩
  simp only [vget_endedBufs]
  refine ⟨fun ch g d reading => ?_, fun idle => ?_⟩
  · rw [reading]
    cases readUntouched c s b
    · exact .inr rfl
    · exact .inl rfl
  · cases buf : vget o.bufs b
    case reading => rw [buf] at idle; cases idle
    all_goals rfl

theorem mem_dropReads (c : CtxNo) (s : State) (op : Op) :
    op ∈ (dropReads c s).hme.ops ↔ op ∈ s.hme.ops ∧ ¬ (op.use.readsFor c = true ∧ op.untouched = true) := by
  show op ∈ s.hme.ops.filter _ ↔ _
  rw [List.mem_filter, Bool.not_eq_true', ← Bool.not_eq_true, Bool.and_eq_true]

/-- R87, R165, R176: the end of a context bound outbound. -/
theorem endOutbound_ends {c : CtxNo} {o : OutCtx} {s : State} (bound : s.ctx c = .out o)
    (unsettled : ∀ r, s.table.find o.key = some r → r.state ≠ .settled) :
    KeepsAllBut [.contexts, .port, .engine] s (endOutbound c s) ∧ OutboundEnded c o s (endOutbound c s) ∧
      (endOutbound c s).wan = { s.wan with holder := (endOutbound c s).wan.holder } ∧
      (endOutbound c s).hme = { s.hme with ops := (endOutbound c s).hme.ops } ∧ (endOutbound c s).pool.nextOrder = s.pool.nextOrder := by
  rw [endOutbound_of_unsettled bound unsettled]
  have pool : (loseGrant c (dropReads c s)).pool = s.pool := by simp [dropReads]
  have wan := loseGrant_wan c (dropReads c s)
  refine ⟨keepsAllBut_iff.mpr (by simp [dropReads]), ⟨contextEnded_of_ctx (ctx_setCtx_self ..), fun d h => ?_, ?_, fun other => ?_, fun op => ?_⟩, ?_, ?_, ?_⟩
  · rw [ctx_setCtx, if_neg h]
    exact ctx_congr pool d
  · simp only [setCtx_frame, wan]
    split
    · simp
    · assumption
  · simp only [setCtx_frame, wan]
    rw [if_neg (show ¬ (dropReads c s).wan.holder = some c from other)]
    rfl
  · simpa using mem_dropReads c s op
  · simp only [setCtx_frame, wan]
    rfl
  · simp [dropReads]
  · show (loseGrant c (dropReads c s)).pool.nextOrder = _
    rw [pool]

/-! ## Frames to a region (R162) -/

theorem sendCtl_frameSent (x : Region) (b : CtlBody) (s : State) : FrameSent x b s (sendCtl x b s) := by
  have sent : (sendCtl x b s).wan.queue = if _ then _ else _ := sendCtl_sends x b s
  unfold FrameSent
  rw [sent]
  split
  · rfl
  · rfl

theorem FrameSent.before {x : Region} {b : CtlBody} {s u t : State} (h : FrameSent x b u t) (regions : u.regions = s.regions)
    (carrier : u.wan.carrier = s.wan.carrier) (queue : u.wan.queue = s.wan.queue) : FrameSent x b s t := by
  unfold FrameSent State.region at h ⊢
  rwa [regions, carrier, queue] at h

theorem FrameSent.after {x : Region} {b : CtlBody} {s t v : State} (h : FrameSent x b s t) (queue : v.wan.queue = t.wan.queue) : FrameSent x b s v := by
  unfold FrameSent at h ⊢
  rwa [queue]

/-! ## What the statements read of the state before -/

/-- What is owed of a record, and its linger deadline. -/
def Record.dues (r : Record) : Bool × Option (Version × CancelReason) × Option Nat := (r.owed, r.owedCancel, r.linger)

/-- `u` gives the statements about the notices and the linger of a claim what `s` gives them. -/
structure Alike (s u : State) : Prop where
  now : u.now = s.now
  settings : u.settings = s.settings
  entries : u.backlog.entries = s.backlog.entries
  list : u.backlog.owedList = s.backlog.owedList
  linger : u.table.linger = s.table.linger
  pressure : PressureKept s u
  dues : ∀ k, (u.table.find k).map Record.dues = (s.table.find k).map Record.dues

theorem Alike.refl (s : State) : Alike s s := ⟨rfl, rfl, rfl, rfl, rfl, .refl s, fun _ => rfl⟩

theorem Alike.trans {s t u : State} (h : Alike s t) (g : Alike t u) : Alike s u :=
  ⟨g.now.trans h.now, g.settings.trans h.settings, g.entries.trans h.entries, g.list.trans h.list, g.linger.trans h.linger, h.pressure.trans g.pressure,
    fun k => (g.dues k).trans (h.dues k)⟩

/-- Nothing of the claim so far touched the table. -/
theorem Alike.of_table {s u : State} (now : u.now = s.now) (settings : u.settings = s.settings) (entries : u.backlog.entries = s.backlog.entries)
    (list : u.backlog.owedList = s.backlog.owedList) (owed : u.backlog.owedPressure = s.backlog.owedPressure) (table : u.table = s.table) : Alike s u :=
  ⟨now, settings, entries, list, by rw [table], ⟨by rw [table], by rw [table], owed⟩, fun k => by rw [table]⟩

theorem Alike.of_keeps {s u : State} {touched : List Block} (h : KeepsAllBut touched s u)
    (none : ∀ b ∈ [Block.clock, .settings, .backlog, .table], b ∉ touched := by decide) : Alike s u := by
  have backlog : u.backlog = s.backlog := h .backlog (none .backlog (by decide))
  exact .of_table (h .clock (none .clock (by decide))) (h .settings (none .settings (by decide))) (by rw [backlog]) (by rw [backlog]) (by rw [backlog])
    (h .table (none .table (by decide)))

/-- A change of a record that keeps what is owed of it and its deadline. -/
theorem alike_modRec (k : Key) (f : Record → Record) (s : State) (key : ∀ r, (f r).key = r.key := by intro r; rfl)
    (dues : ∀ r, (f r).dues = r.dues := by intro r; rfl) : Alike s (modRec k f s) := by
  refine ⟨rfl, rfl, rfl, rfl, rfl, ⟨rfl, rfl, rfl⟩, fun j => ?_⟩
  by_cases same : j = k
  · subst same
    rw [find_modRec _ f s key, Option.map_map]
    exact congrArg (fun g => (s.table.find _).map g) (funext dues)
  · rw [find_modRec_of_ne same f s key]

theorem alike_slotTo (k : Key) (x : Region) (st : SlotState) (s : State) : Alike s (slotTo k x st s) := alike_modRec ..

/-- What a record is before and after, one by one. -/
theorem Alike.find {s u : State} (h : Alike s u) {k : Key} {q : Record} (found : s.table.find k = some q) :
    ∃ r, u.table.find k = some r ∧ r.owed = q.owed ∧ r.owedCancel = q.owedCancel ∧ r.linger = q.linger := by
  have same := h.dues k
  rw [found] at same
  obtain ⟨r, stands, dues⟩ := Option.map_eq_some_iff.mp same
  obtain ⟨owed, cancel, linger⟩ : r.owed = q.owed ∧ r.owedCancel = q.owedCancel ∧ r.linger = q.linger := by simpa [Record.dues] using dues
  exact ⟨r, stands, owed, cancel, linger⟩

theorem Alike.owedCancel {s u : State} (h : Alike s u) (k : Key) : u.owedCancel k = s.owedCancel k := by
  have cancel : ∀ v : State, v.owedCancel k = ((v.table.find k).map Record.dues).bind (·.2.1) := fun v => by
    rw [State.owedCancel, Option.bind_map]
    rfl
  rw [cancel, cancel, h.dues]

theorem Alike.lingerOf {s u : State} (h : Alike s u) (k : Key) (p : Nat → Prop) :
    (∃ r d, u.table.find k = some r ∧ r.linger = some d ∧ p d) ↔ ∃ r d, s.table.find k = some r ∧ r.linger = some d ∧ p d := by
  have linger : ∀ v : State, (∃ r d, v.table.find k = some r ∧ r.linger = some d ∧ p d) ↔
      ∃ z d, (v.table.find k).map Record.dues = some z ∧ z.2.2 = some d ∧ p d := fun v => by
    constructor
    · rintro ⟨r, d, found, due, hp⟩
      exact ⟨r.dues, d, by rw [found]; rfl, due, hp⟩
    · rintro ⟨z, d, found, due, hp⟩
      obtain ⟨r, stands, rfl⟩ := Option.map_eq_some_iff.mp found
      exact ⟨r, d, stands, due, hp⟩
  rw [linger, linger, h.dues]

theorem Alike.setting {s u : State} (h : Alike s u) (i : Fin 14) : u.settingTime i = s.settingTime i := by
  unfold State.settingTime State.setting
  rw [h.settings]

theorem Alike.hasRoom {s u : State} (h : Alike s u) (kept : RoomKept s u) : u.hasRoom = s.hasRoom := by
  funext n
  unfold State.hasRoom
  rw [eq_iff_iff, fits_iff, fits_iff, kept.anyOwed h.pressure.2.2 h.list, h.entries, kept.reservations]

theorem NoticesGiven.before {room : Nat → Prop} {k : Key} {ns : List Notice} {es : List BacklogEntry} {tail : List EntryBody} {s u t : State}
    (h : NoticesGiven room k ns es tail u t) (alike : Alike s u) : NoticesGiven room k ns es tail s t := by
  obtain ⟨placed, left, split, entries, fitted, whole, owes⟩ := h
  rw [alike.entries] at entries
  rw [alike.list, alike.owedCancel] at owes
  refine ⟨placed, left, split, entries, fitted, fun none => ?_, owes⟩
  obtain ⟨list, owed⟩ := whole none
  refine ⟨list.trans alike.list, fun q hq => ?_⟩
  obtain ⟨cancel, flag⟩ := owed q hq
  refine ⟨cancel.trans (alike.owedCancel k), fun r found => ?_⟩
  obtain ⟨p, stands, same, -⟩ := alike.find found
  exact (flag p stands).trans same

theorem PressureCompared.before {room : Prop} {es : List BacklogEntry} {s u t : State} (h : PressureCompared room es u t) (alike : Alike s u) :
    PressureCompared room es s t :=
  h.of_same Iff.rfl alike.pressure.1.symm alike.pressure.2.1.symm alike.pressure.2.2.symm rfl rfl rfl

theorem RecordNotices.before {room : Nat → Prop} {k : Key} {ns : List Notice} {tail : List EntryBody} {s u t : State}
    (h : RecordNotices room k ns tail u t) (alike : Alike s u) : RecordNotices room k ns tail s t :=
  ⟨h.1.before alike, alike.pressure.trans h.2⟩

theorem RecordNoticesCompared.before {room : Nat → Prop} {k : Key} {ns : List Notice} {tail : List EntryBody} {s u t : State}
    (h : RecordNoticesCompared room k ns tail u t) (alike : Alike s u) : RecordNoticesCompared room k ns tail s t := by
  obtain ⟨es, given, compared⟩ := h
  exact ⟨es, given.before alike, compared.before alike⟩

theorem JoinsLinger.before {k : Key} {s u t : State} (h : JoinsLinger k u t) (alike : Alike s u) : JoinsLinger k s t := by
  obtain ⟨before, after, was, isNow, early, late⟩ := h
  rw [alike.now, alike.setting] at early late
  refine ⟨before, after, alike.linger.symm.trans was, isNow, fun q hq r d found linger => ?_, fun q hq => ?_⟩
  · obtain ⟨p, stands, -, -, same⟩ := alike.find found
    exact early q hq p d stands (same.trans linger)
  · exact (alike.lingerOf q _).mp (late q hq)

theorem SettledOrRetired.before {unowed : Prop} {r : Record} {o : Settle} {s u t : State} (h : SettledOrRetired unowed r o u t) (alike : Alike s u) :
    SettledOrRetired unowed r o s t := by
  have same : r.settledAs o u = r.settledAs o s := by rw [Record.settledAs, alike.now, alike.setting]; rfl
  have retires : ∀ q, Retires unowed q s t ↔ Retires unowed q u t := fun q => by rw [Retires, Retires, alike.now]
  obtain ⟨gone, stands⟩ := h
  rw [same] at gone stands
  refine ⟨fun due => ?_, fun notDue => ?_⟩
  · obtain ⟨absent, linger⟩ := gone ((retires _).mp due)
    exact ⟨absent, by rw [linger, alike.linger]⟩
  · obtain ⟨found, joins⟩ := stands (mt (retires _).mpr notDue)
    exact ⟨found, joins.before alike⟩

theorem SettledWhenLast.before {room : Nat → Prop} {r : Record} {tail : List EntryBody} {s u t : State} (h : SettledWhenLast room r tail u t)
    (alike : Alike s u) : SettledWhenLast room r tail s t := by
  unfold SettledWhenLast at h ⊢
  split
  · rename_i last
    rw [if_pos last] at h
    exact ⟨h.1.before alike, h.2.before alike⟩
  · rename_i notLast
    rw [if_neg notLast] at h
    obtain ⟨found, linger, notices⟩ := h
    exact ⟨found, linger.trans alike.linger, notices.before alike⟩

/-! ## What the statements read of the state after: the completion of the claim -/

/-- `v` is `t` with entries at the Backlog's tail, as the statements about a claim read it. -/
structure Followed (tail : List EntryBody) (t v : State) : Prop where
  entries : v.backlog.entries = t.backlog.entries ++ waitingEntries tail
  list : v.backlog.owedList = t.backlog.owedList
  owed : v.backlog.owedPressure = t.backlog.owedPressure
  table : v.table = t.table
  pool : v.pool = t.pool
  settings : v.settings = t.settings

theorem followed_complete (ring : ReqRing) (tag : Word) (kind : Byte) (status : Status) (body : CompBody) (s : State) :
    Followed [.completion { ring := ring, tag := tag, kind := kind, status := status, body := body }] s (complete ring tag kind status body s) :=
  ⟨rfl, rfl, rfl, rfl, rfl, rfl⟩

theorem NoticesGiven.followed {room : Nat → Prop} {k : Key} {ns : List Notice} {es : List BacklogEntry} {tail : List EntryBody} {s t v : State}
    (h : NoticesGiven room k ns es [] s t) (follows : Followed tail t v) : NoticesGiven room k ns es tail s v := by
  unfold NoticesGiven OwedKept at h ⊢
  rw [follows.list, follows.table]
  refine h.imp fun placed => Exists.imp fun left => And.imp_right (And.imp_left fun entries => ?_)
  rw [follows.entries, entries, show waitingEntries [] = [] from rfl, List.append_nil]

theorem PressureCompared.followed {room : Prop} {es : List BacklogEntry} {tail : List EntryBody} {s t v : State} (h : PressureCompared room es s t)
    (follows : Followed tail t v) : PressureCompared room es s v :=
  h.of_same Iff.rfl rfl rfl rfl follows.table follows.settings follows.owed

theorem RecordNotices.followed {room : Nat → Prop} {k : Key} {ns : List Notice} {tail : List EntryBody} {s t v : State}
    (h : RecordNotices room k ns [] s t) (follows : Followed tail t v) : RecordNotices room k ns tail s v := by
  obtain ⟨given, rising, reported, owed⟩ := h
  exact ⟨given.followed follows, by rw [follows.table, rising], by rw [follows.table, reported], by rw [follows.owed, owed]⟩

theorem RecordNoticesCompared.followed {room : Nat → Prop} {k : Key} {ns : List Notice} {tail : List EntryBody} {s t v : State}
    (h : RecordNoticesCompared room k ns [] s t) (follows : Followed tail t v) : RecordNoticesCompared room k ns tail s v := by
  obtain ⟨es, given, compared⟩ := h
  exact ⟨es, given.followed follows, compared.followed follows⟩

theorem SettledWhenLast.followed {room : Nat → Prop} {r : Record} {tail : List EntryBody} {s t v : State} (h : SettledWhenLast room r [] s t)
    (follows : Followed tail t v) : SettledWhenLast room r tail s v := by
  unfold SettledWhenLast at h ⊢
  split
  · rename_i last
    rw [if_pos last] at h
    exact ⟨h.1.after_same (by rw [follows.table]) (by rw [follows.table]) follows.pool, h.2.followed follows⟩
  · rename_i notLast
    rw [if_neg notLast] at h
    obtain ⟨found, linger, notices⟩ := h
    exact ⟨by rw [follows.table, found], by rw [follows.table, linger], notices.followed follows⟩

/-- The room a request leaves once it is taken. -/
theorem hasRoom_reserve {ring : ReqRing} {s : State} (ok : s.takeOk ring = true) : (reserve s).hasRoom = s.roomOnceTaken :=
  funext fun n => propext (fits_reserve_iff ok n)

theorem alike_reserve (s : State) : Alike s (reserve s) := .of_table rfl rfl rfl rfl rfl rfl

/-! ## Slot moves (R61, R75, R78) -/

/-- R75: a slot that becomes final, with the settle test and the comparison, in a claim that has not touched the table before. -/
theorem finish_settles {k : Key} {r : Record} {s w : State} (found : s.table.find k = some r) (role : r.role = .localRole) (opened : r.state = .opened)
    (alike : Alike s w) (kept : RoomKept s w) (table : w.table = s.table) (x : Region) (st : SlotState) :
    SettledWhenLast s.hasRoom (r.withSlot x ((vget r.slots x).moved st)) [] s (pressureCheck (finish k x st w)) ∧
      OtherRecords k s (pressureCheck (finish k x st w)) := by
  let u := slotTo k x st w
  have foundW : w.table.find k = some r := by rw [table, found]
  have stands : u.table.find k = some (r.withSlot x ((vget r.slots x).moved st)) := find_slotTo foundW x st
  have alikeU : Alike s u := alike.trans (alike_slotTo k x st w)
  have keptU : RoomKept s u := kept.trans (.of_regions rfl rfl rfl)
  refine ⟨?_, ?_⟩
  · have settles := settleTest_settles stands role opened
    rw [alikeU.hasRoom keptU] at settles
    exact settles.before alikeU
  · refine .trans (t := u) ?_ (settleTest_otherRecords k u)
    exact fun q hq => (find_modRec_of_ne hq _ w).trans (by rw [table])

theorem failSlot_eq {k : Key} {r : Record} {s : State} (found : s.table.find k = some r) (x : Region) (why : FailReason) :
    failSlot k x why s = emitRecord k (.slotFailed k r.version x why (vget r.slots x).retries)
      (modSlot k x (fun sl => { sl with state := .failed, ctx := none, reason := some why }) s) := by
  rw [failSlot, found]

/-- R78: a slot fails, in a claim whose record has so far only changed in that slot. -/
theorem failSlot_fails {k : Key} {r p : Record} {x : Region} {s w : State} {retries : Nat} {before : Slot} (alike : Alike s w) (kept : RoomKept s w)
    (others : OtherRecords k s w) (stands : w.table.find k = some p) (was : p = r.withSlot x before) (count : before.retries = retries) (why : FailReason) :
    SlotFails r x why retries s (failSlot k x why w) ∧ OtherRecords k s (failSlot k x why w) ∧ (failSlot k x why w).table.linger = s.table.linger := by
  have key : r.key = k := by
    rw [← (Table.find_some stands).2, was]
    rfl
  let u := modSlot k x (fun sl => { sl with state := .failed, ctx := none, reason := some why }) w
  have slot : vget p.slots x = before := by rw [was, vget_withSlot, if_pos rfl]
  have foundU : u.table.find k = some (r.withSlot x { state := .failed, retries := retries, ctx := none, reason := some why }) := by
    refine (find_modSlot stands x _).trans ?_
    rw [slot, was, withSlot_withSlot, count]
  have alikeU : Alike s u := alike.trans (alike_modRec ..)
  have keptU : RoomKept s u := kept.trans (.of_regions rfl rfl rfl)
  have eq := failSlot_eq stands x why
  rw [slot, count, show p.version = r.version by rw [was]; rfl] at eq
  rw [eq]
  refine ⟨⟨?_, ?_⟩, ?_, ?_⟩
  · obtain ⟨q, found, body, -⟩ := emitRecord_record foundU (.slotFailed k r.version x why retries)
    exact ⟨q, by rw [key]; exact found, body⟩
  · rw [key]
    have given := emitRecord_gives k (.slotFailed k r.version x why retries) u _ foundU
    rw [alikeU.hasRoom keptU] at given
    exact given.before alikeU
  · exact others.trans ((modRec_otherRecords k _ w).trans (emitRecord_otherRecords k _ u))
  · rw [emitRecord_linger]
    exact alikeU.linger

end Sys2Proof.Machine
end

section
/-! PROOFS. Grants, confirmation, ABANDON and RETRY. -/

namespace Sys2Proof.Machine

/-! ## Lists of a region (R63 to R67) -/

theorem leaveSlot_of_pending {sl : Slot} (h : sl.state = .pending) (k : Key) (x : Region) (s : State) : leaveSlot k x sl s = workLeave x k s := by
  rw [leaveSlot, h]

theorem leaveSlot_of_confirming {sl : Slot} (h : sl.state = .confirming) (k : Key) (x : Region) (s : State) :
    leaveSlot k x sl s = confirmLeave x k s := by
  rw [leaveSlot, h]

theorem leaveSlot_of_failed {sl : Slot} (h : sl.state = .failed) (k : Key) (x : Region) (s : State) : leaveSlot k x sl s = s := by
  rw [leaveSlot, h]

theorem leaveSlot_of_bound {sl : Slot} {c : CtxNo} (h : sl.state ∈ [SlotState.offering, .sending]) (bound : sl.ctx = some c) (k : Key) (x : Region)
    (s : State) : leaveSlot k x sl s = endOutbound c s := by
  simp only [List.mem_cons, List.not_mem_nil, or_false] at h
  rcases h with h | h <;> rw [leaveSlot, h, bound]

/-- What a slot that is not bound leaves: its list, or nothing. -/
theorem leaveSlot_unbound {sl : Slot} (h : sl.state ∈ [SlotState.pending, .confirming, .failed]) (k : Key) (x : Region) (s : State) :
    KeepsAllBut [.lists] s (leaveSlot k x sl s) ∧ (sl.state = .pending → LeavesWork x k s (leaveSlot k x sl s)) ∧
      (sl.state = .confirming → LeavesConfirm x k s (leaveSlot k x sl s)) ∧ (sl.state = .failed → (leaveSlot k x sl s).sched = s.sched) := by
  simp only [List.mem_cons, List.not_mem_nil, or_false] at h
  rcases h with pending | confirming | failed
  · rw [leaveSlot_of_pending pending, pending]
    exact ⟨keepsAllBut_iff.mpr (by simp), fun _ => rfl, (fun h => by cases h), (fun h => by cases h)⟩
  · rw [leaveSlot_of_confirming confirming, confirming]
    exact ⟨keepsAllBut_iff.mpr (by simp), (fun h => by cases h), fun _ => rfl, (fun h => by cases h)⟩
  · rw [leaveSlot_of_failed failed, failed]
    exact ⟨keepsAllBut_iff.mpr (by simp), (fun h => by cases h), (fun h => by cases h), fun _ => rfl⟩

theorem sendCtl_wan (x : Region) (b : CtlBody) (s : State) : (sendCtl x b s).wan = { s.wan with queue := (sendCtl x b s).wan.queue } := by
  unfold sendCtl
  split <;> rfl

@[simp] theorem sendCtl_holder (x : Region) (b : CtlBody) (s : State) : (sendCtl x b s).wan.holder = s.wan.holder := by rw [sendCtl_wan]

theorem RoomKept.of_keeps {s u : State} {touched : List Block} (h : KeepsAllBut touched s u)
    (none : ∀ b ∈ [Block.cache, .backlog, .regions], b ∉ touched := by decide) : RoomKept s u :=
  .of_regions (h .cache (none .cache (by decide))) (h .regions (none .regions (by decide)))
    (congrArg Backlog.reservations (h .backlog (none .backlog (by decide))))

theorem LeavesWork.after {x : Region} {k : Key} {s t v : State} (h : LeavesWork x k s t) (same : v.sched = t.sched) : LeavesWork x k s v := same.trans h

theorem LeavesConfirm.after {x : Region} {k : Key} {s t v : State} (h : LeavesConfirm x k s t) (same : v.sched = t.sched) : LeavesConfirm x k s v :=
  same.trans h

/-- R87: what is said of an ended context reads the contexts, the grant and the engine after. -/
theorem OutboundEnded.after {c : CtxNo} {o : OutCtx} {s t v : State} (h : OutboundEnded c o s t) (pool : v.pool = t.pool)
    (holder : v.wan.holder = t.wan.holder) (ops : v.hme.ops = t.hme.ops) : OutboundEnded c o s v := by
  unfold OutboundEnded ContextEnded OtherContexts State.ctx at h ⊢
  rwa [pool, holder, ops]

theorem OutboundEnded.before {c : CtxNo} {o : OutCtx} {s u t : State} (h : OutboundEnded c o u t) (pool : u.pool = s.pool)
    (holder : u.wan.holder = s.wan.holder) (ops : u.hme.ops = s.hme.ops) : OutboundEnded c o s t := by
  unfold OutboundEnded ContextEnded OtherContexts ReadsLeft State.ctx at h ⊢
  rwa [pool, holder, ops] at h

/-! ## Grants (R70 to R73, R90) -/

/-- A search in the circular order after a place finds the first in that order. -/
theorem find?_turn_eq_some_iff {n : Nat} [NeZero n] {p : Fin n → Bool} {last j : Fin n} :
    ((List.finRange n).map fun i => last + 1 + i).find? p = some (last + 1 + j) ↔ p (last + 1 + j) = true ∧ ∀ i, i < j → p (last + 1 + i) = false := by
  rw [List.find?_map]
  refine Iff.trans ?_ (find?_finRange_eq_some_iff (p := fun i => p (last + 1 + i)) (i := j))
  constructor
  · intro h
    obtain ⟨i, found, same⟩ := Option.map_eq_some_iff.mp h
    exact found.trans (congrArg some (add_left_cancel same))
  · exact fun h => congrArg (Option.map fun i => last + 1 + i) h

theorem eligible_iff (s : State) (x : Region) : s.eligible x = true ↔ (s.region x).state = .live ∧ (s.region x).backoff = none ∧
    ((s.region x).mode = .off ∨ (s.region x).phase = .a) ∧ vget s.sched.work x ≠ [] := by
  simp [State.eligible, and_assoc]

theorem lowestFree_eq_some_iff {p : Pool} {c : CtxNo} : p.lowestFree = some c ↔ vget p.ctx c = .free ∧ ∀ d, d < c → vget p.ctx d ≠ .free := by
  rw [Pool.lowestFree, find?_finRange_eq_some_iff]
  simp

theorem lowestFree_eq_none_iff {p : Pool} : p.lowestFree = none ↔ ∀ c, vget p.ctx c ≠ .free := by
  rw [Pool.lowestFree, find?_finRange_eq_none_iff]
  simp

theorem nextGrant_eq_none {s : State} (h : s.running = false ∨ 48 ≤ s.pool.outCount ∨ (∀ c, s.ctx c ≠ .free) ∨ ∀ x, s.eligible x = false) :
    s.nextGrant = none := by
  unfold State.nextGrant
  rcases h with stopped | many | noneFree | noneEligible
  · rw [stopped]
    rfl
  · rw [if_neg]
    rw [Bool.and_eq_true, decide_eq_true_eq]
    exact fun ⟨_, few⟩ => few.not_ge many
  · rw [lowestFree_eq_none_iff.mpr noneFree]
    simp
  · rw [show s.grantRegion = none from List.find?_eq_none.mpr fun x _ => by simp [noneEligible x]]
    simp

theorem nextGrant_eq_some {s : State} {j : Region} {c : CtxNo} {k : Key} {rest : List Key} {r : Record} (running : s.running = true)
    (few : s.pool.outCount < 48) (free : s.ctx c = .free) (lowest : ∀ d, d < c → s.ctx d ≠ .free)
    (eligible : s.eligible (s.sched.lastServed + 1 + j) = true) (first : ∀ i, i < j → s.eligible (s.sched.lastServed + 1 + i) = false)
    (queue : vget s.sched.work (s.sched.lastServed + 1 + j) = k :: rest) (found : s.table.find k = some r) :
    s.nextGrant = some (s.sched.lastServed + 1 + j, c, r) := by
  have region : s.grantRegion = some (s.sched.lastServed + 1 + j) := find?_turn_eq_some_iff.mpr ⟨eligible, first⟩
  unfold State.nextGrant
  rw [if_pos (by rw [running]; exact decide_eq_true few), region, lowestFree_eq_some_iff.mpr ⟨free, lowest⟩]
  simp [queue, found]

theorem exec_grant (s : State) : exec .grant s = .next (match s.nextGrant with
    | some (x, c, r) => grantTo x c r s
    | none => s) := rfl

/-- Settles O35. -/
theorem grantServesTheNextEligibleRegion : Obligations.GrantServesTheNextEligibleRegion := by
  intro s eligible turn
  have same : ∀ x, s.eligible x = true ↔ eligible x := eligible_iff s
  refine ⟨fun closed => ?_, fun j c k rest r running few free lowest here before queue found => ?_⟩
  · rw [exec_grant, nextGrant_eq_none]
    rcases closed with h | h | h | h
    exacts [.inl h, .inr (.inl h), .inr (.inr (.inl h)), .inr (.inr (.inr fun x => by rw [← Bool.not_eq_true, same]; exact h x))]
  · intro x
    rw [exec_grant, nextGrant_eq_some running few free lowest ((same _).mpr here)
      (fun i hi => by rw [← Bool.not_eq_true, same]; exact before i hi) queue found]
    obtain ⟨-, rfl⟩ := Table.find_some found
    refine ⟨_, rfl, keepsAllBut_iff.mpr (by simp [grantTo]), ?_, ?_, ?_, ?_, ?_, ?_, ?_, ?_⟩
    · simp only [grantTo, State.ctx, sendCtl_frame]
      exact vget_vset_self ..
    · intro d hd
      simp only [grantTo, State.ctx, sendCtl_frame]
      exact vget_vset_of_ne _ hd _
    · simp [grantTo]
    · intro q hq
      simp only [grantTo, sendCtl_frame]
      exact find_modRec_of_ne hq _ _
    · simp only [grantTo, TableRestKept, PressureKept, sendCtl_frame]
      exact ⟨rfl, rfl, rfl, rfl⟩
    · simp only [grantTo, sendCtl_frame]
      exact find_modSlot (s := workLeave x r.key _) found x _
    · simp only [grantTo, sendCtl_frame]
      have head : vget s.sched.work x = r.key :: rest := queue
      show Sched.mk (vset s.sched.work x ((vget s.sched.work x).filter (· != r.key))) _ _ = _
      rw [head, List.filter_cons_of_neg (by simp)]
      rfl
    · exact (sendCtl_frameSent x (offerBody r) _).before rfl rfl rfl

/-! ## CONFIRM (R74, R75, R108) -/

theorem exec_confirmCommitted {x : Region} {s : State} (admitted : s.admits x = true) (k : Key) (v : Version) :
    exec (.confirmCommitted x k v) s = .next (confirmCommitted x k v s) := congrArg Host.Outcome.next (if_pos admitted)

theorem exec_confirmRejected {x : Region} {s : State} (admitted : s.admits x = true) (k : Key) (v : Version) :
    exec (.confirmRejected x k v) s = .next (confirmRejected x k v s) := congrArg Host.Outcome.next (if_pos admitted)

theorem confirmTarget_of_absent {s : State} {k : Key} (absent : s.table.find k = none) (x : Region) (v : Version) : s.confirmTarget x k v = none := by
  rw [State.confirmTarget, absent]
  rfl

theorem confirmTarget_of_found {s : State} {k : Key} {r : Record} (found : s.table.find k = some r) (x : Region) (v : Version) :
    s.confirmTarget x k v = if r.role = .localRole ∧ r.version = v ∧ (vget r.slots x).state ≠ .notTarget then some (vget r.slots x) else none := by
  rw [State.confirmTarget, found]
  simp [and_assoc]

theorem isFinal_of_open {st : SlotState} (h : st ∈ [SlotState.pending, .confirming, .failed, .offering, .sending]) :
    st.isFinal = false ∧ st ≠ .notTarget := by
  simp only [List.mem_cons, List.not_mem_nil, or_false] at h
  rcases h with rfl | rfl | rfl | rfl | rfl <;> exact ⟨rfl, by decide⟩

/-- R75: a CONFIRM COMMITTED that matches an open slot. -/
theorem confirmCommitted_of_match {s : State} {k : Key} {r : Record} {x : Region} {v : Version} (found : s.table.find k = some r)
    (role : r.role = .localRole) (version : r.version = v)
    (open_ : (vget r.slots x).state ∈ [SlotState.pending, .confirming, .failed, .offering, .sending]) :
    confirmCommitted x k v s = pressureCheck (finish k x .confirmed (leaveSlot k x (vget r.slots x) s)) := by
  obtain ⟨notFinal, isTarget⟩ := isFinal_of_open open_
  rw [confirmCommitted, confirmTarget_of_found found, if_pos ⟨role, version, isTarget⟩]
  exact if_neg (by rw [notFinal]; exact Bool.false_ne_true)

theorem confirmRejected_of_match {s : State} {k : Key} {r : Record} {x : Region} {v : Version} (found : s.table.find k = some r)
    (role : r.role = .localRole) (version : r.version = v)
    (open_ : (vget r.slots x).state ∈ [SlotState.pending, .confirming, .failed, .offering, .sending]) (notFailed : (vget r.slots x).state ≠ .failed) :
    confirmRejected x k v s = failSlot k x .rejected (leaveSlot k x (vget r.slots x) s) := by
  obtain ⟨notFinal, isTarget⟩ := isFinal_of_open open_
  rw [confirmRejected, confirmTarget_of_found found, if_pos ⟨role, version, isTarget⟩]
  exact if_neg (by rw [notFinal]; simpa using notFailed)

theorem finish_keepsAllBut {k : Key} {x : Region} {st : SlotState} {s w : State} {touched : List Block} (h : KeepsAllBut touched s w) :
    KeepsAllBut (.backlog :: .table :: touched) s (pressureCheck (finish k x st w)) :=
  h.trans (ys := [.backlog, .table]) (keepsAllBut_iff.mpr (by simp)) (by simp) (by simp)

theorem failSlot_keepsAllBut {k : Key} {x : Region} {why : FailReason} {s w : State} {touched : List Block} (h : KeepsAllBut touched s w) :
    KeepsAllBut (.backlog :: .table :: touched) s (failSlot k x why w) :=
  h.trans (ys := [.backlog, .table]) (keepsAllBut_iff.mpr (by simp)) (by simp) (by simp)

/-- A record found as it was, seen as that record with its slot put back. -/
theorem withSlot_self (r : Record) (x : Region) : r.withSlot x (vget r.slots x) = r := by
  simp [Record.withSlot, vset, vget]

/-- R78: a slot fails in a claim that has not touched the table before. -/
theorem failSlot_fails_of_table {k : Key} {r : Record} {x : Region} {s w : State} (found : s.table.find k = some r) (alike : Alike s w) (kept : RoomKept s w)
    (table : w.table = s.table) (why : FailReason) :
    SlotFails r x why (vget r.slots x).retries s (failSlot k x why w) ∧ OtherRecords k s (failSlot k x why w) ∧
      (failSlot k x why w).table.linger = s.table.linger :=
  failSlot_fails alike kept (fun q _ => by rw [table]) (by rw [table, found]) (withSlot_self r x).symm rfl why

theorem exec_confirmDeadlineExpiry (x : Region) (s : State) : exec (.confirmDeadlineExpiry x) s = .next (match (vget s.sched.confirm x).head? with
    | some e => if s.running && e.deadline ≤ s.now then requeue e.key x (confirmLeave x e.key s) else s
    | none => s) := rfl

/-- Settles O36: the slot leaves its list or its context, and then takes its state. -/
theorem confirmMovesTheSlot : Obligations.ConfirmMovesTheSlot := by
  refine ⟨fun x k v s admitted => ?_, fun x s => ⟨fun closed => ?_, fun e rest r running head due found => ?_⟩⟩
  · rw [exec_confirmCommitted admitted, exec_confirmRejected admitted]
    refine ⟨fun absent => ?_, fun r found => ?_⟩
    · rw [confirmCommitted, confirmRejected, confirmTarget_of_absent absent]
      exact ⟨rfl, rfl⟩
    · intro sl confirmed
      refine ⟨fun closed => ?_, fun failed => ?_, fun role version opened => ⟨fun open_ => ?_, fun open_ => ?_, fun c o bound ctx out key => ?_⟩⟩
      · by_cases good : r.role = .localRole ∧ r.version = v ∧ sl.state ≠ .notTarget
        · obtain ⟨role, version, isTarget⟩ := good
          have final : sl.state.isFinal = true := by
            rcases closed with remote | other | none | final
            · rw [role] at remote; cases remote
            · exact absurd version other
            · exact absurd none isTarget
            · exact final
          rw [confirmCommitted, confirmRejected, confirmTarget_of_found found, if_pos ⟨role, version, isTarget⟩]
          dsimp only
          rw [if_pos final, if_pos (by rw [show (vget r.slots x).state.isFinal = true from final]; rfl)]
          exact ⟨rfl, rfl⟩
        · rw [confirmCommitted, confirmRejected, confirmTarget_of_found found, if_neg good]
          exact ⟨rfl, rfl⟩
      · by_cases good : r.role = .localRole ∧ r.version = v ∧ sl.state ≠ .notTarget
        · rw [confirmRejected, confirmTarget_of_found found, if_pos good]
          dsimp only
          rw [if_pos (by rw [show (vget r.slots x).state = .failed from failed]; rfl)]
        · rw [confirmRejected, confirmTarget_of_found found, if_neg good]
      · obtain ⟨kept, work, confirm, none⟩ := leaveSlot_unbound open_ k x s
        have eq := confirmCommitted_of_match found role version (x := x) (by
          simp only [List.mem_cons, List.not_mem_nil, or_false] at open_ ⊢
          tauto)
        obtain ⟨settles, others⟩ := finish_settles found role opened (.of_keeps kept) (.of_keeps kept) (kept .table (by decide)) x .confirmed
        rw [eq]
        have sched : (pressureCheck (finish k x .confirmed (leaveSlot k x (vget r.slots x) s))).sched = (leaveSlot k x (vget r.slots x) s).sched := by simp
        exact ⟨_, rfl, finish_keepsAllBut kept, others, settles, fun h => (work h).after sched, fun h => (confirm h).after sched,
          fun h => sched.trans (none h)⟩
      · obtain ⟨kept, work, confirm, -⟩ := leaveSlot_unbound (sl := sl) (by
          simp only [List.mem_cons, List.not_mem_nil, or_false] at open_ ⊢
          tauto) k x s
        have eq := confirmRejected_of_match found role version (x := x) (by
          simp only [List.mem_cons, List.not_mem_nil, or_false] at open_ ⊢
          tauto) (by
          intro failed
          rw [show sl.state = .failed from failed] at open_
          simp at open_)
        obtain ⟨fails, others, linger⟩ := failSlot_fails_of_table found (.of_keeps kept) (.of_keeps kept) (kept .table (by decide)) (x := x) .rejected
        rw [eq]
        have sched : (failSlot k x .rejected (leaveSlot k x (vget r.slots x) s)).sched = (leaveSlot k x (vget r.slots x) s).sched := by simp
        exact ⟨_, rfl, failSlot_keepsAllBut kept, others, linger, fails, fun h => (work h).after sched, fun h => (confirm h).after sched⟩
      · subst key
        have unsettled : ∀ q, s.table.find o.key = some q → q.state ≠ .settled := fun q hq => by
          cases found.symm.trans hq
          rw [opened]
          decide
        obtain ⟨kept, ended, -⟩ := endOutbound_ends out unsettled
        have open_ : sl.state ∈ [SlotState.pending, .confirming, .failed, .offering, .sending] := by
          simp only [List.mem_cons, List.not_mem_nil, or_false] at bound ⊢
          tauto
        have leaves := leaveSlot_of_bound bound ctx o.key x s
        constructor
        · rw [confirmCommitted_of_match found role version open_, leaves]
          obtain ⟨settles, others⟩ := finish_settles found role opened (.of_keeps kept) (.of_keeps kept) (kept .table (by decide)) x .confirmed
          exact ⟨_, rfl, finish_keepsAllBut kept, others, ended.after (by simp) (by simp) (by simp), settles⟩
        · rw [confirmRejected_of_match found role version open_ (by
            intro failed
            rw [show sl.state = .failed from failed] at bound
            simp at bound), leaves]
          obtain ⟨fails, others, linger⟩ := failSlot_fails_of_table found (.of_keeps kept) (.of_keeps kept) (kept .table (by decide)) (x := x) .rejected
          exact ⟨_, rfl, failSlot_keepsAllBut kept, others, linger, ended.after (by simp) (by simp) (by simp), fails⟩
  · rw [exec_confirmDeadlineExpiry]
    rcases closed with stopped | empty | ⟨e, rest, head, early⟩
    · cases (vget s.sched.confirm x).head? <;> simp [stopped]
    · rw [empty]
      rfl
    · rw [head]
      refine congrArg Host.Outcome.next (if_neg ?_)
      rw [Bool.and_eq_true, decide_eq_true_eq]
      exact fun ⟨_, late⟩ => early.not_ge late
  · rw [exec_confirmDeadlineExpiry, head]
    dsimp only [List.head?_cons]
    rw [if_pos (by rw [running]; exact decide_eq_true due)]
    refine ⟨_, rfl, keepsAllBut_iff.mpr (by simp), ?_, ⟨rfl, rfl, rfl, rfl⟩, ?_, ?_⟩
    · exact fun q hq => find_modRec_of_ne hq _ _
    · exact find_slotTo (s := confirmLeave x e.key s) found x .pending
    · show Sched.mk (vset s.sched.work x (vget s.sched.work x ++ [e.key])) (vset s.sched.confirm x ((vget s.sched.confirm x).filter _)) _ = _
      rw [head, List.filter_cons_of_neg (by simp)]
      rfl

/-! ## ABANDON and RETRY (R79, R80) -/

theorem exec_abandon (ring : ReqRing) (tag : Word) (k : Key) (b : Byte) (s : State) :
    exec (.abandon ring tag k b) s = .next (taking ring (takeAbandon ring tag k b) s) := rfl

theorem exec_retry (ring : ReqRing) (tag : Word) (k : Key) (b : Byte) (s : State) :
    exec (.retry ring tag k b) s = .next (taking ring (takeRetry ring tag k b) s) := rfl

theorem otherRegion_of_other {s : State} {b : Byte} (h : b.toNat < s.regionCount ∧ b.toNat ≠ s.ownIndex) : s.otherRegion b = some (regionOf b) := if_pos h

theorem otherRegion_of_not {s : State} {b : Byte} (h : ¬ (b.toNat < s.regionCount ∧ b.toNat ≠ s.ownIndex)) : s.otherRegion b = none := if_neg h

theorem openSlot_eq (r : Record) (x : Region) : r.openSlot x = true ↔ r.role = .localRole ∧ (vget r.slots x).state.isOpen = true := by
  simp [Record.openSlot]

theorem converges_slotTo {k : Key} {r : Record} {w : State} (found : w.table.find k = some r) (role : r.role = .localRole) (opened : r.state = .opened)
    (x : Region) (st : SlotState) : (slotTo k x st w).converges k = (r.withSlot x ((vget r.slots x).moved st)).allFinal :=
  converges_eq (find_slotTo found x st) role opened

theorem answer_keepsAllBut (ring : ReqRing) (tag : Word) (kind : ReqKind) (status : Status) (body : CompBody) (s : State) :
    KeepsAllBut [.backlog] s (answer ring tag kind status body s) :=
  keepsAllBut_iff.mpr (by simp [answer])

/-- R79: an ABANDON of an open slot, once its record and region stand. -/
theorem takeAbandon_of_open {ring : ReqRing} {tag : Word} {b : Byte} {k : Key} {r : Record} {s w : State}
    (other : b.toNat < s.regionCount ∧ b.toNat ≠ s.ownIndex) (found : s.table.find k = some r) (role : r.role = .localRole) (opened : r.state = .opened)
    (isOpen : (vget r.slots (regionOf b)).state.isOpen = true) (work : abandonWork r (regionOf b) s = w) (table : w.table = s.table) :
    takeAbandon ring tag k b s = answer ring tag .abandon .ok
      (.abandon (vget r.slots (regionOf b)).state
        (if (r.withSlot (regionOf b) ((vget r.slots (regionOf b)).moved .abandoned)).allFinal = true then .settled else .opened)
        (r.withSlot (regionOf b) ((vget r.slots (regionOf b)).moved .abandoned)).allFinal)
      (pressureCheck (finish k (regionOf b) .abandoned w)) := by
  rw [takeAbandon, otherRegion_of_other other]
  dsimp only
  rw [found]
  dsimp only
  rw [if_pos ((openSlot_eq ..).mpr ⟨role, isOpen⟩), work, converges_slotTo (by rw [table, found]) role opened, opened]
  rfl

theorem abandonWork_unbound {r : Record} {x : Region} {s : State} (unbound : (vget r.slots x).ctx = none) :
    abandonWork r x s = leaveSlot r.key x (vget r.slots x) s := by
  rw [abandonWork, unbound]
  rfl

theorem abandonWork_bound {r : Record} {x : Region} {c : CtxNo} {s : State} (state : (vget r.slots x).state ∈ [SlotState.offering, .sending])
    (bound : (vget r.slots x).ctx = some c) : abandonWork r x s = sendCtl x (.withdraw r.key r.version) (endOutbound c s) := by
  rw [abandonWork, bound]
  exact congrArg (sendCtl x (.withdraw r.key r.version)) (leaveSlot_of_bound state bound r.key x s)

theorem isOpen_of_mem {st : SlotState} (h : st ∈ [SlotState.pending, .confirming, .failed, .offering, .sending]) : st.isOpen = true := by
  simp only [List.mem_cons, List.not_mem_nil, or_false] at h
  rcases h with rfl | rfl | rfl | rfl | rfl <;> rfl

/-- R79, R6, R77: what an ABANDON of an open slot does once the slot has left its list or its context: the settle test, the comparison, the completion. -/
theorem takeAbandon_settles {ring : ReqRing} {tag : Word} {b : Byte} {k : Key} {r : Record} {s w : State} {touched : List Block} (ok : s.takeOk ring = true)
    (other : b.toNat < s.regionCount ∧ b.toNat ≠ s.ownIndex) (found : s.table.find k = some r) (role : r.role = .localRole) (opened : r.state = .opened)
    (isOpen : (vget r.slots (regionOf b)).state.isOpen = true) (work : abandonWork r (regionOf b) (reserve s) = w)
    (kept : KeepsAllBut touched (reserve s) w) (alike : Alike (reserve s) w) (roomKept : RoomKept (reserve s) w) (table : w.table = (reserve s).table) :
    let abandoned := r.withSlot (regionOf b) ((vget r.slots (regionOf b)).moved .abandoned)
    let done : EntryBody := .completion { ring := ring, tag := tag, kind := 0x09, status := .ok,
                                          body := .abandon (vget r.slots (regionOf b)).state (if abandoned.allFinal = true then .settled else .opened) abandoned.allFinal }
    ∃ t, exec (.abandon ring tag k b) s = .next t ∧ KeepsAllBut (.backlog :: .table :: touched) s t ∧ OtherRecords k s t ∧
      SettledWhenLast s.roomOnceTaken abandoned [done] s t ∧ KeepsAllBut [.backlog, .table] w t := by
  intro abandoned done
  have stands : (reserve s).table.find k = some r := found
  obtain ⟨settles, others⟩ := finish_settles stands role opened alike roomKept table (regionOf b) .abandoned
  rw [hasRoom_reserve ok] at settles
  have after := answer_keepsAllBut ring tag .abandon .ok
    (.abandon (vget r.slots (regionOf b)).state (if abandoned.allFinal = true then .settled else .opened) abandoned.allFinal)
    (pressureCheck (finish k (regionOf b) .abandoned w))
  have finished : KeepsAllBut [.backlog, .table] w (pressureCheck (finish k (regionOf b) .abandoned w)) := keepsAllBut_iff.mpr (by simp)
  have reserved : KeepsAllBut [.backlog] s (reserve s) := keepsAllBut_iff.mpr (by simp [reserve])
  rw [exec_abandon, taking_of_takeOk ok, takeAbandon_of_open (s := reserve s) other stands role opened isOpen work table]
  refine ⟨_, rfl, ?_, others, (settles.before (alike_reserve s)).followed (followed_complete ..), finished.trans after (by decide) (by decide)⟩
  exact (reserved.trans (kept.trans (zs := .backlog :: .table :: touched) finished (by simp) (by simp)) (by simp) (List.Subset.refl _)).trans
    after (List.Subset.refl _) (by simp)

/-- The two slot states in which a context is bound are open ones. -/
theorem bound_isOpen {st : SlotState} (h : st ∈ [SlotState.offering, .sending]) : st ∈ [SlotState.pending, .confirming, .failed, .offering, .sending] := by
  simp only [List.mem_cons, List.not_mem_nil, or_false] at h ⊢
  tauto

theorem listed_isOpen {st : SlotState} (h : st ∈ [SlotState.pending, .confirming, .failed]) :
    st ∈ [SlotState.pending, .confirming, .failed, .offering, .sending] := by
  simp only [List.mem_cons, List.not_mem_nil, or_false] at h ⊢
  tauto

/-- R79: a WITHDRAW behind the end of the slot's context. -/
theorem abortAndWithdraw_effect {c : CtxNo} {o : OutCtx} {r : Record} {s : State} (out : s.ctx c = .out o) (found : s.table.find o.key = some r)
    (opened : r.state = .opened) (x : Region) :
    let w := sendCtl x (.withdraw r.key r.version) (endOutbound c s)
    KeepsAllBut [.contexts, .port, .engine] s w ∧ OutboundEnded c o s w ∧ FrameSent x (.withdraw r.key r.version) s w := by
  have unsettled : ∀ q, s.table.find o.key = some q → q.state ≠ .settled := fun q hq => by
    cases found.symm.trans hq
    rw [opened]
    decide
  obtain ⟨kept, ended, wan, -⟩ := endOutbound_ends out unsettled
  refine ⟨kept.trans (ys := [.port]) (keepsAllBut_iff.mpr (by simp)) (by decide) (by decide), ended.after (by simp) (by simp) (by simp), ?_⟩
  refine (sendCtl_frameSent x (.withdraw r.key r.version) (endOutbound c s)).before (kept .regions (by decide)) ?_ ?_
  · rw [wan]
  · rw [wan]

/-- R80: a RETRY of a FAILED slot. -/
theorem takeRetry_of_failed {ring : ReqRing} {tag : Word} {b : Byte} {k : Key} {r : Record} {s : State}
    (other : b.toNat < s.regionCount ∧ b.toNat ≠ s.ownIndex) (found : s.table.find k = some r) (role : r.role = .localRole)
    (failed : (vget r.slots (regionOf b)).state = .failed) : takeRetry ring tag k b s = answer ring tag .retry .ok (.versionState r.version r.state)
      (requeue k (regionOf b) (modSlot k (regionOf b) (fun sl => { sl with retries := 0 }) s)) := by
  rw [takeRetry, otherRegion_of_other other]
  dsimp only
  rw [found]
  exact if_pos (by rw [role, failed]; rfl)

/-- Settles O37. -/
theorem abandonAndRetryMoveTheSlot : Obligations.AbandonAndRetryMoveTheSlot := by
  intro ring tag k b s ok x other refused
  have abandon : exec (.abandon ring tag k b) s = .next (takeAbandon ring tag k b (reserve s)) := by rw [exec_abandon, taking_of_takeOk ok]
  have retry : exec (.retry ring tag k b) s = .next (takeRetry ring tag k b (reserve s)) := by rw [exec_retry, taking_of_takeOk ok]
  have answers : ∀ kind status, answer ring tag kind status .plain (reserve s) = s.answered ring tag kind.code.toNat status .plain := fun kind status => by
    cases kind <;> rfl
  refine ⟨fun bad => ?_, fun good absent => ?_, fun r good found => ?_⟩
  · show _ ∧ _
    rw [abandon, retry, takeAbandon, takeRetry, otherRegion_of_not (s := reserve s) bad]
    exact ⟨congrArg _ (answers .abandon .badRegion), congrArg _ (answers .retry .badRegion)⟩
  · show _ ∧ _
    rw [abandon, retry, takeAbandon, takeRetry, otherRegion_of_other (s := reserve s) good]
    dsimp only
    rw [show (reserve s).table.find k = none from absent]
    exact ⟨congrArg _ (answers .abandon .notTracked), congrArg _ (answers .retry .notTracked)⟩
  · intro sl abandoned settled done
    have stands : (reserve s).table.find k = some r := found
    obtain ⟨-, key⟩ := Table.find_some found
    refine ⟨fun closed => ?_, fun closed => ?_, fun role failed => ?_, fun role opened unbound open_ => ?_, fun c o role opened state bound out owner => ?_⟩
    · rw [abandon, takeAbandon, otherRegion_of_other (s := reserve s) good]
      dsimp only
      rw [stands]
      dsimp only
      rw [if_neg]
      · exact congrArg _ (answers .abandon .wrongState)
      · rw [openSlot_eq]
        rintro ⟨role, isOpen⟩
        rcases closed with remote | final
        · rw [role] at remote; cases remote
        · exact Bool.false_ne_true (final.symm.trans isOpen)
    · rw [retry, takeRetry, otherRegion_of_other (s := reserve s) good]
      dsimp only
      rw [stands]
      dsimp only
      rw [if_neg]
      · exact congrArg _ (answers .retry .wrongState)
      · rw [Bool.and_eq_true, beq_iff_eq, beq_iff_eq]
        rintro ⟨role, failed⟩
        rcases closed with remote | notFailed
        · rw [role] at remote; cases remote
        · exact notFailed failed
    · rw [retry, takeRetry_of_failed (s := reserve s) good stands role failed]
      let u := modSlot k x (fun sl => { sl with retries := 0 }) (reserve s)
      have reset : u.table.find k = some (r.withSlot x { sl with retries := 0 }) := find_modSlot stands x _
      refine ⟨_, rfl, keepsAllBut_iff.mpr (by simp [answer, reserve]), ?_, ⟨rfl, rfl, rfl, rfl⟩, rfl, ?_, rfl⟩
      · exact fun q hq => (find_modRec_of_ne hq _ u).trans (find_modRec_of_ne hq _ (reserve s))
      · refine (find_slotTo reset x .pending).trans ?_
        rw [withSlot_withSlot, vget_withSlot, if_pos rfl]
        rfl
    · obtain ⟨kept, work, confirm, none⟩ := leaveSlot_unbound open_ k x (reserve s)
      obtain ⟨t, ran, keptAll, others, settles, rest⟩ := takeAbandon_settles (tag := tag) ok good found role opened (isOpen_of_mem (listed_isOpen open_))
        (abandonWork_unbound unbound) (key ▸ kept) (key ▸ .of_keeps kept) (key ▸ .of_keeps kept) (key ▸ kept .table (by decide))
      have sched : t.sched = (leaveSlot k x sl (reserve s)).sched := (rest .lists (by decide)).trans (by rw [key])
      exact ⟨t, ran, keptAll, others, settles, fun h => (work h).after sched, fun h => (confirm h).after sched, fun h => sched.trans (none h)⟩
    · subst owner
      obtain ⟨kept, ended, sent⟩ := abortAndWithdraw_effect (s := reserve s) out stands opened x
      obtain ⟨t, ran, keptAll, others, settles, rest⟩ := takeAbandon_settles (tag := tag) ok good found role opened (isOpen_of_mem (bound_isOpen state))
        (abandonWork_bound state bound) kept (.of_keeps kept) (.of_keeps kept) (kept .table (by decide))
      have wan := rest .port (by decide)
      have port : t.wan.holder = _ ∧ t.wan.queue = _ := ⟨congrArg Wan.holder wan, congrArg Wan.queue wan⟩
      refine ⟨t, ran, keptAll, others, ?_, ?_, settles⟩
      · exact (ended.before (s := s) rfl rfl rfl).after (rest .contexts (by decide)) port.1 (congrArg Hme.ops (rest .engine (by decide)))
      · rw [← key]
        exact (sent.before (s := s) rfl rfl rfl).after port.2

end Sys2Proof.Machine
end

section
/-! PROOFS. Replies to an offer, acknowledgements and the two outbound timers. -/

namespace Sys2Proof.Machine

/-! ## Regions and lists after a change -/

/-- One region's entry changed. -/
theorem modRegion_effect (x : Region) (f : RegionEntry → RegionEntry) (s : State) : KeepsAllBut [.regions] s (modRegion x f s) ∧
    (modRegion x f s).region x = f (s.region x) ∧ OtherRegions x s (modRegion x f s) ∧ (modRegion x f s).regions.probe = s.regions.probe :=
  ⟨keepsAllBut_iff.mpr (by simp), vget_vset_self .., fun _ h => vget_vset_of_ne _ h _, rfl⟩

/-- R66: an entry goes behind every entry whose deadline is not later. -/
theorem insertConfirm_splits (e : ConfirmEntry) (l : List ConfirmEntry) : ∃ before after, l = before ++ after ∧
    insertConfirm e l = before ++ e :: after ∧ (∀ d ∈ before, d.deadline ≤ e.deadline) ∧ ∀ d, after.head? = some d → e.deadline < d.deadline := by
  induction l with
  | nil => exact ⟨[], [], rfl, rfl, by simp, by simp⟩
  | cons d rest ih =>
    unfold insertConfirm
    split
    · rename_i early
      exact ⟨[], d :: rest, rfl, rfl, by simp, by simpa using early⟩
    · rename_i late
      obtain ⟨before, after, split, joined, ahead, behind⟩ := ih
      refine ⟨d :: before, after, by rw [split]; rfl, by rw [joined]; rfl, fun p hp => ?_, behind⟩
      rcases List.mem_cons.mp hp with rfl | earlier
      · exact Nat.not_lt.mp late
      · exact ahead p earlier

theorem confirmJoin_joins (x : Region) (k : Key) (s : State) : JoinsConfirm x k s (confirmJoin x k s) := by
  obtain ⟨before, after, split, joined, ahead, behind⟩ := insertConfirm_splits { key := k, deadline := s.now + s.settingTime 5 } (vget s.sched.confirm x)
  refine ⟨before, after, split, ahead, behind, ?_⟩
  rw [← joined]
  rfl

theorem JoinsConfirm.before {x : Region} {k : Key} {s u t : State} (h : JoinsConfirm x k u t) (now : u.now = s.now) (settings : u.settings = s.settings)
    (sched : u.sched = s.sched) : JoinsConfirm x k s t := by
  unfold JoinsConfirm State.settingTime State.setting at h ⊢
  rwa [now, settings, sched] at h

/-! ## A context that serves a record (R88) -/

theorem Serves.unsettled {s : State} {c : CtxNo} {o : OutCtx} {r : Record} (h : Serves s c o r) :
    ∀ q, s.table.find o.key = some q → q.state ≠ .settled := fun q hq => by
  obtain ⟨-, -, found, -, opened⟩ := h
  cases found.symm.trans hq
  rw [opened]
  decide

theorem onOutbound_of_serves {s : State} {c : CtxNo} {o : OutCtx} {r : Record} (h : Serves s c o r) (act : CtxNo → OutCtx → State → State) :
    onOutbound o.dest o.key o.version act s = act c o s := by
  obtain ⟨named, bound, -⟩ := h
  rw [onOutbound, named]
  dsimp only
  rw [bound]

theorem onOffering_of_offering {s : State} {c : CtxNo} {o : OutCtx} {r : Record} (h : Serves s c o r) (offering : o.state = .offering)
    (act : CtxNo → OutCtx → State → State) : onOffering o.dest o.key o.version act s = act c o s := by
  rw [onOffering, onOutbound_of_serves h]
  exact if_pos (beq_iff_eq.mpr offering)

theorem onOffering_of_sending {s : State} {c : CtxNo} {o : OutCtx} {r : Record} (h : Serves s c o r) (sending : o.state = .sending)
    (act : CtxNo → OutCtx → State → State) : onOffering o.dest o.key o.version act s = s := by
  rw [onOffering, onOutbound_of_serves h]
  exact if_neg (by rw [sending]; decide)

theorem onOutbound_of_none {s : State} {x : Region} {k : Key} {v : Version} (none : s.outboundFor x k v = none) (act : CtxNo → OutCtx → State → State) :
    onOutbound x k v act s = s := by
  rw [onOutbound, none]

theorem KeepsAllBut.refl (touched : List Block) (s : State) : KeepsAllBut touched s s := fun b _ => by cases b <;> rfl

theorem KeepsAllBut.weaken {xs ys : List Block} {s t : State} (h : KeepsAllBut xs s t) (more : xs ⊆ ys) : KeepsAllBut ys s t :=
  fun b untouched => h b fun m => untouched (more m)

theorem TableRestKept.refl (s : State) : TableRestKept s s := ⟨rfl, .refl s⟩

theorem TableRestKept.trans {s t u : State} (h : TableRestKept s t) (g : TableRestKept t u) : TableRestKept s u :=
  ⟨g.1.trans h.1, h.2.trans g.2⟩

theorem TableRestKept.of_keeps {s u : State} {touched : List Block} (h : KeepsAllBut touched s u)
    (none : ∀ b ∈ [Block.backlog, .table], b ∉ touched := by decide) : TableRestKept s u := by
  have table : u.table = s.table := h .table (none .table (by decide))
  have backlog : u.backlog = s.backlog := h .backlog (none .backlog (by decide))
  exact ⟨by rw [table], by rw [table], by rw [table], by rw [backlog]⟩

/-! ## Slot moves at the end of a context -/

/-- R63, R64: the slot of an ended context goes back to its Work Queue. -/
theorem endAndRequeue_effect {c : CtxNo} {o : OutCtx} {p r : Record} {before : Slot} {s u : State} (bound : u.ctx c = .out o)
    (found : u.table.find o.key = some p) (was : p = r.withSlot o.dest before) (opened : r.state = .opened)
    (kept : KeepsAllBut [.table] s u) (others : OtherRecords o.key s u) (rest : TableRestKept s u) :
    let t := requeue o.key o.dest (endOutbound c u)
    KeepsAllBut [.table, .lists, .contexts, .port, .engine] s t ∧ OutboundEnded c o s t ∧ JoinsWork o.dest o.key s t ∧ OtherRecords o.key s t ∧
      TableRestKept s t ∧ t.table.find o.key = some (r.withSlot o.dest (before.moved .pending)) := by
  have unsettled : ∀ q, u.table.find o.key = some q → q.state ≠ .settled := fun q hq => by
    cases found.symm.trans hq
    rw [was, show (r.withSlot o.dest before).state = r.state from rfl, opened]
    decide
  obtain ⟨keptEnd, ended, -⟩ := endOutbound_ends bound unsettled
  have table : (endOutbound c u).table = u.table := keptEnd .table (by decide)
  have backlog : (endOutbound c u).backlog = u.backlog := keptEnd .backlog (by decide)
  have sched : (endOutbound c u).sched = s.sched := (keptEnd .lists (by decide)).trans (kept .lists (by decide))
  refine ⟨?_, ?_, ?_, ?_, ?_, ?_⟩
  · exact kept.trans (keptEnd.trans (zs := [.table, .lists, .contexts, .port, .engine]) (ys := [.table, .lists]) (keepsAllBut_iff.mpr (by simp))
      (by decide) (by decide)) (by decide) (List.Subset.refl _)
  · exact (ended.before (kept .contexts (by decide)) (congrArg Wan.holder (kept .port (by decide))) (congrArg Hme.ops (kept .engine (by decide)))).after
      rfl rfl rfl
  · show Sched.mk (vset (endOutbound c u).sched.work o.dest (vget (endOutbound c u).sched.work o.dest ++ [o.key])) (endOutbound c u).sched.confirm
      (endOutbound c u).sched.lastServed = _
    rw [sched]
  · exact fun q hq => ((find_modRec_of_ne hq _ _).trans (by rw [table])).trans (others q hq)
  · exact rest.trans ((TableRestKept.of_keeps keptEnd).trans ⟨rfl, rfl, rfl, rfl⟩)
  · refine (find_slotTo (s := endOutbound c u) (by rw [table, found]) o.dest .pending).trans ?_
    rw [was, withSlot_withSlot, vget_withSlot, if_pos rfl]

/-- R67: the slot of an ended context waits for confirmation. -/
theorem endAndConfirm_effect {c : CtxNo} {o : OutCtx} {r : Record} {s : State} (bound : s.ctx c = .out o) (found : s.table.find o.key = some r)
    (opened : r.state = .opened) :
    let t := confirming o.key o.dest (endOutbound c s)
    KeepsAllBut [.table, .lists, .contexts, .port, .engine] s t ∧ OutboundEnded c o s t ∧ JoinsConfirm o.dest o.key s t ∧ OtherRecords o.key s t ∧
      TableRestKept s t ∧ t.table.find o.key = some (r.withSlot o.dest ((vget r.slots o.dest).moved .confirming)) := by
  have unsettled : ∀ q, s.table.find o.key = some q → q.state ≠ .settled := fun q hq => by
    cases found.symm.trans hq
    rw [opened]
    decide
  obtain ⟨keptEnd, ended, -⟩ := endOutbound_ends bound unsettled
  have table : (endOutbound c s).table = s.table := keptEnd .table (by decide)
  refine ⟨?_, ended.after rfl rfl rfl, ?_, ?_, ?_, ?_⟩
  · exact keptEnd.trans (ys := [.table, .lists]) (keepsAllBut_iff.mpr (by simp)) (by decide) (by decide)
  · exact (confirmJoin_joins o.dest o.key (slotTo o.key o.dest .confirming (endOutbound c s))).before (keptEnd .clock (by decide))
      (keptEnd .settings (by decide)) (keptEnd .lists (by decide))
  · exact fun q hq => (find_modRec_of_ne hq _ _).trans (by rw [table])
  · exact (TableRestKept.of_keeps keptEnd).trans ⟨rfl, rfl, rfl, rfl⟩
  · exact find_slotTo (by rw [table, found]) o.dest .confirming

/-- R78: the slot of an ended context fails. -/
theorem endAndFail_effect {c : CtxNo} {o : OutCtx} {p r : Record} {before : Slot} {s u : State} (bound : u.ctx c = .out o)
    (found : u.table.find o.key = some p) (was : p = r.withSlot o.dest before) (opened : r.state = .opened) (kept : KeepsAllBut [.table] s u)
    (alike : Alike s u) (others : OtherRecords o.key s u) (why : FailReason) :
    let t := failSlot o.key o.dest why (endOutbound c u)
    KeepsAllBut [.backlog, .table, .contexts, .port, .engine] s t ∧ OutboundEnded c o s t ∧ OtherRecords o.key s t ∧ TableRestKept s t ∧
      SlotFails r o.dest why before.retries s t := by
  have unsettled : ∀ q, u.table.find o.key = some q → q.state ≠ .settled := fun q hq => by
    cases found.symm.trans hq
    rw [was, show (r.withSlot o.dest before).state = r.state from rfl, opened]
    decide
  obtain ⟨keptEnd, ended, -⟩ := endOutbound_ends bound unsettled
  have table : (endOutbound c u).table = u.table := keptEnd .table (by decide)
  have keptAll : KeepsAllBut [.table, .contexts, .port, .engine] s (endOutbound c u) := kept.trans keptEnd (by decide) (by decide)
  obtain ⟨fails, othersAfter, linger⟩ := failSlot_fails (s := s) (w := endOutbound c u) (alike.trans (.of_keeps keptEnd)) (.of_keeps keptAll)
    (others.trans fun q _ => by rw [table]) (by rw [table, found]) was rfl why
  refine ⟨(failSlot_keepsAllBut keptAll).weaken (by decide), ?_, othersAfter, ⟨linger, fails.2.2⟩, fails⟩
  exact (ended.before (kept .contexts (by decide)) (congrArg Wan.holder (kept .port (by decide))) (congrArg Hme.ops (kept .engine (by decide)))).after
    (by simp) (by simp) (by simp)

theorem Serves.self {s : State} {c : CtxNo} {o : OutCtx} {r : Record} (_ : Serves s c o r) : r = r.withSlot o.dest (vget r.slots o.dest) :=
  (withSlot_self r o.dest).symm

/-- R94: the slot of an ended context becomes final. -/
theorem endAndFinish_effect {c : CtxNo} {o : OutCtx} {r : Record} {s : State} (h : Serves s c o r) (st : SlotState) :
    let t := pressureCheck (finish o.key o.dest st (endOutbound c s))
    KeepsAllBut [.backlog, .table, .contexts, .port, .engine] s t ∧ OtherRecords o.key s t ∧ OutboundEnded c o s t ∧
      SettledWhenLast s.hasRoom (r.withSlot o.dest ((vget r.slots o.dest).moved st)) [] s t := by
  have unsettled := h.unsettled
  obtain ⟨-, bound, found, role, opened⟩ := h
  obtain ⟨keptEnd, ended, -⟩ := endOutbound_ends bound unsettled
  obtain ⟨settles, others⟩ := finish_settles found role opened (.of_keeps keptEnd) (.of_keeps keptEnd) (keptEnd .table (by decide)) o.dest st
  exact ⟨finish_keepsAllBut keptEnd, others, ended.after (by simp) (by simp) (by simp), settles⟩

/-! ## Counted retries (R89) -/

/-- R89: the record's slot with the retry counted. -/
def countedState (k : Key) (x : Region) (n : Nat) (s : State) : State := modSlot k x (fun sl => { sl with retries := n }) s

theorem countRetry_of_limit {k : Key} {x : Region} {r : Record} {s : State} (found : s.table.find k = some r)
    (limit : s.setting 2 ≤ (vget r.slots x).retries + 1) (c : CtxNo) (move : State → State) :
    countRetry c k x move s = failSlot k x .retries (endOutbound c (countedState k x ((vget r.slots x).retries + 1) s)) := by
  rw [countRetry, found]
  exact if_pos limit

theorem countRetry_of_below {k : Key} {x : Region} {r : Record} {s : State} (found : s.table.find k = some r)
    (below : (vget r.slots x).retries + 1 < s.setting 2) (c : CtxNo) (move : State → State) :
    countRetry c k x move s = move (countedState k x ((vget r.slots x).retries + 1) s) := by
  rw [countRetry, found]
  exact if_neg below.not_ge

theorem find_countedState {k : Key} {r : Record} {s : State} (found : s.table.find k = some r) (x : Region) (n : Nat) :
    (countedState k x n s).table.find k = some (r.withSlot x { vget r.slots x with retries := n }) := find_modSlot found x _

theorem countedState_effect (k : Key) (x : Region) (n : Nat) (s : State) : KeepsAllBut [.table] s (countedState k x n s) ∧
    OtherRecords k s (countedState k x n s) ∧ TableRestKept s (countedState k x n s) ∧ Alike s (countedState k x n s) :=
  ⟨keepsAllBut_iff.mpr (by simp [countedState]), modRec_otherRecords k _ s, ⟨rfl, rfl, rfl, rfl⟩, alike_modRec ..⟩

/-- R89: at the limit the slot fails and the context ends. -/
theorem retryLimit_effect {c : CtxNo} {o : OutCtx} {r : Record} {s : State} (bound : s.ctx c = .out o) (found : s.table.find o.key = some r)
    (opened : r.state = .opened) :
    let t := failSlot o.key o.dest .retries (endOutbound c (countedState o.key o.dest ((vget r.slots o.dest).retries + 1) s))
    KeepsAllBut [.backlog, .table, .contexts, .port, .engine] s t ∧ OtherRecords o.key s t ∧ TableRestKept s t ∧
      SlotFails r o.dest .retries ((vget r.slots o.dest).retries + 1) s t ∧ OutboundEnded c o s t ∧ t.sched = s.sched := by
  obtain ⟨kept, others, -, alike⟩ := countedState_effect o.key o.dest ((vget r.slots o.dest).retries + 1) s
  obtain ⟨keptAll, ended, othersAfter, rest, fails⟩ := endAndFail_effect (s := s) (u := countedState o.key o.dest ((vget r.slots o.dest).retries + 1) s)
    bound (find_countedState found o.dest _) rfl opened kept alike others .retries
  exact ⟨keptAll, othersAfter, rest, fails, ended, keptAll .lists (by decide)⟩

/-- R89, R95: a counted retry whose slot, below the limit, goes back to its Work Queue. -/
theorem countRetry_requeues {c : CtxNo} {o : OutCtx} {r : Record} {s : State} (bound : s.ctx c = .out o) (found : s.table.find o.key = some r)
    (opened : r.state = .opened) :
    let t := countRetry c o.key o.dest (fun u => requeue o.key o.dest (endOutbound c u)) s
    KeepsAllBut [.backlog, .table, .lists, .contexts, .port, .engine] s t ∧ OtherRecords o.key s t ∧ TableRestKept s t ∧
      RetryCounted c o r s t (fun n => OutboundEnded c o s t ∧ JoinsWork o.dest o.key s t ∧ t.backlog = s.backlog ∧
        t.table.find o.key = some (r.withSlot o.dest { state := .pending, retries := n, ctx := none, reason := none })) := by
  intro t
  by_cases limit : s.setting 2 ≤ (vget r.slots o.dest).retries + 1
  · obtain ⟨kept, others, rest, fails, ended, sched⟩ := retryLimit_effect bound found opened
    rw [show t = _ from countRetry_of_limit found limit c _]
    exact ⟨kept.weaken (by decide), others, rest, fun below => absurd limit below.not_ge, fun _ => ⟨fails, ended, sched⟩⟩
  · obtain ⟨keptCount, othersCount, restCount, -⟩ := countedState_effect o.key o.dest ((vget r.slots o.dest).retries + 1) s
    obtain ⟨kept, ended, joins, others, rest, record⟩ := endAndRequeue_effect (s := s)
      (u := countedState o.key o.dest ((vget r.slots o.dest).retries + 1) s) bound (find_countedState found o.dest _) rfl opened keptCount othersCount restCount
    rw [show t = _ from countRetry_of_below found (Nat.not_le.mp limit) c _]
    exact ⟨kept.weaken (by decide), others, rest, fun _ => ⟨ended, joins, kept .backlog (by decide), record⟩,
      fun reached => absurd reached limit⟩

/-! ## Replies in OFFERING (R92 to R94) -/

theorem exec_replyAccepted {x : Region} {s : State} (admitted : s.admits x = true) (k : Key) (v : Version) (n : BitVec 16) :
    exec (.replyAccepted x k v n) s = .next (replyAccepted x k v n.toNat s) := congrArg Host.Outcome.next (if_pos admitted)

theorem exec_replyPending {x : Region} {s : State} (admitted : s.admits x = true) (k : Key) (v : Version) :
    exec (.replyPending x k v) s = .next (replyPending x k v s) := congrArg Host.Outcome.next (if_pos admitted)

theorem exec_replyBusy {x : Region} {s : State} (admitted : s.admits x = true) (k : Key) (v : Version) :
    exec (.replyBusy x k v) s = .next (replyBusy x k v s) := congrArg Host.Outcome.next (if_pos admitted)

theorem exec_replyTimeout {x : Region} {s : State} (admitted : s.admits x = true) (k : Key) (v : Version) :
    exec (.replyTimeout x k v) s = .next (replyTimeout x k v s) := congrArg Host.Outcome.next (if_pos admitted)

theorem exec_replyHave {x : Region} {s : State} (admitted : s.admits x = true) (k : Key) (v : Version) :
    exec (.replyHave x k v) s = .next (replyHave x k v s) := congrArg Host.Outcome.next (if_pos admitted)

theorem exec_replyNewer {x : Region} {s : State} (admitted : s.admits x = true) (k : Key) (v other : Version) :
    exec (.replyNewer x k v other) s = .next (replyNewer x k v other s) := congrArg Host.Outcome.next (if_pos admitted)

theorem exec_replyLanded {x : Region} {s : State} (admitted : s.admits x = true) (k : Key) (v : Version) :
    exec (.replyLanded x k v) s = .next (replyLanded x k v s) := congrArg Host.Outcome.next (if_pos admitted)

theorem exec_replyDeclined {x : Region} {s : State} (admitted : s.admits x = true) (k : Key) (v : Version) :
    exec (.replyDeclined x k v) s = .next (replyDeclined x k v s) := congrArg Host.Outcome.next (if_pos admitted)

theorem exec_replyAborted {x : Region} {s : State} (admitted : s.admits x = true) (k : Key) (v : Version) :
    exec (.replyAborted x k v) s = .next (replyAborted x k v s) := congrArg Host.Outcome.next (if_pos admitted)

theorem exec_ack {x : Region} {s : State} (admitted : s.admits x = true) (k : Key) (v : Version) (n : BitVec 16) :
    exec (.ack x k v n) s = .next (ackFrame x k v n.toNat s) := congrArg Host.Outcome.next (if_pos admitted)

/-- R147: the region enters backoff; nothing else changes. -/
theorem startBackoff_effect (x : Region) (s : State) : KeepsAllBut [.regions] s (startBackoff x s) ∧
    (startBackoff x s).region x = { s.region x with backoff := some (s.now + s.settingTime 8) } ∧ OtherRegions x s (startBackoff x s) ∧
      (startBackoff x s).regions.probe = s.regions.probe := modRegion_effect x _ s

/-- R147, read from before the claim. -/
theorem startBackoff_after {x : Region} {s u : State} {touched : List Block} (kept : KeepsAllBut touched s u)
    (none : ∀ b ∈ [Block.clock, .settings, .regions], b ∉ touched := by decide) :
    (startBackoff x u).region x = { s.region x with backoff := some (s.now + s.settingTime 8) } ∧ OtherRegions x s (startBackoff x u) ∧
      (startBackoff x u).regions.probe = s.regions.probe := by
  obtain ⟨-, entry, others, probe⟩ := startBackoff_effect x u
  have regions : u.regions = s.regions := kept .regions (none .regions (by decide))
  have same : ∀ y, u.region y = s.region y := fun y => by rw [State.region, regions]; rfl
  have time : u.now + u.settingTime 8 = s.now + s.settingTime 8 := by
    unfold State.settingTime State.setting
    rw [show u.now = s.now from kept .clock (none .clock (by decide)), show u.settings = s.settings from kept .settings (none .settings (by decide))]
  rw [same, time] at entry
  exact ⟨entry, fun y hy => (others y hy).trans (same y), probe.trans (by rw [regions])⟩

theorem SlotFails.after {r : Record} {x : Region} {why : FailReason} {n : Nat} {s t v : State} (h : SlotFails r x why n s t) (table : v.table = t.table)
    (backlog : v.backlog = t.backlog) : SlotFails r x why n s v := by
  unfold SlotFails RecordNotices NoticesGiven OwedKept PressureKept at h ⊢
  rwa [table, backlog]

theorem RetryCounted.after {c : CtxNo} {o : OutCtx} {r : Record} {s t v : State} {move here : Nat → Prop} (h : RetryCounted c o r s t move)
    (moves : ∀ n, move n → here n) (rest : KeepsAllBut [.regions] t v) : RetryCounted c o r s v here := by
  obtain ⟨below, limit⟩ := h
  refine ⟨fun few => moves _ (below few), fun reached => ?_⟩
  obtain ⟨fails, ended, sched⟩ := limit reached
  exact ⟨fails.after (rest .table (by decide)) (rest .backlog (by decide)),
    ended.after (rest .contexts (by decide)) (congrArg Wan.holder (rest .port (by decide))) (congrArg Hme.ops (rest .engine (by decide))),
    (rest .lists (by decide)).trans sched⟩

theorem TableRestKept.after {s t v : State} (h : TableRestKept s t) (table : v.table = t.table) (backlog : v.backlog = t.backlog) : TableRestKept s v := by
  unfold TableRestKept PressureKept at h ⊢
  rwa [table, backlog]

theorem OtherRecords.after {k : Key} {s t v : State} (h : OtherRecords k s t) (table : v.table = t.table) : OtherRecords k s v := by
  unfold OtherRecords at h ⊢
  rwa [table]

theorem JoinsWork.after {x : Region} {k : Key} {s t v : State} (h : JoinsWork x k s t) (sched : v.sched = t.sched) : JoinsWork x k s v := sched.trans h

/-- Settles O41. -/
theorem repliesInOffering : Obligations.RepliesInOffering := by
  intro c o r s serves admitted x sl others backoff requeued confirms
  have bound := serves.2.1
  have found := serves.2.2.1
  have opened := serves.2.2.2.2
  have self : r = r.withSlot o.dest sl := serves.self
  refine ⟨fun sending reply mem => ?_, fun sending resume => ?_, fun offering => ?_⟩
  · simp only [List.mem_cons, List.not_mem_nil, or_false] at mem
    rcases mem with rfl | rfl | rfl | rfl | rfl
    · rw [exec_replyPending admitted, replyPending, onOffering_of_sending serves sending]
    · rw [exec_replyBusy admitted, replyBusy, onOffering_of_sending serves sending]
    · rw [exec_replyTimeout admitted, replyTimeout, onOffering_of_sending serves sending]
    · rw [exec_replyLanded admitted, replyLanded, onOffering_of_sending serves sending]
    · rw [exec_replyDeclined admitted, replyDeclined, onOffering_of_sending serves sending]
  · rw [exec_replyAccepted admitted, replyAccepted, onOffering_of_sending serves sending]
  · obtain ⟨confKept, confEnded, confJoins, confOthers, confRest, confRecord⟩ := endAndConfirm_effect bound found opened
    have conf : confirms (confirming o.key o.dest (endOutbound c s)) := ⟨confKept, confEnded, confJoins, ⟨confOthers, confRest⟩, confRecord⟩
    refine ⟨fun resume beyond => ?_, fun resume within => ?_, fun resume all => ?_, ?_, ?_, ?_, ?_, ?_⟩
    · rw [exec_replyAccepted admitted, replyAccepted, onOffering_of_offering serves offering, if_pos beyond]
    · rw [exec_replyAccepted admitted, replyAccepted, onOffering_of_offering serves offering, if_neg within.not_gt, if_pos within]
      exact ⟨_, rfl, keepsAllBut_iff.mpr (by simp), setCtx_otherContexts c _ s, ⟨modRec_otherRecords o.key _ (setCtx c _ s), rfl, rfl, rfl, rfl⟩,
        find_modSlot (s := setCtx c _ s) found o.dest _, ctx_setCtx_self ..⟩
    · rw [exec_replyAccepted admitted, replyAccepted, onOffering_of_offering serves offering, if_neg all.not_gt, if_neg (by omega)]
      exact ⟨_, rfl, conf⟩
    · rw [exec_replyLanded admitted, replyLanded, onOffering_of_offering serves offering]
      exact ⟨_, rfl, conf⟩
    · rw [exec_replyPending admitted, replyPending, onOffering_of_offering serves offering]
      exact ⟨_, rfl, keepsAllBut_iff.mpr (by simp), setCtx_otherContexts c _ s, ctx_setCtx_self ..⟩
    · rw [exec_replyBusy admitted, replyBusy, onOffering_of_offering serves offering]
      obtain ⟨kept, ended, joins, othersAfter, rest, record⟩ := endAndRequeue_effect (s := s) bound found self opened (.refl _ s) (.refl _ s) (.refl s)
      obtain ⟨keptBackoff, -⟩ := startBackoff_effect x (requeue o.key x (endOutbound c s))
      have table := keptBackoff .table (by decide)
      refine ⟨_, rfl, kept.trans keptBackoff (by decide) (by decide), ⟨othersAfter.after table, rest.after table (keptBackoff .backlog (by decide))⟩,
        ⟨ended.after (keptBackoff .contexts (by decide)) (congrArg Wan.holder (keptBackoff .port (by decide)))
          (congrArg Hme.ops (keptBackoff .engine (by decide))), joins.after (keptBackoff .lists (by decide)), ?_⟩, startBackoff_after kept⟩
      exact (congrArg (Table.find · o.key) table).trans record
    · rw [exec_replyTimeout admitted, replyTimeout, onOffering_of_offering serves offering]
      obtain ⟨kept, othersAfter, rest, counted⟩ := countRetry_requeues bound found opened
      obtain ⟨keptBackoff, -⟩ := startBackoff_effect x (countRetry c o.key x (fun u => requeue o.key x (endOutbound c u)) s)
      have table := keptBackoff .table (by decide)
      have backlog := keptBackoff .backlog (by decide)
      refine ⟨_, rfl, kept.trans keptBackoff (by decide) (by decide), ⟨othersAfter.after table, rest.after table backlog⟩, ?_, startBackoff_after kept⟩
      refine counted.after (fun n ⟨ended, joins, entries, record⟩ => ⟨⟨?_, ?_, ?_⟩, ?_⟩) keptBackoff
      · exact ended.after (keptBackoff .contexts (by decide)) (congrArg Wan.holder (keptBackoff .port (by decide)))
          (congrArg Hme.ops (keptBackoff .engine (by decide)))
      · exact joins.after (keptBackoff .lists (by decide))
      · exact (congrArg (Table.find · o.key) table).trans record
      · exact Eq.trans backlog entries
    · rw [exec_replyDeclined admitted, replyDeclined, onOffering_of_offering serves offering]
      obtain ⟨kept, ended, othersAfter, rest, fails⟩ := endAndFail_effect (s := s) bound found self opened (.refl _ s) (.refl s) (.refl _ s) .declined
      exact ⟨_, rfl, kept, ⟨othersAfter, rest⟩, ended, fails⟩

/-! ## Replies in OFFERING and SENDING (R94, R95) -/

theorem newer_iff (a b : Version) : newer a b = true ↔
    b.seq.toNat < a.seq.toNat ∨ (a.seq = b.seq ∧ b.origin.toNat < a.origin.toNat) := by
  simp [newer]

/-- A frame command that names no context changes nothing, admitted or not. -/
theorem frame_of_none {act : State → State} {x : Region} {s : State} (same : act s = s) :
    (Host.Outcome.next (if s.admits x = true then act s else s) : Host.Outcome State Fault Refusal) = .next s := by
  rw [same, ite_self]

/-- Settles O42. -/
theorem repliesThatDecideOrAbort : Obligations.RepliesThatDecideOrAbort := by
  refine ⟨fun c o r s serves admitted => ?_, fun x k v s none => ⟨fun frame mem => ?_, fun resume => ?_, fun other => ?_, fun next => ?_⟩,
    fun _ _ _ _ _ => rfl⟩
  · intro x sl ends
    refine ⟨?_, fun other => ?_, ?_⟩
    · rw [exec_replyHave admitted, replyHave, onOutbound_of_serves serves]
      exact ⟨_, rfl, endAndFinish_effect serves .confirmed⟩
    · intro isNewer
      rw [exec_replyNewer admitted, replyNewer, onOutbound_of_serves serves]
      refine ⟨fun yes => ?_, fun no => ?_⟩
      · rw [if_pos ((newer_iff ..).mpr yes)]
        exact ⟨_, rfl, endAndFinish_effect serves .overtaken⟩
      · rw [if_neg (mt (newer_iff ..).mp no)]
    · rw [exec_replyAborted admitted, replyAborted, onOutbound_of_serves serves]
      obtain ⟨-, bound, found, -, opened⟩ := serves
      exact ⟨_, rfl, countRetry_requeues bound found opened⟩
  · have idle := fun act => onOutbound_of_none none act
    simp only [List.mem_cons, List.not_mem_nil, or_false] at mem
    rcases mem with rfl | rfl | rfl | rfl | rfl | rfl | rfl <;> exact frame_of_none (idle _)
  · exact frame_of_none (onOutbound_of_none none _)
  · exact frame_of_none (onOutbound_of_none none _)
  · exact frame_of_none (onOutbound_of_none none _)

end Sys2Proof.Machine
end

section
/-! PROOFS. Segment reads, folding, acknowledgements and the two timers of an outbound context. -/

namespace Sys2Proof.Machine

/-! ## Issuing a segment read (R97, R100, R103) -/

theorem freeBuf_eq_some_iff (o : OutCtx) (b : Fin 2) : o.freeBuf = some b ↔ vget o.bufs b = .free ∧ ∀ d, d < b → vget o.bufs d ≠ .free := by
  have order : [(0 : Fin 2), 1] = List.finRange 2 := by decide
  rw [OutCtx.freeBuf, order, find?_finRange_eq_some_iff]
  simp

theorem mayReadSegment_iff (s : State) (o : OutCtx) : s.mayReadSegment o = true ↔ s.running = true ∧ o.state = .sending ∧ s.sendable o.dest = true ∧
    (o.readChunk < o.next ∨ (o.readChunk = o.next ∧ o.readSeg = 0 ∧ o.next < o.chunks ∧ o.next - o.acked < 16)) := by
  simp [State.mayReadSegment, OutCtx.mayRead, and_assoc]
  simp [Config.window]

/-- The context once a read is issued for its reading position. -/
theorem readInto_eq (o : OutCtx) (b : Fin 2) (size deadline : Nat) : o.readInto b size deadline =
    { o with bufs := vset o.bufs b (.reading o.readChunk o.readSeg false), next := if o.readChunk = o.next then o.next + 1 else o.next,
             timer := if o.readChunk = o.next ∧ o.next = o.acked then some deadline else o.timer,
             readChunk := if o.readSeg + 1 < segmentCount size o.readChunk then o.readChunk else o.readChunk + 1,
             readSeg := if o.readSeg + 1 < segmentCount size o.readChunk then o.readSeg + 1 else 0 } := by
  unfold OutCtx.readInto OutCtx.advanceReading
  dsimp only
  split <;> simp

theorem exec_segmentReadIssue_out {c : CtxNo} {o : OutCtx} {r : Record} {s : State} (bound : s.ctx c = .out o) (found : s.table.find o.key = some r) :
    exec (.segmentReadIssue c) s = .next (match o.freeBuf with
      | some b => if s.mayReadSegment o then
          addOp (.segRead c b) (readBursts (segmentCuts r.extents r.size o.readChunk o.readSeg))
            (setCtx c (.out (o.readInto b r.size (s.now + s.settingTime 0))) s)
        else s
      | none => s) := by
  show execSegmentReadIssue c s = _
  rw [execSegmentReadIssue, bound]
  dsimp only
  rw [found]
  cases o.freeBuf <;> rfl

/-- Settles O43. -/
theorem segmentReadsFollowTheReadingPosition : Obligations.SegmentReadsFollowTheReadingPosition := by
  intro c o r s bound found begins free may
  rw [exec_segmentReadIssue_out bound found]
  refine ⟨fun closed => ?_, fun b open_ here lower => ?_⟩
  · cases buf : o.freeBuf with
    | none => rfl
    | some b =>
      refine congrArg Host.Outcome.next (if_neg fun reads => closed ?_)
      obtain ⟨running, sending, sendable, position⟩ := (mayReadSegment_iff s o).mp reads
      exact ⟨running, sending, sendable, ⟨b, ((freeBuf_eq_some_iff o b).mp buf).1⟩, position⟩
  · obtain ⟨running, sending, sendable, -, position⟩ := open_
    rw [(freeBuf_eq_some_iff o b).mpr ⟨here, lower⟩]
    dsimp only
    rw [if_pos ((mayReadSegment_iff s o).mpr ⟨running, sending, sendable, position⟩), readInto_eq]
    refine ⟨_, rfl, keepsAllBut_iff.mpr (by simp), fun d hd => ?_, rfl, _, ctx_setCtx_self .., ?_⟩
    · exact vget_vset_of_ne _ hd _
    · refine ⟨vget_vset_self .., fun d hd => vget_vset_of_ne _ hd _, rfl, rfl, sending, rfl, rfl, rfl, rfl, rfl, rfl, rfl, rfl, fun more => ?_, fun last => ?_⟩
      · exact ⟨if_pos more, if_pos more⟩
      · exact ⟨if_neg last.not_gt, if_neg last.not_gt⟩

/-! ## Folding (R98) -/

@[simp] theorem otherBuf_otherBuf (b : Fin 2) : otherBuf (otherBuf b) = b := by
  match b with
  | 0 => rfl
  | 1 => rfl

theorem otherBuf_ne (b : Fin 2) : otherBuf b ≠ b := by
  match b with
  | 0 => decide
  | 1 => decide

theorem eq_or_eq_otherBuf (b d : Fin 2) : d = b ∨ d = otherBuf b := by
  match b, d with
  | 0, 0 => exact .inl rfl
  | 0, 1 => exact .inr rfl
  | 1, 0 => exact .inr rfl
  | 1, 1 => exact .inl rfl

theorem foldBuf_of_not_unfolded {o : OutCtx} {b : Fin 2} (h : ∀ c g bs, vget o.bufs b ≠ .unfolded c g bs) (size : Nat) : o.foldBuf size b = o := by
  unfold OutCtx.foldBuf
  split
  · rename_i c g bs unfolded
    exact absurd unfolded (h c g bs)
  · rfl

theorem foldBuf_of_not_foldable {o : OutCtx} {b : Fin 2} (h : o.foldable b = false) (size : Nat) : o.foldBuf size b = o := by
  unfold OutCtx.foldBuf
  split
  · exact if_neg (by rw [h]; exact Bool.false_ne_true)
  · rfl

/-- The context with one buffer folded. -/
def OutCtx.foldedAt (o : OutCtx) (size : Nat) (b : Fin 2) (c g : Nat) (bs : List Byte) : OutCtx :=
  { o with acc := foldedAcc g o.acc bs, bufs := vset o.bufs b (foldedBuf size c g (foldedAcc g o.acc bs) bs) }

theorem foldBuf_of_foldable {o : OutCtx} {b : Fin 2} {c g : Nat} {bs : List Byte} (unfolded : vget o.bufs b = .unfolded c g bs)
    (turn : o.foldable b = true) (size : Nat) : o.foldBuf size b = o.foldedAt size b c g bs := by
  unfold OutCtx.foldBuf
  rw [unfolded]
  exact if_pos turn

theorem foldable_of_ready {o : OutCtx} {b : Fin 2} {c g a i : Nat} {bs ds : List Byte} {k : Option (BitVec 32)} (unfolded : vget o.bufs b = .unfolded c g bs)
    (ready : vget o.bufs (otherBuf b) = .ready a i ds k) : o.foldable b = true := by
  rw [OutCtx.foldable, unfolded]
  dsimp only
  rw [ready]

theorem foldable_of_position {o : OutCtx} {b : Fin 2} {c g : Nat} {bs : List Byte} (unfolded : vget o.bufs b = .unfolded c g bs)
    (notReady : ∀ a i ds k, vget o.bufs (otherBuf b) ≠ .ready a i ds k) :
    o.foldable b = !((vget o.bufs (otherBuf b)).position.any fun p => earlier p (c, g)) := by
  rw [OutCtx.foldable, unfolded]
  dsimp only
  cases other : vget o.bufs (otherBuf b)
  case ready a i ds k => exact absurd other (notReady a i ds k)
  all_goals rfl

theorem earlier_iff (a b : Nat × Nat) : earlier a b = true ↔ a.1 < b.1 ∨ (a.1 = b.1 ∧ a.2 < b.2) := by
  simp [earlier]

/-- Of two different places of the pass one comes first. -/
theorem earlier_asymm {a b : Nat × Nat} (h : earlier a b = true) : earlier b a = false := by
  rw [← Bool.not_eq_true, earlier_iff]
  rw [earlier_iff] at h
  omega

/-- The three looks of a fold, from either buffer. -/
theorem foldAll_eq (size : Nat) (o : OutCtx) (b : Fin 2) :
    OutCtx.foldAll size o = OutCtx.foldBuf size b (OutCtx.foldBuf size (otherBuf b) (OutCtx.foldBuf size b o)) ∨
      OutCtx.foldAll size o = OutCtx.foldBuf size (otherBuf b) (OutCtx.foldBuf size b (OutCtx.foldBuf size (otherBuf b) o)) := by
  match b with
  | 0 => exact .inl rfl
  | 1 => exact .inr rfl

/-- Nothing to fold. -/
theorem foldAll_of_still {size : Nat} {o : OutCtx} {b : Fin 2} (this : o.foldBuf size b = o) (that : o.foldBuf size (otherBuf b) = o) :
    OutCtx.foldAll size o = o := by
  rcases foldAll_eq size o b with h | h
  · rw [h, this, that, this]
  · rw [h, that, this, that]

/-- One buffer folds. -/
theorem foldAll_of_one {size : Nat} {o p : OutCtx} {b : Fin 2} (fold : o.foldBuf size b = p) (that : o.foldBuf size (otherBuf b) = o)
    (done : p.foldBuf size b = p) (rest : p.foldBuf size (otherBuf b) = p) : OutCtx.foldAll size o = p := by
  rcases foldAll_eq size o b with h | h
  · rw [h, fold, rest, done]
  · rw [h, that, fold, rest]

/-- One buffer folds, and then the other behind it. -/
theorem foldAll_of_two {size : Nat} {o p q : OutCtx} {b : Fin 2} (fold : o.foldBuf size b = p) (that : o.foldBuf size (otherBuf b) = o)
    (behind : p.foldBuf size (otherBuf b) = q) (done : q.foldBuf size b = q) : OutCtx.foldAll size o = q := by
  rcases foldAll_eq size o b with h | h
  · rw [h, fold, behind, done]
  · rw [h, that, fold, behind]

theorem vget_foldedAt (o : OutCtx) (size : Nat) (b : Fin 2) (c g : Nat) (bs : List Byte) :
    vget (o.foldedAt size b c g bs).bufs b = foldedBuf size c g (foldedAcc g o.acc bs) bs := vget_vset_self ..

theorem vget_foldedAt_other (o : OutCtx) (size : Nat) (b : Fin 2) (c g : Nat) (bs : List Byte) :
    vget (o.foldedAt size b c g bs).bufs (otherBuf b) = vget o.bufs (otherBuf b) := vget_vset_of_ne _ (otherBuf_ne b) _

/-- A folded buffer is not folded again. -/
theorem foldBuf_foldedAt (o : OutCtx) (size : Nat) (b : Fin 2) (c g : Nat) (bs : List Byte) :
    (o.foldedAt size b c g bs).foldBuf size b = o.foldedAt size b c g bs :=
  foldBuf_of_not_unfolded (fun _ _ _ h => by rw [vget_foldedAt] at h; cases h) size

/-- R98: the fold of two segments, the one at `b` first. -/
theorem foldAll_two {size : Nat} {o : OutCtx} {b : Fin 2} {c g a i : Nat} {bs ds : List Byte} (this : vget o.bufs b = .unfolded c g bs)
    (that : vget o.bufs (otherBuf b) = .unfolded a i ds) (first : earlier (c, g) (a, i) = true) :
    OutCtx.foldAll size o = (o.foldedAt size b c g bs).foldedAt size (otherBuf b) a i ds := by
  have turn : o.foldable b = true := by
    rw [foldable_of_position this (fun _ _ _ _ h => by rw [that] at h; cases h), that]
    simp [Buf.position, earlier_asymm first]
  have waits : o.foldable (otherBuf b) = false := by
    rw [foldable_of_position that (fun _ _ _ _ h => by rw [otherBuf_otherBuf, this] at h; cases h), otherBuf_otherBuf, this]
    simp [Buf.position, first]
  have that' : vget (o.foldedAt size b c g bs).bufs (otherBuf b) = .unfolded a i ds := (vget_foldedAt_other ..).trans that
  have ready := vget_foldedAt o size b c g bs
  rw [foldedBuf] at ready
  refine foldAll_of_two (foldBuf_of_foldable this turn size) (foldBuf_of_not_foldable waits size)
    (foldBuf_of_foldable that' (foldable_of_ready that' (by rw [otherBuf_otherBuf]; exact ready)) size) (foldBuf_of_not_unfolded (fun _ _ _ h => ?_) size)
  have kept := vget_foldedAt_other (o.foldedAt size b c g bs) size (otherBuf b) a i ds
  rw [otherBuf_otherBuf] at kept
  rw [kept, ready] at h
  cases h

/-- R98: the fold of the one segment at `b` whose turn it is, the other buffer not holding a waiting one. -/
theorem foldAll_one {size : Nat} {o : OutCtx} {b : Fin 2} {c g : Nat} {bs : List Byte} (this : vget o.bufs b = .unfolded c g bs)
    (turn : o.foldable b = true) (that : ∀ a i ds, vget o.bufs (otherBuf b) ≠ .unfolded a i ds) :
    OutCtx.foldAll size o = o.foldedAt size b c g bs := by
  refine foldAll_of_one (foldBuf_of_foldable this turn size) (foldBuf_of_not_unfolded that size) (foldBuf_foldedAt ..) (foldBuf_of_not_unfolded ?_ size)
  rw [vget_foldedAt_other]
  exact that

/-- A fold changes the buffers and the accumulator alone, and no buffer but a waiting one. -/
theorem foldBuf_keeps (size : Nat) (b : Fin 2) (o : OutCtx) :
    (∃ bufs acc, o.foldBuf size b = { o with bufs := bufs, acc := acc }) ∧
      ∀ d, (∀ c g bs, vget o.bufs d ≠ .unfolded c g bs) → vget (o.foldBuf size b).bufs d = vget o.bufs d := by
  by_cases unfolded : ∃ c g bs, vget o.bufs b = .unfolded c g bs
  · obtain ⟨c, g, bs, here⟩ := unfolded
    cases turn : o.foldable b with
    | false =>
      rw [foldBuf_of_not_foldable turn size]
      exact ⟨⟨_, _, rfl⟩, fun _ _ => rfl⟩
    | true =>
      rw [foldBuf_of_foldable here turn size]
      exact ⟨⟨_, _, rfl⟩, fun d hd => vget_vset_of_ne _ (fun same => hd c g bs (by rw [same]; exact here)) _⟩
  · rw [foldBuf_of_not_unfolded (fun c g bs h => unfolded ⟨c, g, bs, h⟩) size]
    exact ⟨⟨_, _, rfl⟩, fun _ _ => rfl⟩

theorem foldAll_keeps (size : Nat) (o : OutCtx) :
    (∃ bufs acc, OutCtx.foldAll size o = { o with bufs := bufs, acc := acc }) ∧
      ∀ d, (∀ c g bs, vget o.bufs d ≠ .unfolded c g bs) → vget (OutCtx.foldAll size o).bufs d = vget o.bufs d := by
  obtain ⟨⟨bufs, acc, same⟩, held⟩ := foldBuf_keeps size 0 o
  obtain ⟨⟨bufs', acc', same'⟩, held'⟩ := foldBuf_keeps size 1 (o.foldBuf size 0)
  obtain ⟨⟨bufs'', acc'', same''⟩, held''⟩ := foldBuf_keeps size 0 ((o.foldBuf size 0).foldBuf size 1)
  refine ⟨⟨bufs'', acc'', ?_⟩, fun d hd => ?_⟩
  · calc OutCtx.foldAll size o = ((o.foldBuf size 0).foldBuf size 1).foldBuf size 0 := rfl
      _ = { o with bufs := bufs'', acc := acc'' } := by rw [same'', same', same]
  · have first := held d hd
    have second := (held' d (by rw [first]; exact hd)).trans first
    exact (held'' d (by rw [second]; exact hd)).trans second

/-! ## The end of a read (R87, R98, R107) -/

theorem onSegmentRead_of_found {c : CtxNo} {b : Fin 2} {p : Op → Bool} {op : Op} {o : OutCtx} {s : State} (found : s.hme.find (.segRead c b) p = some op)
    (bound : s.ctx c = .out o) (running : s.running = true) (act : OutCtx → Op → State → State) :
    onSegmentRead c b p act s = act o op (dropOp op.id s) := by
  rw [onSegmentRead, found, bound]
  exact if_pos running

theorem exec_segmentReadDone (c : CtxNo) (b : Fin 2) (s : State) : exec (.segmentReadDone c b) s =
    .next (onSegmentRead c b Op.succeeded (fun o op t => if o.state == .aborting then abortingReadEnded c b o t else readKept c b o op.data t) s) := rfl

theorem exec_segmentReadFail (c : CtxNo) (b : Fin 2) (s : State) : exec (.segmentReadFail c b) s =
    .next (onSegmentRead c b Op.failed (fun o _ t => if o.state == .aborting then abortingReadEnded c b o t
      else failSlot o.key o.dest .hostRead (endOutbound c (setCtx c (.out { o with bufs := vset o.bufs b .free }) t))) s) := rfl

theorem any_isReading_freed (o : OutCtx) (b : Fin 2) : (vset o.bufs b .free).toList.any Buf.isReading = (vget o.bufs (otherBuf b)).isReading := by
  rw [Bool.eq_iff_iff, ← not_iff_not, Bool.not_eq_true, any_toList_eq_false_iff, Bool.not_eq_true]
  constructor
  · intro none
    have other := none (otherBuf b)
    rwa [vget_vset_of_ne _ (otherBuf_ne b)] at other
  · intro idle d
    rcases eq_or_eq_otherBuf b d with rfl | rfl
    · rw [vget_vset_self]
      rfl
    · rw [vget_vset_of_ne _ (otherBuf_ne b)]
      exact idle

theorem StandsOrRetires.before {unowed : Prop} {r : Record} {s u t : State} (h : StandsOrRetires unowed r u t) (now : u.now = s.now)
    (linger : u.table.linger = s.table.linger) : StandsOrRetires unowed r s t := by
  unfold StandsOrRetires Retires Retired at h ⊢
  rwa [now, linger] at h

theorem StandsOrRetires.after {unowed : Prop} {r : Record} {s t v : State} (h : StandsOrRetires unowed r s t)
    (record : v.table.find r.key = t.table.find r.key) (linger : v.table.linger = t.table.linger) (pool : v.pool = t.pool) :
    StandsOrRetires unowed r s v := by
  unfold StandsOrRetires Retires Retired State.ctx at h ⊢
  rwa [record, linger, pool]

theorem retireIfDue_owedKept (k : Key) (s : State) : OwedKept k s (retireIfDue k s) := by
  rcases retireIfDue_cases k s with same | gone
  · rw [same]
    exact fun q hq => ⟨by simp [State.owedCancel, hq], fun r hr => by cases hq.symm.trans hr; rfl⟩
  · rw [gone]
    exact fun q hq => by rw [find_retire_self] at hq; cases hq

theorem RoomKept.hasRoom {s u : State} (h : RoomKept s u) (pressure : u.backlog.owedPressure = s.backlog.owedPressure)
    (list : u.backlog.owedList = s.backlog.owedList) (entries : u.backlog.entries = s.backlog.entries) : u.hasRoom = s.hasRoom := by
  funext n
  unfold State.hasRoom
  rw [eq_iff_iff, fits_iff, fits_iff, h.anyOwed pressure list, entries, h.reservations]

theorem RoomKept.refl (s : State) : RoomKept s s := .of_regions rfl rfl rfl

/-- R10, R11, R20: a retirement test and the pressure comparison behind it. -/
theorem retireAndCompare_effect (k : Key) (s : State) :
    let t := pressureCheck (retireIfDue k s)
    KeepsAllBut [.table, .backlog] s t ∧ OtherRecords k s t ∧
      (s.table.find k = none → t.table.records = s.table.records ∧ t.table.linger = s.table.linger) ∧
      (∀ r, s.table.find k = some r → StandsOrRetires True r s t ∧ OwedKept k s t) ∧
      ∃ es, PressureCompared (s.hasRoom 1) es s t ∧ t.backlog.entries = s.backlog.entries ++ es ∧ t.backlog.owedList = s.backlog.owedList ∧
        t.backlog.reservations = s.backlog.reservations := by
  intro t
  have backlog : (retireIfDue k s).backlog = s.backlog := by simp
  obtain ⟨es, compared, entries, records, linger, list, reservations⟩ := pressureCheck_compares (retireIfDue k s)
  obtain ⟨rising, reported, owed⟩ := retireIfDue_pressure k s
  have room : (retireIfDue k s).hasRoom = s.hasRoom := (RoomKept.retireIfDue k s).hasRoom (by rw [backlog]) (by rw [backlog]) (by rw [backlog])
  refine ⟨keepsAllBut_iff.mpr (by simp [t]), ?_, fun absent => ?_, fun r found => ⟨?_, ?_⟩, es, ?_, ?_, ?_, ?_⟩
  · exact (retireIfDue_otherRecords k s).trans fun q _ => find_pressureCheck q _
  · rw [show retireIfDue k s = s from retireIfDue_of_absent absent] at records linger
    rw [show t = pressureCheck s from congrArg pressureCheck (retireIfDue_of_absent absent)]
    exact ⟨records, linger⟩
  · exact (retireIfDue_standsOrRetires found).after (find_pressureCheck ..) linger (by simp [t])
  · intro q hq
    rw [find_pressureCheck] at hq
    exact retireIfDue_owedKept k s q hq
  · rw [← room]
    exact compared.of_same Iff.rfl rising.symm reported.symm owed.symm rfl rfl rfl
  · rw [entries, backlog]
  · rw [list, backlog]
  · rw [reservations, backlog]

/-- R87: the end of a read of an ABORTING context. -/
theorem abortingReadEnded_effect {c : CtxNo} {b : Fin 2} {o : OutCtx} {op : Op} {s : State} :
    let other := vget o.bufs (otherBuf b)
    let t := abortingReadEnded c b o (dropOp op.id s)
    t.hme = s.hme.without op.id ∧ OtherContexts c s t ∧
      (other.isReading = true → KeepsAllBut [.contexts, .engine] s t ∧ t.ctx c = .out { o with bufs := vset o.bufs b .free }) ∧
      (other.isReading = false → KeepsAllBut [.contexts, .engine, .table, .backlog] s t ∧ t.ctx c = .free ∧ OtherRecords o.key s t ∧
        (s.table.find o.key = none → t.table.records = s.table.records ∧ t.table.linger = s.table.linger) ∧
        (∀ r, s.table.find o.key = some r → StandsOrRetires True r s t ∧ OwedKept o.key s t) ∧
        ∃ es, PressureCompared (s.hasRoom 1) es s t ∧ t.backlog.entries = s.backlog.entries ++ es ∧ t.backlog.owedList = s.backlog.owedList) := by
  intro other t
  have last : (vset o.bufs b .free).toList.any Buf.isReading = other.isReading := any_isReading_freed o b
  cases reading : other.isReading with
  | true =>
    have eq : t = setCtx c (.out { o with bufs := vset o.bufs b .free }) (dropOp op.id s) := if_pos (last.trans reading)
    rw [eq]
    exact ⟨rfl, setCtx_otherContexts c _ _, fun _ => ⟨keepsAllBut_iff.mpr (by simp), ctx_setCtx_self ..⟩, fun h => by cases h⟩
  | false =>
    have eq : t = pressureCheck (freeCtx c o.key (dropOp op.id s)) := if_neg (by rw [last, reading]; exact Bool.false_ne_true)
    rw [eq]
    let u := setCtx c .free (dropOp op.id s)
    have keptU : KeepsAllBut [.contexts, .engine] s u := keepsAllBut_iff.mpr (by simp [u])
    obtain ⟨kept, others, absent, stands, es, compared, entries, list, -⟩ := retireAndCompare_effect o.key u
    have pool : (pressureCheck (retireIfDue o.key u)).pool = u.pool := kept .contexts (by decide)
    refine ⟨kept .engine (by decide), fun d hd => ?_, (fun h => by cases h), fun _ => ⟨keptU.trans kept (by decide) (by decide), ?_, others, absent,
      fun r found => ?_, es, ?_, entries, list⟩⟩
    · exact (ctx_congr pool d).trans (setCtx_otherContexts c .free (dropOp op.id s) d hd)
    · exact (ctx_congr pool c).trans (ctx_setCtx_self ..)
    · obtain ⟨standsU, owed⟩ := stands r found
      exact ⟨standsU.before rfl rfl, owed⟩
    · exact compared.of_same Iff.rfl rfl rfl rfl rfl rfl rfl

theorem SlotFails.before {r : Record} {x : Region} {why : FailReason} {n : Nat} {s u t : State} (h : SlotFails r x why n u t) (alike : Alike s u)
    (kept : RoomKept s u) : SlotFails r x why n s t := by
  obtain ⟨found, notices⟩ := h
  rw [alike.hasRoom kept] at notices
  exact ⟨found, notices.before alike⟩

theorem sizeOf_of_found {s : State} {k : Key} {r : Record} (found : s.table.find k = some r) : s.sizeOf k = r.size := by
  rw [State.sizeOf, found]
  rfl

theorem readKept_of_reading {c : CtxNo} {b : Fin 2} {o : OutCtx} {ch g : Nat} {discard : Bool} {r : Record} {s : State}
    (reading : vget o.bufs b = .reading ch g discard) (found : s.table.find o.key = some r) (data : List Byte) :
    readKept c b o data s =
      setCtx c (.out (OutCtx.foldAll r.size { o with bufs := vset o.bufs b (if discard = true then .free else .unfolded ch g data) })) s := by
  rw [readKept, reading]
  dsimp only
  rw [sizeOf_of_found found]

/-- R98: the folding behind a discarded read. -/
theorem foldAll_discarded {o : OutCtx} {b : Fin 2} {size : Nat} :
    let e := OutCtx.foldAll size { o with bufs := vset o.bufs b .free }
    let other := vget o.bufs (otherBuf b)
    (∀ a i bs, other = .unfolded a i bs → e.acc = foldedAcc i o.acc bs ∧ vget e.bufs b = .free ∧
      vget e.bufs (otherBuf b) = foldedBuf size a i (foldedAcc i o.acc bs) bs) ∧
    ((∀ a i bs, other ≠ .unfolded a i bs) → e.acc = o.acc ∧ vget e.bufs b = .free ∧ vget e.bufs (otherBuf b) = other) := by
  intro e other
  let p : OutCtx := { o with bufs := vset o.bufs b .free }
  have here : vget p.bufs b = .free := vget_vset_self ..
  have there : vget p.bufs (otherBuf b) = other := vget_vset_of_ne _ (otherBuf_ne b) _
  refine ⟨fun a i bs unfolded => ?_, fun still => ?_⟩
  · have that : vget p.bufs (otherBuf b) = .unfolded a i bs := there.trans unfolded
    have turn : p.foldable (otherBuf b) = true := by
      rw [foldable_of_position that (fun _ _ _ _ h => by rw [otherBuf_otherBuf, here] at h; cases h), otherBuf_otherBuf, here]
      rfl
    have eq : e = p.foldedAt size (otherBuf b) a i bs :=
      foldAll_one that turn fun _ _ _ h => by rw [otherBuf_otherBuf, here] at h; cases h
    have free := vget_foldedAt_other p size (otherBuf b) a i bs
    rw [otherBuf_otherBuf, here] at free
    rw [eq]
    exact ⟨rfl, free, vget_foldedAt ..⟩
  · have eq : e = p := foldAll_of_still (b := b) (foldBuf_of_not_unfolded (fun _ _ _ h => by rw [here] at h; cases h) size)
      (foldBuf_of_not_unfolded (fun a i bs h => still a i bs (there ▸ h)) size)
    rw [eq]
    exact ⟨rfl, here, there⟩

/-- R98: the folding of a read that is kept. -/
theorem foldAll_kept {o : OutCtx} {b : Fin 2} {size ch g : Nat} {bytes : List Byte} :
    let e := OutCtx.foldAll size { o with bufs := vset o.bufs b (.unfolded ch g bytes) }
    let other := vget o.bufs (otherBuf b)
    let first := foldedAcc g o.acc bytes
    (∀ a i bs, other = .unfolded a i bs → ch < a ∨ (ch = a ∧ g < i) → e.acc = foldedAcc i first bs ∧ vget e.bufs b = foldedBuf size ch g first bytes ∧
      vget e.bufs (otherBuf b) = foldedBuf size a i (foldedAcc i first bs) bs) ∧
    (∀ a i bs, other = .unfolded a i bs → a < ch ∨ (a = ch ∧ i < g) →
      let earlier := foldedAcc i o.acc bs
      e.acc = foldedAcc g earlier bytes ∧ vget e.bufs b = foldedBuf size ch g (foldedAcc g earlier bytes) bytes ∧
        vget e.bufs (otherBuf b) = foldedBuf size a i earlier bs) ∧
    (other = .free ∨ (∃ a i bs k, other = .ready a i bs k) ∨ (∃ a i, other = .reading a i true) ∨
        (∃ a i, other = .reading a i false ∧ (ch < a ∨ (ch = a ∧ g < i))) →
      e.acc = first ∧ vget e.bufs b = foldedBuf size ch g first bytes ∧ vget e.bufs (otherBuf b) = other) ∧
    (∀ a i, other = .reading a i false → a < ch ∨ (a = ch ∧ i < g) →
      e.acc = o.acc ∧ vget e.bufs b = .unfolded ch g bytes ∧ vget e.bufs (otherBuf b) = other) := by
  intro e other first
  let p : OutCtx := { o with bufs := vset o.bufs b (.unfolded ch g bytes) }
  have here : vget p.bufs b = .unfolded ch g bytes := vget_vset_self ..
  have there : vget p.bufs (otherBuf b) = other := vget_vset_of_ne _ (otherBuf_ne b) _
  refine ⟨fun a i bs unfolded before => ?_, fun a i bs unfolded behind => ?_, fun alone => ?_, fun a i reading behind => ?_⟩
  · have eq : e = (p.foldedAt size b ch g bytes).foldedAt size (otherBuf b) a i bs :=
      foldAll_two here (there.trans unfolded) ((earlier_iff ..).mpr before)
    have kept := vget_foldedAt_other (p.foldedAt size b ch g bytes) size (otherBuf b) a i bs
    rw [otherBuf_otherBuf, vget_foldedAt] at kept
    rw [eq]
    exact ⟨rfl, kept, vget_foldedAt ..⟩
  · have eq : e = (p.foldedAt size (otherBuf b) a i bs).foldedAt size b ch g bytes := by
      have two := foldAll_two (size := size) (o := p) (b := otherBuf b) (there.trans unfolded) (by rw [otherBuf_otherBuf]; exact here) ((earlier_iff ..).mpr behind)
      rwa [otherBuf_otherBuf] at two
    have kept := vget_foldedAt_other (p.foldedAt size (otherBuf b) a i bs) size b ch g bytes
    rw [vget_foldedAt] at kept
    rw [eq]
    exact ⟨rfl, vget_foldedAt .., kept⟩
  · have turn : p.foldable b = true := by
      rcases alone with free | ⟨a, i, bs, k, ready⟩ | ⟨a, i, discarded⟩ | ⟨a, i, reading, before⟩
      · rw [foldable_of_position here (fun _ _ _ _ h => by rw [there, free] at h; cases h), there, free]
        rfl
      · exact foldable_of_ready here (there.trans ready)
      · rw [foldable_of_position here (fun _ _ _ _ h => by rw [there, discarded] at h; cases h), there, discarded]
        rfl
      · rw [foldable_of_position here (fun _ _ _ _ h => by rw [there, reading] at h; cases h), there, reading]
        simp [Buf.position, earlier_asymm ((earlier_iff (ch, g) (a, i)).mpr before)]
    have still : ∀ a i bs, vget p.bufs (otherBuf b) ≠ .unfolded a i bs := fun a i bs h => by
      rw [there] at h
      rcases alone with free | ⟨_, _, _, _, ready⟩ | ⟨_, _, discarded⟩ | ⟨_, _, reading, -⟩
      · rw [free] at h; cases h
      · rw [ready] at h; cases h
      · rw [discarded] at h; cases h
      · rw [reading] at h; cases h
    have eq : e = p.foldedAt size b ch g bytes := foldAll_one here turn still
    rw [eq]
    exact ⟨rfl, vget_foldedAt .., (vget_foldedAt_other ..).trans there⟩
  · have waits : p.foldable b = false := by
      rw [foldable_of_position here (fun _ _ _ _ h => by rw [there, reading] at h; cases h), there, reading]
      simp [Buf.position, (earlier_iff (a, i) (ch, g)).mpr behind]
    have eq : e = p := foldAll_of_still (b := b) (foldBuf_of_not_foldable waits size)
      (foldBuf_of_not_unfolded (fun _ _ _ h => by rw [there, reading] at h; cases h) size)
    rw [eq]
    exact ⟨rfl, here, there⟩

/-- Settles O44. -/
theorem segmentReadsEnd : Obligations.SegmentReadsEnd := by
  intro c b o op s running bound other aborting
  refine ⟨fun found => ⟨fun aborts => ?_, fun ch g discard r sending reading record => ?_⟩, fun found => ⟨fun aborts => ?_, fun r sending record role opened => ?_⟩⟩
  · rw [exec_segmentReadDone, onSegmentRead_of_found found bound running, if_pos (by rw [aborts]; rfl)]
    exact ⟨_, rfl, abortingReadEnded_effect⟩
  · rw [exec_segmentReadDone, onSegmentRead_of_found found bound running, if_neg (by rw [sending]; decide),
      readKept_of_reading (s := dropOp op.id s) reading record]
    refine ⟨_, _, rfl, keepsAllBut_iff.mpr (by simp), rfl, setCtx_otherContexts c _ _, ctx_setCtx_self .., ?_, ?_⟩
    · obtain ⟨⟨bufs, acc, eq⟩, -⟩ := foldAll_keeps r.size { o with bufs := vset o.bufs b (if discard = true then .free else .unfolded ch g op.data) }
      rw [eq]
    · intro bytes becomes first
      refine ⟨fun gone => ?_, fun kept => ?_⟩
      · subst gone
        exact foldAll_discarded
      · subst kept
        exact foldAll_kept
  · rw [exec_segmentReadFail, onSegmentRead_of_found found bound running, if_pos (by rw [aborts]; rfl)]
    exact ⟨_, rfl, abortingReadEnded_effect⟩
  · intro ended
    rw [exec_segmentReadFail, onSegmentRead_of_found found bound running, if_neg (by rw [sending]; decide)]
    let u := setCtx c (.out ended) (dropOp op.id s)
    have keptU : KeepsAllBut [.contexts, .engine] s u := keepsAllBut_iff.mpr (by simp [u])
    obtain ⟨kept, endedU, others, rest, fails⟩ := endAndFail_effect (s := u) (u := u) (o := ended) (ctx_setCtx_self ..) record
      (withSlot_self r o.dest).symm opened (.refl _ u) (.refl u) (.refl _ u) .hostRead
    obtain ⟨ctxEnded, otherCtxs, noGrant, grant, ops⟩ := endedU
    refine ⟨_, rfl, keptU.trans kept (by decide) (by decide), others, rest.1, ⟨ctxEnded, ?_, noGrant, grant, ops⟩, fails.before (.of_keeps keptU) (.of_keeps keptU)⟩
    exact fun d hd => (otherCtxs d hd).trans (setCtx_otherContexts c _ _ d hd)

/-! ## Acknowledgement (R101 to R103) -/

/-- R101: what the fold behind a taken ACK leaves of a buffer. -/
theorem foldAll_ackTo_buf (size : Nat) (o : OutCtx) (e : Nat) (timer : Option Nat) (b : Fin 2) :
    let q := OutCtx.foldAll size (o.ackTo e timer)
    (∀ ch g d, vget o.bufs b = .reading ch g d → vget q.bufs b = .reading ch g (d || decide (ch < e))) ∧
    (∀ ch g bs k, vget o.bufs b = .ready ch g bs k → vget q.bufs b = if ch < e then .free else .ready ch g bs k) ∧
    (∀ ch g bs, vget o.bufs b = .unfolded ch g bs → ch < e → vget q.bufs b = .free) := by
  intro q
  have acked : vget (o.ackTo e timer).bufs b = ackedBuf e (vget o.bufs b) := vget_map ..
  have held : ∀ buf, ackedBuf e (vget o.bufs b) = buf → (∀ c g bs, buf ≠ .unfolded c g bs) → vget q.bufs b = buf := fun buf eq idle =>
    ((foldAll_keeps size (o.ackTo e timer)).2 b (by rw [acked, eq]; exact idle)).trans (acked.trans eq)
  refine ⟨fun ch g d reading => held _ ?_ (fun _ _ _ h => by cases h), fun ch g bs k ready => held _ (by rw [ready]; rfl) fun _ _ _ h => ?_,
    fun ch g bs unfolded below => held _ ?_ (fun _ _ _ h => by cases h)⟩
  · rw [reading]
    by_cases below : ch < e <;> simp [ackedBuf, below]
  · split at h <;> cases h
  · rw [unfolded]
    exact if_pos below

/-- R101, R103: a taken ACK below the chunk count. -/
theorem ackTaken_effect {c : CtxNo} {o : OutCtx} {s : State} (sending : o.state = .sending) (size e : Nat) :
    let timer := if e < o.next && s.sendable o.dest then some (s.now + s.settingTime 0) else none
    let q := OutCtx.foldAll size (o.ackTo e timer)
    let t := setCtx c (.out q) s
    KeepsAllBut [.contexts] s t ∧ OtherContexts c s t ∧ t.ctx c = .out q ∧ q.acked = e ∧ q.next = o.next ∧ q.state = .sending ∧ q.key = o.key ∧
      q.version = o.version ∧ q.dest = o.dest ∧ q.chunks = o.chunks ∧ q.burst = o.burst ∧ q.order = o.order ∧
      q.timer = (if e < o.next ∧ s.sendable o.dest = true then some (s.now + s.settingTime 0) else none) ∧
      (o.readChunk < e → q.readChunk = o.next ∧ q.readSeg = 0) ∧ (e ≤ o.readChunk → q.readChunk = o.readChunk ∧ q.readSeg = o.readSeg) := by
  intro timer q t
  obtain ⟨bufs, acc, eq⟩ := (foldAll_keeps size (o.ackTo e timer)).1
  have q_eq : q = { o.ackTo e timer with bufs := bufs, acc := acc } := eq
  refine ⟨keepsAllBut_iff.mpr (by simp [t]), setCtx_otherContexts c _ s, ctx_setCtx_self .., ?_⟩
  rw [q_eq]
  refine ⟨rfl, rfl, sending, rfl, rfl, rfl, rfl, rfl, rfl, ?_, fun moved => ?_, fun stays => ?_⟩
  · simp only [OutCtx.ackTo, timer, Bool.and_eq_true, decide_eq_true_eq]
  · simp [OutCtx.ackTo, moved]
  · simp [OutCtx.ackTo, stays.not_gt]

/-- R104: what going back leaves of a buffer. -/
theorem goBack_buf (o : OutCtx) (b : Fin 2) : (∀ ch g d, vget o.bufs b = .reading ch g d → vget o.goBack.bufs b = .reading ch g true) ∧
    ((vget o.bufs b).isReading = false → vget o.goBack.bufs b = .free) := by
  have back : vget o.goBack.bufs b = endedBuf false (vget o.bufs b) := vget_map ..
  rw [back]
  refine ⟨fun ch g d reading => by rw [reading]; rfl, fun idle => ?_⟩
  cases held : vget o.bufs b with
  | reading ch g d => rw [held] at idle; cases idle
  | free => rfl
  | unfolded ch g bs => rfl
  | ready ch g bs k => rfl

/-! ## The two timers (R91, R104) -/

theorem onOutTimer_of_due {c : CtxNo} {o : OutCtx} {s : State} (bound : s.ctx c = .out o) (due : s.running = true ∧ ∃ d, o.timer = some d ∧ d ≤ s.now)
    (act : OutCtx → State → State) : onOutTimer c o.state act s = act o s := by
  rw [onOutTimer, bound]
  exact if_pos (by rw [due.1, (expired_iff ..).mpr due.2]; simp)

theorem onOutTimer_of_not_due {c : CtxNo} {o : OutCtx} {s : State} {st : OutState} (bound : s.ctx c = .out o)
    (early : ¬ ((s.running = true ∧ ∃ d, o.timer = some d ∧ d ≤ s.now) ∧ o.state = st)) (act : OutCtx → State → State) :
    onOutTimer c st act s = s := by
  rw [onOutTimer, bound]
  refine if_neg fun acts => early ?_
  simp only [Bool.and_eq_true, beq_iff_eq, expired_iff] at acts
  obtain ⟨⟨running, state⟩, passed⟩ := acts
  exact ⟨⟨running, passed⟩, state⟩

theorem exec_replyTimerExpiry (c : CtxNo) (s : State) : exec (.replyTimerExpiry c) s =
    .next (onOutTimer c .offering (fun o t => countRetry c o.key o.dest (resendOffer c o) t) s) := rfl

theorem exec_stallTimerExpiry (c : CtxNo) (s : State) : exec (.stallTimerExpiry c) s =
    .next (onOutTimer c .sending (fun o t => countRetry c o.key o.dest (setCtx c (.out o.goBack)) t) s) := rfl

/-- R89, R91, R104: a counted retry whose context, below the limit, goes on. -/
theorem countRetry_continues {c : CtxNo} {o : OutCtx} {r : Record} {s : State} (bound : s.ctx c = .out o) (found : s.table.find o.key = some r)
    (opened : r.state = .opened) {move : State → State} {goesOn : Nat → State → Prop}
    (moves : let n := (vget r.slots o.dest).retries + 1
      let u := countedState o.key o.dest n s
      KeepsAllBut [.contexts, .port] u (move u) ∧ goesOn n (move u)) :
    let t := countRetry c o.key o.dest move s
    KeepsAllBut [.backlog, .table, .contexts, .port, .engine] s t ∧ (OtherRecords o.key s t ∧ TableRestKept s t) ∧
      RetryCounted c o r s t (fun n => goesOn n t) := by
  intro t
  by_cases limit : s.setting 2 ≤ (vget r.slots o.dest).retries + 1
  · obtain ⟨kept, others, rest, fails, ended, sched⟩ := retryLimit_effect bound found opened
    rw [show t = _ from countRetry_of_limit found limit c _]
    exact ⟨kept, ⟨others, rest⟩, fun below => absurd limit below.not_ge, fun _ => ⟨fails, ended, sched⟩⟩
  · obtain ⟨keptCount, othersCount, restCount, -⟩ := countedState_effect o.key o.dest ((vget r.slots o.dest).retries + 1) s
    obtain ⟨keptMove, goes⟩ := moves
    have table := keptMove .table (by decide)
    have backlog := keptMove .backlog (by decide)
    rw [show t = _ from countRetry_of_below found (Nat.not_le.mp limit) c _]
    exact ⟨keptCount.trans keptMove (by decide) (by decide), ⟨othersCount.after table, restCount.after table backlog⟩, fun _ => goes,
      fun reached => absurd reached limit⟩

theorem resendOffer_of_found {c : CtxNo} {o : OutCtx} {r : Record} {u : State} (found : u.table.find o.key = some r) :
    resendOffer c o u = sendCtl o.dest (offerBody r) (setCtx c (.out { o with timer := some (u.now + u.settingTime 1) }) u) := by
  rw [resendOffer, found]

/-- R91: the OFFER is sent again. -/
theorem replyTimer_effect {c : CtxNo} {o : OutCtx} {r : Record} {s : State} (bound : s.ctx c = .out o) (found : s.table.find o.key = some r)
    (opened : r.state = .opened) :
    let t := countRetry c o.key o.dest (resendOffer c o) s
    KeepsAllBut [.backlog, .table, .contexts, .port, .engine] s t ∧ (OtherRecords o.key s t ∧ TableRestKept s t) ∧
      RetryCounted c o r s t (fun n => t.backlog = s.backlog ∧ t.hme = s.hme ∧
        t.table.find o.key = some (r.withSlot o.dest { vget r.slots o.dest with retries := n }) ∧
        t.ctx c = .out { o with timer := some (s.now + s.settingTime 1) } ∧ OtherContexts c s t ∧
        FrameSent o.dest (.offer o.key r.version r.kind r.size r.contentTag) s t ∧ t.wan.holder = s.wan.holder) := by
  refine countRetry_continues bound found opened (goesOn := fun n t => t.backlog = s.backlog ∧ t.hme = s.hme ∧
    t.table.find o.key = some (r.withSlot o.dest { vget r.slots o.dest with retries := n }) ∧
    t.ctx c = .out { o with timer := some (s.now + s.settingTime 1) } ∧ OtherContexts c s t ∧
    FrameSent o.dest (.offer o.key r.version r.kind r.size r.contentTag) s t ∧ t.wan.holder = s.wan.holder) ?_
  intro n u
  have counted := find_countedState found o.dest n
  rw [resendOffer_of_found counted, show offerBody (r.withSlot o.dest _) = offerBody r from rfl]
  let w := setCtx c (.out { o with timer := some (u.now + u.settingTime 1) }) u
  have pool : (sendCtl o.dest (offerBody r) w).pool = w.pool := by simp
  refine ⟨keepsAllBut_iff.mpr (by simp [u]), by simp [countedState], by simp [countedState], ?_, ?_, ?_,
    ?_, by simp [countedState]⟩
  · rw [show (sendCtl o.dest _ w).table = u.table by simp [w]]
    exact counted
  · exact (ctx_congr pool c).trans (ctx_setCtx_self ..)
  · exact fun d hd => (ctx_congr pool d).trans (setCtx_otherContexts c _ u d hd)
  · have sent := (sendCtl_frameSent o.dest (offerBody r) w).before (s := s) rfl rfl rfl
    have body : offerBody r = .offer o.key r.version r.kind r.size r.contentTag := by rw [offerBody, (Table.find_some found).2]
    exact body ▸ sent

/-- R104: the context goes back to its acknowledged count. -/
theorem stallTimer_effect {c : CtxNo} {o : OutCtx} {r : Record} {s : State} (bound : s.ctx c = .out o) (found : s.table.find o.key = some r)
    (opened : r.state = .opened) :
    let t := countRetry c o.key o.dest (setCtx c (.out o.goBack)) s
    KeepsAllBut [.backlog, .table, .contexts, .port, .engine] s t ∧ (OtherRecords o.key s t ∧ TableRestKept s t) ∧
      RetryCounted c o r s t (fun n => t.backlog = s.backlog ∧ t.hme = s.hme ∧ t.wan = s.wan ∧
        t.table.find o.key = some (r.withSlot o.dest { vget r.slots o.dest with retries := n }) ∧ OtherContexts c s t ∧ t.ctx c = .out o.goBack) := by
  refine countRetry_continues bound found opened (goesOn := fun n t => t.backlog = s.backlog ∧ t.hme = s.hme ∧ t.wan = s.wan ∧
    t.table.find o.key = some (r.withSlot o.dest { vget r.slots o.dest with retries := n }) ∧ OtherContexts c s t ∧ t.ctx c = .out o.goBack) ?_
  intro n u
  exact ⟨keepsAllBut_iff.mpr (by simp), rfl, rfl, rfl, find_countedState found o.dest n, setCtx_otherContexts c _ u, ctx_setCtx_self ..⟩

/-- Settles O45. -/
theorem acksAndTimersMoveTheTransfer : Obligations.AcksAndTimersMoveTheTransfer := by
  refine ⟨fun c o r ack s serves admitted => ?_, fun c o s bound => ?_⟩
  · intro x e taken
    rw [exec_ack admitted, ackFrame, onOutbound_of_serves serves]
    have takes : (o.state == .sending && decide (o.acked < ack.toNat) && decide (ack.toNat ≤ o.next)) = true ↔ taken := by
      simp [taken, e, and_assoc]
    obtain ⟨-, bound, found, -, opened⟩ := serves
    refine ⟨fun no => by rw [if_neg (mt takes.mp no)], fun yes all => ?_, fun yes more => ?_⟩
    · rw [if_pos (takes.mpr yes), if_pos all]
      obtain ⟨kept, ended, joins, others, rest, record⟩ := endAndConfirm_effect bound found opened
      exact ⟨_, rfl, kept, ended, joins, others, rest, record⟩
    · rw [if_pos (takes.mpr yes), if_neg more]
      obtain ⟨kept, others, ctx, acked, next, state, key, version, dest, chunks, burst, order, timer, moved, stays⟩ :=
        ackTaken_effect (c := c) (s := s) yes.1 (s.sizeOf o.key) e
      exact ⟨_, _, rfl, kept, others, ctx, acked, next, state, key, version, dest, chunks, burst, order, timer, moved, stays,
        fun b => foldAll_ackTo_buf ..⟩
  · intro due frame counted
    rw [exec_replyTimerExpiry, exec_stallTimerExpiry]
    refine ⟨fun early => congrArg Host.Outcome.next (onOutTimer_of_not_due bound early _),
      fun early => congrArg Host.Outcome.next (onOutTimer_of_not_due bound early _), fun r acts found _ opened => ⟨fun offering => ?_, fun sending => ?_⟩⟩
    · rw [← offering, onOutTimer_of_due bound acts]
      exact ⟨_, rfl, replyTimer_effect bound found opened⟩
    · rw [← sending, onOutTimer_of_due bound acts]
      obtain ⟨kept, rest, retry, limit⟩ := stallTimer_effect bound found opened
      refine ⟨_, rfl, kept, rest, fun below => ?_, limit⟩
      obtain ⟨backlog, hme, wan, record, others, ctx⟩ := retry below
      exact ⟨backlog, hme, wan, record, others, _, ctx, rfl, fun b => goBack_buf o b⟩

end Sys2Proof.Machine
end

section
/-! PROOFS. The verdict of the host on an offer, and the end of the linger. -/

namespace Sys2Proof.Machine

/-! ## Settling a REMOTE record (R9, R121, R132) -/

theorem TableRestKept.of_alike {s u : State} (h : Alike s u) : TableRestKept s u := ⟨h.linger, h.pressure⟩

theorem keepsAllBut_withBacklog (b : Backlog) (s : State) : KeepsAllBut [.backlog] s (s.withBacklog b) := keepsAllBut_iff.mpr (by simp)

/-- The record once the inbound context has left it. -/
def Record.freedFrom (c : CtxNo) (r : Record) : Record := if r.inbound == some c then { r with inbound := none } else r

theorem freedFrom_key (c : CtxNo) (r : Record) : (r.freedFrom c).key = r.key := by
  unfold Record.freedFrom
  split <;> rfl

theorem freedFrom_dues (c : CtxNo) (r : Record) : (r.freedFrom c).dues = r.dues := by
  unfold Record.freedFrom
  split <;> rfl

theorem freedFrom_of_bound {c : CtxNo} {r : Record} (bound : r.inbound = some c) : r.freedFrom c = { r with inbound := none } :=
  if_pos (beq_iff_eq.mpr bound)

theorem releaseInbound_eq (c : CtxNo) (k : Key) (s : State) : releaseInbound c k s = setCtx c .free (modRec k (Record.freedFrom c) s) := rfl

theorem releaseInbound_effect {c : CtxNo} {k : Key} {r : Record} {s : State} (found : s.table.find k = some r) (bound : r.inbound = some c) :
    (releaseInbound c k s).table.find k = some { r with inbound := none } ∧ OtherRecords k s (releaseInbound c k s) ∧ Alike s (releaseInbound c k s) ∧
      KeepsAllBut [.table, .contexts] s (releaseInbound c k s) ∧ (releaseInbound c k s).ctx c = .free ∧ OtherContexts c s (releaseInbound c k s) := by
  rw [releaseInbound_eq]
  refine ⟨?_, modRec_otherRecords k _ s (freedFrom_key c), ?_, keepsAllBut_iff.mpr (by simp), ctx_setCtx_self .., setCtx_otherContexts c _ (modRec k _ s)⟩
  · rw [← freedFrom_of_bound bound]
    exact find_modRec_of_found found _ (freedFrom_key c)
  · exact (alike_modRec k _ s (freedFrom_key c) (freedFrom_dues c)).trans (.of_keeps (touched := [.contexts]) (keepsAllBut_iff.mpr (by simp)))

theorem settle_owedKept {k : Key} {r : Record} {s w : State} (alike : Alike s w) (found : w.table.find k = some r) (o : Settle) {t : State}
    (h : OwedKept k (settle k o w) t) : OwedKept k s t := by
  have settled := find_settle found o
  intro q hq
  obtain ⟨cancel, owed⟩ := h q hq
  refine ⟨cancel.trans ?_, fun p hp => ?_⟩
  · rw [← alike.owedCancel k, State.owedCancel, State.owedCancel, settled, found]
    rfl
  · obtain ⟨r', stands, same, -⟩ := alike.find hp
    cases found.symm.trans stands
    exact (owed _ settled).trans same

theorem sendCtl_roomKept (x : Region) (b : CtlBody) (s : State) : RoomKept s (sendCtl x b s) := .of_regions (by simp) (by simp) (by simp)

/-- R9, R10, R20: a REMOTE record settles, its region hears of it, and it is retired if it is due at once. -/
theorem remoteSettle_effect {k : Key} {r : Record} {s w : State} (found : w.table.find k = some r) (alike : Alike s w) (others : OtherRecords k s w)
    (room : RoomKept s w) (o : Settle) (y : Region) (body : CtlBody) :
    let t := pressureCheck (retireIfDue k (sendCtl y body (settle k o w)))
    KeepsAllBut [.backlog, .table, .port] w t ∧ OtherRecords k s t ∧ RemoteSettled r o s t ∧ FrameSent y body w t ∧
      ∃ es, PressureCompared (s.hasRoom 1) es s t ∧ t.backlog.entries = s.backlog.entries ++ es ∧ t.backlog.owedList = s.backlog.owedList ∧
        t.backlog.reservations = w.backlog.reservations := by
  intro t
  obtain ⟨-, key⟩ := Table.find_some found
  let v := settle k o w
  let u := sendCtl y body v
  have table : u.table = v.table := by simp [u]
  have backlog : u.backlog = w.backlog := by simp [u, v]
  have settled : u.table.find k = some (r.settledAs o w) := by rw [table]; exact find_settle found o
  obtain ⟨kept, othersU, -, stands, es, compared, entries, list, reservations⟩ := retireAndCompare_effect k u
  obtain ⟨standsU, owedU⟩ := stands _ settled
  have roomU : RoomKept s u := room.trans ((settle_roomKept k o w).trans (sendCtl_roomKept y body v))
  refine ⟨(keepsAllBut_iff.mpr (by simp [u, v]) : KeepsAllBut [.table, .port] w u).trans kept (by decide) (by decide), ?_, ⟨?_, ?_⟩, ?_, es, ?_, ?_, ?_, ?_⟩
  · exact others.trans ((settle_otherRecords k o w).trans (.trans (t := u) (fun q _ => by rw [table]) othersU))
  · have inV : StandsOrRetires True (r.settledAs o w) v t := standsU.before (by simp [u]) (by rw [table])
    exact (inV.of_settle key).before alike
  · rw [key]
    refine settle_owedKept alike found o ?_
    intro q hq
    obtain ⟨cancel, owed⟩ := owedU q hq
    rw [State.owedCancel, table] at cancel
    rw [table] at owed
    exact ⟨cancel, owed⟩
  · exact ((sendCtl_frameSent y body v).before rfl rfl rfl).after (congrArg Wan.queue (kept .port (by decide)))
  · rw [roomU.hasRoom (by rw [backlog]; exact alike.pressure.2.2) (by rw [backlog]; exact alike.list) (by rw [backlog]; exact alike.entries)] at compared
    exact compared.of_same Iff.rfl (by rw [table]; exact alike.pressure.1.symm) (by rw [table]; exact alike.pressure.2.1.symm)
      (by rw [backlog]; exact alike.pressure.2.2.symm) rfl rfl rfl
  · rw [entries, backlog, alike.entries]
  · rw [list, backlog, alike.list]
  · rw [reservations, backlog]

/-! ## The offer that the host answers (R119) -/

theorem offerCheck_of_stands {s : State} {k : Key} {v : Version} {r : Record} {c : CtxNo} (h : OfferStands s k v r c) : s.offerCheck k v = .ok (r, c) := by
  obtain ⟨found, role, version, state, bound⟩ := h
  rw [State.offerCheck, found]
  dsimp only
  rw [if_pos (by rw [role, version]; simp), state, bound]

theorem offerCheck_of_none {s : State} {k : Key} {v : Version} {status : Status} {body : CompBody} (h : NoOfferStands s k v status body) :
    s.offerCheck k v = .error status ∧ s.standing k = body := by
  rcases h with ⟨absent, rfl, rfl⟩ | ⟨r, found, rfl, ⟨role, version, state, rfl⟩ | ⟨other, rfl⟩⟩
  · rw [State.offerCheck, State.standing, absent]
    exact ⟨rfl, rfl⟩
  · rw [State.offerCheck, State.standing, found]
    dsimp only
    rw [if_pos (by rw [role, version]; simp), state]
    exact ⟨by cases r.inbound <;> rfl, rfl⟩
  · rw [State.offerCheck, State.standing, found]
    refine ⟨?_, rfl⟩
    dsimp only
    split
    · rename_i named
      simp only [Bool.and_eq_true, beq_iff_eq] at named
      obtain ⟨role, version⟩ := named
      split
      · rename_i state bound
        exact absurd ⟨role, version, .inr state⟩ other
      · rename_i inbound state
        exact absurd ⟨role, version, .inl state⟩ other
      · rfl
    · rfl

/-! ## DECLINE, COMMIT and REJECT (R121, R132) -/

theorem exec_commit (ring : ReqRing) (tag : Word) (k : Key) (v : Version) (s : State) :
    exec (.commit ring tag k v) s = .next (taking ring (takeVerdict .commit true ring tag k v) s) := rfl

theorem exec_reject (ring : ReqRing) (tag : Word) (k : Key) (v : Version) (s : State) :
    exec (.reject ring tag k v) s = .next (taking ring (takeVerdict .reject false ring tag k v) s) := rfl

theorem RemoteSettled.before {r : Record} {o : Settle} {s u t : State} (h : RemoteSettled r o u t) (alike : Alike s u) : RemoteSettled r o s t := by
  obtain ⟨settled, owed⟩ := h
  refine ⟨settled.before alike, fun q hq => ?_⟩
  obtain ⟨cancel, flag⟩ := owed q hq
  refine ⟨cancel.trans (alike.owedCancel _), fun p hp => ?_⟩
  obtain ⟨p', stands, same, -⟩ := alike.find hp
  exact (flag p' stands).trans same

theorem RemoteSettled.after {r : Record} {o : Settle} {s t v : State} (h : RemoteSettled r o s t) (table : v.table = t.table) (pool : v.pool = t.pool) :
    RemoteSettled r o s v := by
  obtain ⟨settled, owed⟩ := h
  refine ⟨settled.after_same (by rw [table]) (by rw [table]) pool, ?_⟩
  unfold OwedKept at owed ⊢
  rwa [table]

/-- What the statements say of a request that is taken and completes behind what the claim did. -/
theorem verdict_completes {ring : ReqRing} {tag : Word} {kind : ReqKind} {o : Settle} {s t : State} (ok : s.takeOk ring = true)
    (compared : ∃ es, PressureCompared ((reserve s).hasRoom 1) es (reserve s) t ∧ t.backlog.entries = (reserve s).backlog.entries ++ es ∧
      t.backlog.owedList = (reserve s).backlog.owedList ∧ t.backlog.reservations = (reserve s).backlog.reservations) :
    let u := answer ring tag kind .ok (.outcome o) t
    ∃ es, PressureCompared (s.roomOnceTaken 1) es s u ∧ u.backlog.reservations = s.backlog.reservations ∧ u.backlog.owedList = s.backlog.owedList ∧
      u.backlog.entries = s.backlog.entries ++ es ++
        waitingEntries [.completion { ring := ring, tag := tag, kind := kind.code, status := .ok, body := .outcome o }] := by
  obtain ⟨es, compared, entries, list, reservations⟩ := compared
  rw [hasRoom_reserve ok] at compared
  have follows := followed_complete ring tag kind.code .ok (.outcome o) t
  refine ⟨es, (compared.before (alike_reserve s)).followed follows, ?_, follows.list.trans list, ?_⟩
  · show t.backlog.reservations - 1 = _
    rw [reservations]
    exact Nat.add_sub_cancel ..
  · rw [show (reserve s).backlog.entries = s.backlog.entries from rfl] at entries
    rw [← entries]
    exact follows.entries

/-- R121: a DECLINE of an offer that stands. -/
theorem applyDecline_effect {ring : ReqRing} {tag : Word} {k : Key} {v : Version} {r : Record} {c : CtxNo} {s : State} (ok : s.takeOk ring = true)
    (stands : OfferStands s k v r c) (have_ : Bool) :
    let o : Settle := if have_ then .committed else .rejected
    let t := applyDecline ring tag k v have_ (reserve s)
    KeepsAllBut [.backlog, .table, .contexts, .port] s t ∧ OtherRecords k s t ∧ t.ctx c = .free ∧ OtherContexts c s t ∧
      RemoteSettled { r with inbound := none } o s t ∧
      FrameSent (regionOf v.origin) (.reply k v (if have_ then .haveVersion else .declined) 0 none) s t ∧
      ∃ es, PressureCompared (s.roomOnceTaken 1) es s t ∧ t.backlog.reservations = s.backlog.reservations ∧ t.backlog.owedList = s.backlog.owedList ∧
        t.backlog.entries = s.backlog.entries ++ es ++
          waitingEntries [.completion { ring := ring, tag := tag, kind := 0x06, status := .ok, body := .outcome o }] := by
  intro o t
  have standsTaken : OfferStands (reserve s) k v r c := stands
  obtain ⟨found, -, version, -, bound⟩ := standsTaken
  obtain ⟨record, others, alike, kept, free, contexts⟩ := releaseInbound_effect found bound
  let w := releaseInbound c k (reserve s)
  obtain ⟨keptSettle, othersSettle, settled, sent, compared⟩ := remoteSettle_effect record alike others (.of_keeps kept) o (regionOf v.origin)
    (.reply k v (if have_ then .haveVersion else .declined) 0 none)
  have eq : t = answer ring tag .decline .ok (.outcome o) (pressureCheck (retireIfDue k (sendCtl (regionOf v.origin)
      (.reply k v (if have_ then .haveVersion else .declined) 0 none) (settle k o w)))) := by
    show applyDecline ring tag k v have_ (reserve s) = _
    rw [applyDecline, offerCheck_of_stands (s := reserve s) stands]
    dsimp only
    rw [version]
    rfl
  have reserved : KeepsAllBut [.backlog] s (reserve s) := keepsAllBut_withBacklog _ s
  have answered := answer_keepsAllBut ring tag .decline .ok (.outcome o)
    (pressureCheck (retireIfDue k (sendCtl (regionOf v.origin) (.reply k v (if have_ then .haveVersion else .declined) 0 none) (settle k o w))))
  have keptEnd := keptSettle.trans (zs := [.backlog, .table, .port]) answered (by decide) (by decide)
  have keptTaken : KeepsAllBut [.backlog, .table, .contexts] s w := reserved.trans kept (by decide) (by decide)
  rw [eq]
  have pool := keptEnd .contexts (by decide)
  refine ⟨reserved.trans (kept.trans (zs := [.backlog, .table, .contexts, .port]) keptEnd (by decide) (by decide)) (by decide) (by decide),
    fun q hq => (congrArg (Table.find · q) (answered .table (by decide))).trans (othersSettle q hq),
    (ctx_congr pool c).trans free, fun d hd => (ctx_congr pool d).trans (contexts d hd), ?_, ?_, verdict_completes ok ?_⟩
  · exact (settled.before (alike_reserve s)).after (answered .table (by decide)) (answered .contexts (by decide))
  · have port : w.wan = s.wan := keptTaken .port (by decide)
    exact (sent.before (keptTaken .regions (by decide)) (congrArg Wan.carrier port) (congrArg Wan.queue port)).after
      (congrArg Wan.queue (answered .port (by decide)))
  · exact compared

/-- R132: a verdict on a landed record. -/
theorem takeVerdict_effect {ring : ReqRing} {tag : Word} {k : Key} {v : Version} {r : Record} {s : State} (ok : s.takeOk ring = true)
    (found : s.table.find k = some r) (role : r.role = .remoteRole) (version : r.version = v) (landed : r.state = .landed) (kind : ReqKind)
    (committed : Bool) :
    let o : Settle := if committed then .committed else .rejected
    let t := takeVerdict kind committed ring tag k v (reserve s)
    KeepsAllBut [.backlog, .table, .port] s t ∧ OtherRecords k s t ∧ RemoteSettled r o s t ∧ FrameSent (regionOf v.origin) (.confirm k v committed) s t ∧
      ∃ es, PressureCompared (s.roomOnceTaken 1) es s t ∧ t.backlog.reservations = s.backlog.reservations ∧ t.backlog.owedList = s.backlog.owedList ∧
        t.backlog.entries = s.backlog.entries ++ es ++
          waitingEntries [.completion { ring := ring, tag := tag, kind := kind.code, status := .ok, body := .outcome o }] := by
  intro o t
  have foundTaken : (reserve s).table.find k = some r := found
  obtain ⟨kept, others, settled, sent, compared⟩ := remoteSettle_effect foundTaken (.refl _) (.refl k _) (.refl _) o (regionOf v.origin) (.confirm k v committed)
  have eq : t = answer ring tag kind .ok (.outcome o)
      (pressureCheck (retireIfDue k (sendCtl (regionOf v.origin) (.confirm k v committed) (settle k o (reserve s))))) := by
    show takeVerdict kind committed ring tag k v (reserve s) = _
    rw [takeVerdict, foundTaken]
    dsimp only
    rw [if_pos (by rw [role, version, landed]; simp), version]
  have reserved : KeepsAllBut [.backlog] s (reserve s) := keepsAllBut_withBacklog _ s
  have answered := answer_keepsAllBut ring tag kind .ok (.outcome o)
    (pressureCheck (retireIfDue k (sendCtl (regionOf v.origin) (.confirm k v committed) (settle k o (reserve s)))))
  have port : (reserve s).wan = s.wan := reserved .port (by decide)
  rw [eq]
  refine ⟨?_, fun q hq => ?_, (settled.before (alike_reserve s)).after (answered .table (by decide)) (answered .contexts (by decide)), ?_,
    verdict_completes ok compared⟩
  · exact (reserved.trans (zs := [.backlog, .table, .port]) kept (by decide) (by decide)).trans answered (by decide) (by decide)
  · exact (congrArg (Table.find · q) (answered .table (by decide))).trans (others q hq)
  · exact (sent.before (reserved .regions (by decide)) (congrArg Wan.carrier port) (congrArg Wan.queue port)).after
      (congrArg Wan.queue (answered .port (by decide)))

/-- R132: a verdict without a landed record. -/
theorem takeVerdict_of_not_landed {ring : ReqRing} {tag : Word} {k : Key} {v : Version} {body : CompBody} {s : State}
    (none : (s.table.find k = none ∧ body = .plain) ∨
      ∃ r, s.table.find k = some r ∧ ¬ (r.role = .remoteRole ∧ r.version = v ∧ r.state = .landed) ∧ body = .versionState r.version r.state)
    (kind : ReqKind) (committed : Bool) : takeVerdict kind committed ring tag k v s = answer ring tag kind .notLanded body s := by
  rcases none with ⟨absent, rfl⟩ | ⟨r, found, other, rfl⟩
  · rw [takeVerdict, State.standing, absent]
  · rw [takeVerdict, State.standing, found]
    dsimp only
    rw [if_neg (by simpa [and_assoc] using other)]

/-! ## The end of the linger (R10) -/

theorem exec_lingerExpiry {s : State} (running : s.running = true) (k : Key) : exec (.lingerExpiry k) s = .next (pressureCheck (retireIfDue k s)) :=
  congrArg Host.Outcome.next (if_pos running)

/-- Settles O49. -/
theorem theVerdictSettlesAndLingerExpiryRetires : Obligations.TheVerdictSettlesAndLingerExpiryRetires := by
  refine ⟨fun ring tag k v s ok => ?_, fun k r s running found => ?_⟩
  · intro completes
    have decline : ∀ reason, exec (.decline ring tag k v reason) s = .next (takeDecline ring tag k v reason (reserve s)) := fun reason => by
      rw [exec_decline, taking_of_takeOk ok]
    refine ⟨fun status body none reason mem => ?_, fun r c stands => ⟨?_, ?_⟩, fun body none => ⟨?_, ?_⟩, fun r found role version landed => ⟨?_, ?_⟩⟩
    · have noneTaken : NoOfferStands (reserve s) k v status body := none
      obtain ⟨refused, standing⟩ := offerCheck_of_none noneTaken
      have declines : ∀ b, applyDecline ring tag k v b (reserve s) = s.answered ring tag 0x06 status body := fun b => by
        rw [applyDecline, refused, standing]
        exact complete_reserve ring tag 0x06 status body s
      simp only [List.mem_cons, List.not_mem_nil, or_false] at mem
      rcases mem with rfl | rfl
      · rw [decline, takeDecline, if_pos rfl, declines]
      · rw [decline, takeDecline, if_neg (by decide), if_pos rfl, declines]
    · rw [decline, takeDecline, if_pos rfl]
      exact ⟨_, rfl, applyDecline_effect ok stands true⟩
    · rw [decline, takeDecline, if_neg (by decide), if_pos rfl]
      exact ⟨_, rfl, applyDecline_effect ok stands false⟩
    · rw [exec_commit, taking_of_takeOk ok, takeVerdict_of_not_landed (s := reserve s) none]
      exact congrArg Host.Outcome.next (complete_reserve ring tag 0x07 .notLanded body s)
    · rw [exec_reject, taking_of_takeOk ok, takeVerdict_of_not_landed (s := reserve s) none]
      exact congrArg Host.Outcome.next (complete_reserve ring tag 0x08 .notLanded body s)
    · rw [exec_commit, taking_of_takeOk ok]
      exact ⟨_, rfl, takeVerdict_effect ok found role version landed .commit true⟩
    · rw [exec_reject, taking_of_takeOk ok]
      exact ⟨_, rfl, takeVerdict_effect ok found role version landed .reject false⟩
  · intro retirable
    obtain ⟨kept, others, -, -, es, compared, entries, list, reservations⟩ := retireAndCompare_effect k s
    obtain ⟨records, linger⟩ := pressureCheck_table (retireIfDue k s)
    have due : DueAt s r ↔ retirable := by
      rw [DueAt, (Table.find_some found).2]
      exact ⟨fun ⟨settled, passed, owed, free⟩ => ⟨passed, settled, owed, free⟩, fun ⟨passed, settled, owed, free⟩ => ⟨settled, passed, owed, free⟩⟩
    rw [exec_lingerExpiry running]
    refine ⟨_, es, rfl, kept, compared, entries, list, reservations, others, fun yes => ⟨?_, ?_⟩, fun no => ?_⟩
    · rw [find_pressureCheck, retireIfDue_of_due found (due.mpr yes), find_retire_self]
    · rw [linger, retireIfDue_of_due found (due.mpr yes)]
      rfl
    · rw [records, linger, retireIfDue_of_not_due found (mt due.mp no)]
      exact ⟨rfl, rfl⟩

end Sys2Proof.Machine
end

section
/-! PROOFS. ACCEPT and its landing table. -/

namespace Sys2Proof.Machine

/-! ## Extent tables (R48) -/

theorem extentFault_of_fits {e : Extent} (some_ : e.len ≠ 0) (fits : e.addr.toNat + e.len.toNat ≤ 2 ^ 64) : extentFault e = none := by
  rw [extentFault, if_neg some_, if_neg fits.not_gt]

theorem extentFault_of_fault {e : Extent} {d : ExtentDetail}
    (h : (d = .zeroLength ∧ e.len = 0) ∨ (d = .wrap ∧ e.len ≠ 0 ∧ 2 ^ 64 < e.addr.toNat + e.len.toNat)) : extentFault e = some d := by
  rcases h with ⟨rfl, empty⟩ | ⟨rfl, some_, wraps⟩
  · rw [extentFault, if_pos empty]
  · rw [extentFault, if_neg some_, if_pos wraps]

/-- The first element of a numbered list with a finding. -/
theorem findSome?_zipIdx_eq_some {α β : Type} {f : α → Option β} {xs : List α} {b : β} {i n : Nat} {x : α} (here : xs[i]? = some x) (finding : f x = some b)
    (before : ∀ j y, j < i → xs[j]? = some y → f y = none) : ((xs.zipIdx n).findSome? fun x => (f x.1).map fun d => (d, x.2)) = some (b, n + i) := by
  induction xs generalizing i n with
  | nil => simp at here
  | cons y ys ih =>
    cases i with
    | zero =>
      obtain rfl : y = x := by simpa using here
      simp [finding]
    | succ i =>
      have none := before 0 y (Nat.succ_pos i) rfl
      have rest := ih (i := i) (n := n + 1) (by simpa using here) fun j z hj hz => before (j + 1) z (by omega) (by simpa using hz)
      simp only [List.zipIdx_cons, List.findSome?_cons, none, Option.map_none, rest]
      congr 2
      omega

theorem findSome?_zipIdx_eq_none {α β : Type} {f : α → Option β} {xs : List α} {n : Nat} (none : ∀ x ∈ xs, f x = none) :
    ((xs.zipIdx n).findSome? fun x => (f x.1).map fun d => (d, x.2)) = Option.none := by
  rw [List.findSome?_eq_none_iff]
  intro x hx
  rw [none x.1 (List.fst_mem_of_mem_zipIdx hx), Option.map_none]

theorem tableFault_of_fails {xs : List Extent} {size : Nat} {d : ExtentDetail} {i : Nat} (h : TableFails xs size d i) : tableFault xs size = some (d, i) := by
  unfold tableFault
  rcases h with ⟨e, here, before, fault⟩ | ⟨fits, rfl, rfl, sum⟩
  · rw [findSome?_zipIdx_eq_some here (extentFault_of_fault fault) fun j f hj hf => extentFault_of_fits (before j f hj hf).1 (before j f hj hf).2,
      Nat.zero_add]
  · rw [findSome?_zipIdx_eq_none fun e he => extentFault_of_fits (fits e he).1 (fits e he).2]
    exact if_pos sum

theorem tableFault_of_good {xs : List Extent} {size : Nat} (h : TableGood xs size) : tableFault xs size = none := by
  obtain ⟨fits, sum⟩ := h
  rw [tableFault, findSome?_zipIdx_eq_none fun e he => extentFault_of_fits (fits e he).1 (fits e he).2]
  exact if_neg fun differs => differs sum

theorem readExtents_eq (op : Op) : readExtents op = extentsOf (op.data.length / 16) op.data := rfl

/-! ## What an ACCEPT that passes does (R120) -/

theorem modIn_of_bound {c : CtxNo} {i : InCtx} {s : State} (bound : s.ctx c = .inb i) (f : InCtx → InCtx) : modIn c f s = setCtx c (.inb (f i)) s := by
  rw [modIn, bound]

theorem applyAccept_receiving {r : Record} {c : CtxNo} {i : InCtx} {xs : List Extent} {w : State} (found : w.table.find r.key = some r)
    (bound : w.ctx c = .inb i) (size : 0 < r.size) :
    let t := (applyAccept r c xs w).1
    (applyAccept r c xs w).2 = .receiving ∧ KeepsAllBut [.table, .contexts, .port] w t ∧ AcceptApplied r c i xs w t := by
  intro t
  have eq : applyAccept r c xs w = (sendCtl (regionOf r.version.origin) (replyBody r.key r.version .accepted)
      (modRec r.key (fun r => { r with state := .receiving }) (setCtx c (.inb (i.accepted xs (w.now + w.settingTime 4))) w)), .receiving) := by
    rw [applyAccept, if_neg size.ne', modIn_of_bound bound]
  let u := setCtx c (.inb (i.accepted xs (w.now + w.settingTime 4))) w
  let v := modRec r.key (fun r => { r with state := .receiving }) u
  have t_eq : t = sendCtl (regionOf r.version.origin) (replyBody r.key r.version .accepted) v := congrArg Prod.fst eq
  have table : t.table = v.table := by rw [t_eq]; simp
  have pool : t.pool = u.pool := by rw [t_eq]; simp [v]
  have backlog : t.backlog = w.backlog := by rw [t_eq]; simp [v, u]
  refine ⟨congrArg Prod.snd eq, by rw [t_eq]; exact keepsAllBut_iff.mpr (by simp [v, u]), ?_, ?_, ?_, ⟨?_, ?_, ?_, ?_⟩, fun _ => ⟨?_, ?_⟩, fun none => ?_⟩
  · exact (modRec_otherRecords r.key _ u).after table
  · exact fun d hd => (ctx_congr pool d).trans (setCtx_otherContexts c _ w d hd)
  · rw [t_eq]
    exact (sendCtl_frameSent _ _ v).before rfl rfl rfl
  · rw [table]
    rfl
  · rw [table]
    rfl
  · rw [table]
    rfl
  · rw [backlog]
  · rw [table]
    exact find_modRec_of_found (s := u) found _
  · exact (ctx_congr pool c).trans (ctx_setCtx_self ..)
  · exact absurd none size.ne'

theorem applyAccept_landed {r : Record} {c : CtxNo} {xs : List Extent} {w : State} (found : w.table.find r.key = some r)
    (bound : r.inbound = some c) (i : InCtx) (size : r.size = 0) :
    let t := (applyAccept r c xs w).1
    (applyAccept r c xs w).2 = .landed ∧ KeepsAllBut [.backlog, .table, .contexts, .port] w t ∧ AcceptApplied r c i xs w t ∧
      RecordNotices w.hasRoom r.key [.landed r.key r.version r.kind r.size] [] w t ∧ t.backlog.reservations = w.backlog.reservations := by
  intro t
  obtain ⟨record, others, alike, kept, free, contexts⟩ := releaseInbound_effect found bound
  have eq : applyAccept r c xs w = (sendCtl (regionOf r.version.origin) (replyBody r.key r.version .accepted)
      (emitRecord r.key (landedNotice r) (modRec r.key (fun r => { r with state := .landed }) (releaseInbound c r.key w))), .landed) := by
    rw [applyAccept, if_pos size]
  let u := modRec r.key (fun r => { r with state := .landed }) (releaseInbound c r.key w)
  let v := emitRecord r.key (landedNotice r) u
  have t_eq : t = sendCtl (regionOf r.version.origin) (replyBody r.key r.version .accepted) v := congrArg Prod.fst eq
  have landed : u.table.find r.key = some { r with state := .landed, inbound := none } := find_modRec_of_found record _
  have alikeU : Alike w u := alike.trans (alike_modRec ..)
  have othersU : OtherRecords r.key w u := others.trans (modRec_otherRecords r.key _ (releaseInbound c r.key w))
  have roomU : RoomKept w u := (RoomKept.of_keeps kept).trans (.of_regions rfl rfl rfl)
  have restV : TableRestKept u v := ⟨emitRecord_linger .., emitRecord_pressure landed _⟩
  have table : t.table = v.table := by rw [t_eq]; simp
  have backlog : t.backlog = v.backlog := by rw [t_eq]; simp
  have pool : t.pool = (releaseInbound c r.key w).pool := by rw [t_eq]; simp [v, u]
  have given : RecordNotices u.hasRoom r.key [landedNotice r] [] u v := (RecordNotices.none r.key u).emit (.refl u) landed (landedNotice r)
  rw [alikeU.hasRoom roomU] at given
  refine ⟨congrArg Prod.snd eq, ?_, ⟨?_, ?_, ?_, ?_, fun some => absurd size some.ne', fun _ => ⟨?_, ?_⟩⟩, ?_, ?_⟩
  · rw [t_eq]
    exact kept.trans (ys := [.backlog, .table, .port]) (keepsAllBut_iff.mpr (by simp [v, u])) (by decide) (by decide)
  · exact (othersU.trans (emitRecord_otherRecords r.key _ u)).after table
  · exact fun d hd => (ctx_congr pool d).trans (contexts d hd)
  · rw [t_eq]
    have port : v.wan = w.wan := by simp [v, u]
    exact (sendCtl_frameSent _ _ v).before (by simp [v, u]) (congrArg Wan.carrier port) (congrArg Wan.queue port)
  · exact ((TableRestKept.of_alike alikeU).trans restV).after table backlog
  · obtain ⟨q, stands, body, -⟩ := emitRecord_record landed (landedNotice r)
    rw [table]
    exact ⟨q, stands, body⟩
  · exact (ctx_congr pool c).trans free
  · have before := given.before alikeU
    unfold RecordNotices NoticesGiven OwedKept PressureKept at before ⊢
    rwa [table, backlog]
  · rw [backlog]
    exact (emitRecord_roomKept ..).reservations.trans roomU.reservations

/-! ## The checks of an ACCEPT (R119) -/

theorem decideAccept_of_refused {ring : ReqRing} {q : AcceptReq} {xs : List Extent} {status : Status} {body : CompBody} {s : State}
    (h : AcceptRefused s q xs status body) : decideAccept ring q xs s = answer ring q.tag .accept status body s := by
  unfold decideAccept
  rcases h with none | ⟨r, c, stands, rfl, bad⟩
  · obtain ⟨refused, standing⟩ := offerCheck_of_none none
    rw [refused, standing]
  · rw [offerCheck_of_stands stands]
    dsimp only
    unfold landingFault
    rcases bad with ⟨many, rfl⟩ | ⟨few, d, i, fails, rfl⟩
    · rw [if_pos (by exact many)]
    · rw [if_neg (by exact few.not_gt), tableFault_of_fails fails]

theorem decideAccept_of_passes {ring : ReqRing} {q : AcceptReq} {xs : List Extent} {r : Record} {c : CtxNo} {s : State} (h : AcceptPasses s q xs r c) :
    decideAccept ring q xs s = answer ring q.tag .accept .ok (.versionState r.version (applyAccept r c xs s).2) (applyAccept r c xs s).1 := by
  obtain ⟨stands, few, good⟩ := h
  rw [decideAccept, offerCheck_of_stands stands]
  dsimp only
  rw [landingFault, if_neg (by exact few.not_gt), tableFault_of_good good]

theorem AcceptApplied.before {r : Record} {c : CtxNo} {i : InCtx} {xs : List Extent} {s u t : State} (h : AcceptApplied r c i xs u t) (alike : Alike s u)
    (table : u.table = s.table) (pool : u.pool = s.pool) (regions : u.regions = s.regions) (wan : u.wan = s.wan) : AcceptApplied r c i xs s t := by
  obtain ⟨others, contexts, sent, rest, receiving, landed⟩ := h
  rw [alike.now, alike.setting] at receiving
  exact ⟨fun q hq => (others q hq).trans (by rw [table]), fun d hd => (contexts d hd).trans (ctx_congr pool d), sent.before regions (by rw [wan]) (by rw [wan]),
    (TableRestKept.of_alike alike).trans rest, receiving, landed⟩

theorem AcceptApplied.after {r : Record} {c : CtxNo} {i : InCtx} {xs : List Extent} {s t v : State} (h : AcceptApplied r c i xs s t) (table : v.table = t.table)
    (pool : v.pool = t.pool) (owed : v.backlog.owedPressure = t.backlog.owedPressure) (wan : v.wan = t.wan) : AcceptApplied r c i xs s v := by
  obtain ⟨others, contexts, sent, rest, receiving, landed⟩ := h
  refine ⟨others.after table, fun d hd => (ctx_congr pool d).trans (contexts d hd), sent.after (by rw [wan]), ?_, fun some => ?_, fun none => ?_⟩
  · unfold TableRestKept PressureKept at rest ⊢
    rwa [table, owed]
  · rw [table, ctx_congr pool c]
    exact receiving some
  · rw [table, ctx_congr pool c]
    exact landed none

theorem exec_accept (ring : ReqRing) (q : AcceptReq) (s : State) : exec (.accept ring q) s = .next (taking ring (takeAccept ring q) s) := rfl

theorem exec_landingTableReadDone (id : Nat) (s : State) : exec (.landingTableReadDone id) s =
    .next (onAccept id Op.succeeded (fun a o => decideAccept a.ring a.req (readExtents o)) s) := rfl

theorem exec_landingTableReadFail (id : Nat) (s : State) : exec (.landingTableReadFail id) s =
    .next (onAccept id Op.failed (fun a o => answer a.ring a.req.tag .accept .hostMemoryError (.memory 0 o.failedAt)) s) := rfl

theorem onAccept_of_found {id : Nat} {p : Op → Bool} {op : Op} {a : PendingAccept} {s : State} (found : s.hme.find (.landing id) p = some op)
    (pending : (s.reqs.accepts.find? fun a => a.id == id) = some a) (running : s.running = true) (work : PendingAccept → Op → State → State) :
    onAccept id p work s = work a op ((dropOp op.id s).withReqs { s.reqs with accepts := s.reqs.accepts.filter fun b => b.id != id }) := by
  rw [onAccept, found, pending]
  exact if_pos running

/-- Settles O48. -/
theorem acceptIsDecidedOnTheRecord : Obligations.AcceptIsDecidedOnTheRecord := by
  refine ⟨fun ring q s ok => ?_, fun id a op s running pending => ?_⟩
  · intro count
    rw [exec_accept, taking_of_takeOk ok, takeAccept]
    refine ⟨fun low high => ?_, fun outside => ?_⟩
    · rw [if_pos ⟨low, high⟩]
      obtain ⟨kept, added⟩ := addRead_adds (.landing s.reqs.nextId) q.table (16 * count)
        ((reserve s).withReqs { s.reqs with nextId := s.reqs.nextId + 1, accepts := s.reqs.accepts ++ [{ id := s.reqs.nextId, ring := ring, req := q }] })
      exact ⟨_, rfl, (keepsAllBut_iff.mpr (by simp [reserve])), rfl, rfl, added⟩
    · rw [if_neg (show ¬ (1 ≤ q.extentCount.toNat ∧ q.extentCount.toNat ≤ Config.maxExtents) from fun inside => by
        have high : count ≤ 16 := inside.2
        have low : 1 ≤ count := inside.1
        omega)]
      refine ⟨fun status body refused => ?_, fun r c i passes bound => ?_⟩
      · have refusedTaken : AcceptRefused (reserve s) q [] status body := refused
        rw [decideAccept_of_refused refusedTaken]
        exact congrArg Host.Outcome.next (complete_reserve ring q.tag 0x05 status body s)
      · intro done
        have passesTaken : AcceptPasses (reserve s) q [] r c := passes
        have ⟨⟨found, _, _, _, inbound⟩, _, _, sum⟩ := passesTaken
        obtain ⟨-, key⟩ := Table.find_some found
        rw [← key] at found
        obtain ⟨state, kept, applied, notices, -⟩ := applyAccept_landed (xs := []) found inbound i sum.symm
        rw [decideAccept_of_passes passesTaken, state]
        have answered := answer_keepsAllBut ring q.tag .accept .ok (.versionState r.version .landed) (applyAccept r c [] (reserve s)).1
        have reserved : KeepsAllBut [.backlog] s (reserve s) := keepsAllBut_withBacklog _ s
        refine ⟨_, rfl, (reserved.trans (zs := [.backlog, .table, .contexts, .port]) kept (by decide) (by decide)).trans answered (by decide) (by decide), ?_, ?_⟩
        · exact (applied.before (alike_reserve s) rfl rfl rfl rfl).after (answered .table (by decide)) (answered .contexts (by decide)) rfl
            (answered .port (by decide))
        · rw [hasRoom_reserve ok] at notices
          exact (notices.before (alike_reserve s)).followed (followed_complete ..)
  · intro reqs xs
    let w := (dropOp op.id s).withReqs reqs
    have keptW : KeepsAllBut [.requests, .engine] s w := keepsAllBut_iff.mpr (by simp [w])
    refine ⟨fun found => ⟨fun status body refused => ?_, fun r c i passes bound => ?_⟩, fun found kind addr failure => ?_⟩
    · have refusedW : AcceptRefused w a.req xs status body := refused
      rw [exec_landingTableReadDone, onAccept_of_found found pending running, readExtents_eq, decideAccept_of_refused refusedW]
      exact ⟨_, rfl, keptW.trans (answer_keepsAllBut _ _ _ _ _ _) (by decide) (by decide), rfl, rfl, rfl⟩
    · intro done
      have passesW : AcceptPasses w a.req xs r c := passes
      have ⟨⟨standing, _, _, _, inbound⟩, _⟩ := passesW
      obtain ⟨-, key⟩ := Table.find_some standing
      rw [← key] at standing
      rw [exec_landingTableReadDone, onAccept_of_found found pending running, readExtents_eq, decideAccept_of_passes passesW]
      have alikeW : Alike s w := .of_keeps keptW
      rcases Nat.eq_zero_or_pos r.size with size | size
      · obtain ⟨state, kept, applied, notices, -⟩ := applyAccept_landed (xs := xs) standing inbound i size
        have answered := answer_keepsAllBut a.ring a.req.tag .accept .ok (.versionState r.version .landed) (applyAccept r c xs w).1
        rw [state]
        refine ⟨_, rfl, (keptW.trans (zs := [.backlog, .requests, .engine, .table, .contexts, .port]) kept (by decide) (by decide)).trans answered
          (by decide) (by decide), kept .engine (by decide), kept .requests (by decide), ?_, fun some => absurd size some.ne', fun _ => ?_⟩
        · exact (applied.before alikeW rfl rfl rfl rfl).after (answered .table (by decide)) (answered .contexts (by decide)) rfl (answered .port (by decide))
        · rw [alikeW.hasRoom (.of_keeps keptW)] at notices
          exact (notices.before alikeW).followed (followed_complete ..)
      · obtain ⟨state, kept, applied⟩ := applyAccept_receiving (xs := xs) standing (show w.ctx c = .inb i from bound) size
        have answered := answer_keepsAllBut a.ring a.req.tag .accept .ok (.versionState r.version .receiving) (applyAccept r c xs w).1
        have backlog : (applyAccept r c xs w).1.backlog = s.backlog := kept .backlog (by decide)
        rw [state]
        refine ⟨_, rfl, (keptW.trans (zs := [.backlog, .requests, .engine, .table, .contexts, .port]) kept (by decide) (by decide)).trans answered
          (by decide) (by decide), kept .engine (by decide), kept .requests (by decide), ?_, fun _ => ?_, fun none => absurd none size.ne'⟩
        · exact (applied.before alikeW rfl rfl rfl rfl).after (answered .table (by decide)) (answered .contexts (by decide)) rfl (answered .port (by decide))
        · rw [Completed, ← backlog]
          rfl
    · rw [exec_landingTableReadFail, onAccept_of_found found pending running, failedAt_of_failure failure]
      exact ⟨_, rfl, keptW.trans (answer_keepsAllBut _ _ _ _ _ _) (by decide) (by decide), rfl, rfl, rfl⟩

end Sys2Proof.Machine
end

section
/-! PROOFS. The bursts of the Host Memory Engine: issue in turn, and the answers of the link. -/

namespace Sys2Proof.Machine

/-! ## One burst changed (R171, R172) -/

/-- The operations with one burst of one operation in a state. -/
theorem burstTo_eq (op i : Nat) (st : BurstState) (s : State) : burstTo op i st s = s.withHme { s.hme with ops := s.hme.ops.map fun o =>
    if o.id = op then { o with bursts := o.bursts.modify i fun b => { b with state := st } } else o } := by
  simp only [burstTo, modOp, setBurst, beq_iff_eq]

theorem modify_append_cons {α : Type} (f : α → α) (first last : List α) (b : α) : (first ++ b :: last).modify first.length f = first ++ f b :: last := by
  induction first with
  | nil => rfl
  | cons d ds ih => simp [List.modify_succ_cons, ih]

theorem map_change_one {ops : List Op} {before after : List Op} {o : Op} (split : ops = before ++ o :: after) (single : ∀ p ∈ before ++ after, p.id ≠ o.id)
    (f : Op → Op) : (ops.map fun p => if p.id = o.id then f p else p) = before ++ f o :: after := by
  have rest : ∀ l : List Op, (∀ p ∈ l, p.id ≠ o.id) → (l.map fun p => if p.id = o.id then f p else p) = l := fun l other =>
    (List.map_congr_left fun p hp => if_neg (other p hp)).trans (List.map_id' l)
  rw [split, List.map_append, List.map_cons, if_pos rfl, rest before fun p hp => single p (List.mem_append_left _ hp),
    rest after fun p hp => single p (List.mem_append_right _ hp)]

/-! ## The turn of the clients (R171) -/

theorem hasUnissued_iff (o : Op) : o.hasUnissued = true ↔ ∃ d ∈ o.bursts, d.state = .unissued := by
  simp [Op.hasUnissued, isUnissued_iff]

theorem hasUnissued_eq_false {o : Op} (spent : ∀ d ∈ o.bursts, d.state ≠ .unissued) : o.hasUnissued = false := by
  rw [← Bool.not_eq_true, hasUnissued_iff]
  rintro ⟨d, mem, unissued⟩
  exact spent d mem unissued

theorem nextOf_eq_none {h : Hme} {client : Fin 7} (spent : ∀ p ∈ h.ops, p.use.client = client → ∀ d ∈ p.bursts, d.state ≠ .unissued) :
    h.nextOf client = none := by
  rw [Hme.nextOf, List.find?_eq_none]
  intro p hp chosen
  obtain ⟨same, some⟩ := Bool.and_eq_true _ _ ▸ chosen
  rw [hasUnissued_eq_false (spent p hp (beq_iff_eq.mp same))] at some
  cases some

theorem nextOf_eq_some {h : Hme} {client : Fin 7} {before after : List Op} {o : Op} (split : h.ops = before ++ o :: after) (mine : o.use.client = client)
    (has : o.hasUnissued = true) (spent : ∀ p ∈ before, p.use.client = client → ∀ d ∈ p.bursts, d.state ≠ .unissued) : h.nextOf client = some o := by
  rw [Hme.nextOf, List.find?_eq_some_iff_append]
  refine ⟨by rw [mine, has]; simp, before, after, split, fun p hp => ?_⟩
  by_cases same : p.use.client = client
  · rw [hasUnissued_eq_false (spent p hp same)]
    simp
  · simp [same]

/-- The search of the clients from the last granted on. -/
theorem choose_eq_some {h : Hme} {j : Fin 7} {o : Op} (none : ∀ i, i < j → h.nextOf (h.lastClient + 1 + i) = none)
    (found : h.nextOf (h.lastClient + 1 + j) = some o) : h.choose = some (h.lastClient + 1 + j, o) := by
  have first : ((List.finRange 7).map fun i => h.lastClient + 1 + i).find? (fun c => (h.nextOf c).isSome) = some (h.lastClient + 1 + j) := by
    rw [find?_turn_eq_some_iff]
    exact ⟨by rw [found]; rfl, fun i hi => by rw [none i hi]; rfl⟩
  obtain ⟨-, before, after, split, spent⟩ := List.find?_eq_some_iff_append.mp first
  rw [Hme.choose, clientOrder, List.findSome?_eq_some_iff]
  refine ⟨before, _, after, split, by rw [found]; rfl, fun c hc => ?_⟩
  have absent : h.nextOf c = Option.none := by simpa using spent c hc
  rw [absent]
  rfl

theorem choose_eq_none {h : Hme} (spent : ∀ o ∈ h.ops, ∀ b ∈ o.bursts, b.state ≠ .unissued) : h.choose = none := by
  rw [Hme.choose, List.findSome?_eq_none_iff]
  intro c _
  rw [nextOf_eq_none fun p hp _ => spent p hp]
  rfl

/-- The place of the first element that passes a test. -/
theorem findIdx_append_cons {α : Type} {p : α → Bool} {first last : List α} {b : α} (none : ∀ d ∈ first, p d = false) (here : p b = true) :
    (first ++ b :: last).findIdx p = first.length := by
  rw [List.findIdx_append, List.findIdx_eq_length.mpr none, if_neg (lt_irrefl _), List.findIdx_cons, here]
  exact Nat.zero_add _

theorem nextBurst_eq {o : Op} {first last : List Burst} {b : Burst} (split : o.bursts = first ++ b :: last) (issued : ∀ d ∈ first, d.state ≠ .unissued)
    (unissued : b.state = .unissued) : o.nextBurst = first.length := by
  rw [Op.nextBurst, split]
  refine findIdx_append_cons (fun d mem => ?_) ((isUnissued_iff _).mpr unissued)
  rw [← Bool.not_eq_true, isUnissued_iff]
  exact issued d mem

theorem exec_burstIssue (s : State) : exec .burstIssue s = .next (issueBurst s) := rfl

/-! ## The answers of the link (R172, R173, R175) -/

theorem exec_burstComplete {name : BurstName} {o : Op} {b : Burst} {s : State} (named : s.hme.burst name = some (o, b)) (data : List Byte) :
    exec (.burstComplete name data) s = .next (if b.awaits name && (!o.use.isRead || data.length == b.len) then
      burstTo o.id name.burst (.done (if o.use.isRead then data else [])) s else s) := by
  show execBurstComplete name data s = _
  rw [execBurstComplete, named]

/-- The kind with which a burst fails on an answer. -/
def failKindOf : AnswerFault → FailKind
  | .abort => .abort
  | .unsupported => .unsupported
  | .poisoned => .poisoned

theorem exec_burstFail {name : BurstName} {o : Op} {b : Burst} {s : State} (named : s.hme.burst name = some (o, b)) (kind : AnswerFault) :
    exec (.burstFail name kind) s = .next (if b.awaits name && (kind != .poisoned || o.use.isRead) then burstFails o b name.burst (failKindOf kind) s else s) := by
  show execBurstFail name kind s = _
  unfold execBurstFail
  rw [named]
  cases kind <;> rfl

theorem exec_burstTimeout {name : BurstName} {o : Op} {b : Burst} {s : State} (named : s.hme.burst name = some (o, b)) :
    exec (.burstTimeout name) s = .next (if b.timedOut name s.now then
      if name.reissue then burstFails o b name.burst .timeout s
      else (burstTo o.id name.burst .awaiting s).withHme
        { (burstTo o.id name.burst .awaiting s).hme with reissue := (burstTo o.id name.burst .awaiting s).hme.reissue ++ [(o.id, name.burst)] }
      else s) := by
  show execBurstTimeout name s = _
  rw [execBurstTimeout, named]

theorem awaits_of_out {b : Burst} {name : BurstName} {d : Nat} (out : b.state = .issued name.reissue d) : b.awaits name = true := by
  rw [Burst.awaits, out]
  exact beq_self_eq_true _

theorem timedOut_of_out {b : Burst} {name : BurstName} {d : Nat} (out : b.state = .issued name.reissue d) (now : Nat) :
    b.timedOut name now = decide (d ≤ now) := by
  rw [Burst.timedOut, out]
  dsimp only
  rw [beq_self_eq_true, Bool.true_and]

theorem awaits_eq_false {b : Burst} {name : BurstName} (out : ∀ d, b.state ≠ .issued name.reissue d) : b.awaits name = false := by
  rw [← Bool.not_eq_true]
  unfold Burst.awaits
  split
  · rename_i reissue deadline state
    intro same
    exact out deadline (beq_iff_eq.mp same ▸ state)
  · exact Bool.false_ne_true

theorem timedOut_eq_false {b : Burst} {name : BurstName} (out : ∀ d, b.state ≠ .issued name.reissue d) (now : Nat) : b.timedOut name now = false := by
  rw [← Bool.not_eq_true]
  unfold Burst.timedOut
  split
  · rename_i reissue deadline state
    intro both
    exact out deadline (beq_iff_eq.mp (Bool.and_eq_true _ _ ▸ both).1 ▸ state)
  · exact Bool.false_ne_true

theorem Hme.burst_eq_some {h : Hme} {name : BurstName} {o : Op} {b : Burst} (named : h.burst name = some (o, b)) :
    o ∈ h.ops ∧ o.bursts[name.burst]? = some b := by
  rw [Hme.burst] at named
  obtain ⟨p, found, here⟩ := Option.bind_eq_some_iff.mp named
  obtain ⟨d, place, same⟩ := Option.map_eq_some_iff.mp here
  cases same
  exact ⟨List.mem_of_find?_eq_some found, place⟩

/-- R173: the operations once a burst of one has failed. -/
theorem failBurst_ops {h : Hme} {name : BurstName} {o : Op} {b : Burst} (named : h.burst name = some (o, b)) (single : (h.ops.map (·.id)).Nodup)
    (kind : FailKind) : (h.ops.map fun p => if (p.id == o.id) = true then p.failBurst name.burst kind else p) = h.ops.map fun p =>
      if p.id = o.id then
        { p with bursts := (p.bursts.modify name.burst fun d => { d with state := .failed }).map fun d =>
                   if d.state = .unissued then { d with state := .dropped } else d,
                 failure := if p.failure.isSome = true then p.failure else some (kind, b.addr) }
      else p := by
  obtain ⟨mem, here⟩ := Hme.burst_eq_some named
  refine List.map_congr_left fun p hp => ?_
  by_cases same : p.id = o.id
  · obtain rfl : p = o := List.inj_on_of_nodup_map single hp mem same
    rw [if_pos (beq_iff_eq.mpr same), if_pos same, Op.failBurst, here]
    dsimp only
    rw [setBurst, funext dropUnissued_eq]
  · rw [if_neg (mt beq_iff_eq.mp same), if_neg same]

/-- R175: the latch and the interrupt of a failed burst. -/
theorem latchFault_effect (client : Fin 7) (kind : FailKind) (addr : Addr) (s : State) :
    let t := latchFault client kind addr s
    KeepsAllBut [.engine, .irq] s t ∧ t.hme = { s.hme with latch := t.hme.latch } ∧ (s.start.state = .resetting → t.hme.latch = s.hme.latch ∧ t.irq = s.irq) ∧
      (s.start.state ≠ .resetting →
        (∀ l, s.hme.latch = some l → t.hme.latch = some { l with multiple := true } ∧ t.irq = s.irq) ∧
        (s.hme.latch = none → t.hme.latch = some { client := client, kind := kind, addr := addr, multiple := false } ∧
          (s.start.state = .ready ∨ s.start.state = .running → MessageRaised s.irq t.irq) ∧
          (s.start.state ≠ .ready → s.start.state ≠ .running → t.irq = s.irq))) := by
  intro t
  by_cases resetting : s.start.state = .resetting
  · have eq : t = s := if_pos (beq_iff_eq.mpr resetting)
    rw [eq]
    exact ⟨.refl _ s, rfl, fun _ => ⟨rfl, rfl⟩, fun other => absurd resetting other⟩
  · have latches : t = match s.hme.latch with
        | some l => s.withHme { s.hme with latch := some { l with multiple := true } }
        | none => raise (s.withHme { s.hme with latch := some { client := client, kind := kind, addr := addr, multiple := false } }) :=
      if_neg (mt beq_iff_eq.mp resetting)
    cases latch : s.hme.latch with
    | some l =>
      rw [latch] at latches
      rw [latches]
      exact ⟨keepsAllBut_iff.mpr (by simp), rfl, fun h => absurd h resetting, fun _ => ⟨fun m hm => by cases hm; exact ⟨rfl, rfl⟩, fun h => by cases h⟩⟩
    | none =>
      rw [latch] at latches
      let u := s.withHme { s.hme with latch := some { client := client, kind := kind, addr := addr, multiple := false } }
      have hme : t.hme = u.hme := by rw [latches]; simp [u]
      refine ⟨by rw [latches]; exact keepsAllBut_iff.mpr (by simp), by rw [hme]; rfl, fun h => absurd h resetting, fun _ => ⟨fun _ h => (by cases h), fun _ =>
        ⟨by rw [hme]; rfl, fun may => ?_, fun notReady notRunning => ?_⟩⟩⟩
      · rw [latches]
        have mayRaise : u.mayRaise = true := by simpa [State.mayRaise, u] using may
        exact (raise_raises mayRaise).2
      · have mayNot : ¬ u.mayRaise = true := by simp [State.mayRaise, u, notReady, notRunning]
        rw [latches, show raise u = u from if_neg mayNot]
        rfl

/-- R172, R173, R175: what a burst that fails does. -/
theorem burstFails_effect {name : BurstName} {o : Op} {b : Burst} {s : State} (named : s.hme.burst name = some (o, b)) (single : (s.hme.ops.map (·.id)).Nodup)
    (kind : FailKind) :
    let t := burstFails o b name.burst kind s
    KeepsAllBut [.engine, .irq] s t ∧ t.hme.reissue = s.hme.reissue ∧ t.hme.lastClient = s.hme.lastClient ∧ t.hme.nextOp = s.hme.nextOp ∧
      t.hme.ops = (s.hme.ops.map fun p =>
        if p.id = o.id then
          { p with bursts := (p.bursts.modify name.burst fun d => { d with state := .failed }).map fun d =>
                     if d.state = .unissued then { d with state := .dropped } else d,
                   failure := if p.failure.isSome = true then p.failure else some (kind, b.addr) }
        else p) ∧
      (s.start.state = .resetting → t.hme.latch = s.hme.latch ∧ t.irq = s.irq) ∧
      (s.start.state ≠ .resetting →
        (∀ l, s.hme.latch = some l → t.hme.latch = some { l with multiple := true } ∧ t.irq = s.irq) ∧
        (s.hme.latch = none → t.hme.latch = some { client := o.use.client, kind := kind, addr := b.addr, multiple := false } ∧
          (s.start.state = .ready ∨ s.start.state = .running → MessageRaised s.irq t.irq) ∧
          (s.start.state ≠ .ready → s.start.state ≠ .running → t.irq = s.irq))) := by
  intro t
  let u := modOp o.id (fun p => p.failBurst name.burst kind) s
  obtain ⟨kept, hme, resetting, latches⟩ := latchFault_effect o.use.client kind b.addr u
  have ops : u.hme.ops = _ := failBurst_ops named single kind
  have hme' : t.hme = { u.hme with latch := t.hme.latch } := hme
  have keptU : KeepsAllBut [.engine] s u := keepsAllBut_iff.mpr (by simp [u])
  refine ⟨keptU.trans kept (by decide) (by decide), ?_, ?_, ?_, ?_, resetting, latches⟩
  · rw [hme']
    rfl
  · rw [hme']
    rfl
  · rw [hme']
    rfl
  · rw [hme', ← ops]

/-- Settles O60. -/
theorem burstsAreIssuedInTurnAndEndAsTheLinkAnswers : Obligations.BurstsAreIssuedInTurnAndEndAsTheLinkAnswers := by
  refine ⟨fun s => ?_, fun name o b s named single => ?_⟩
  · intro deadline
    rw [exec_burstIssue]
    refine ⟨fun op i rest waits => ?_, fun none spent => ?_, fun j before after o first last b none => ?_⟩
    · rw [issueBurst, waits]
      refine ⟨_, rfl, keepsAllBut_iff.mpr (by simp [burstTo]), ?_⟩
      dsimp only
      rw [burstTo_eq]
      rfl
    · rw [issueBurst, none, choose_eq_none spent]
    · intro turn spent split single mine spentBefore spentOthers bursts issued unissued
      have has : o.hasUnissued = true := (hasUnissued_iff o).mpr ⟨b, by rw [bursts]; simp, unissued⟩
      have chosen : s.hme.choose = some (turn j, o) := choose_eq_some (fun i hi => nextOf_eq_none (spentOthers i hi))
        (nextOf_eq_some split mine has spentBefore)
      rw [issueBurst, none, chosen]
      refine ⟨_, rfl, keepsAllBut_iff.mpr (by simp [burstTo]), ?_⟩
      dsimp only
      rw [burstTo_eq, nextBurst_eq bursts issued unissued]
      show Hme.mk _ _ _ _ _ = _
      have ops := map_change_one split single fun p =>
        { p with bursts := p.bursts.modify first.length fun b => { b with state := .issued false (s.now + Config.burstTimeout) } }
      rw [bursts, modify_append_cons] at ops
      exact congrArg (fun l => Hme.mk l s.hme.reissue (turn j) s.hme.latch s.hme.nextOp) ops
  · intro out becomes fails read
    have failing : ∀ kind, fails kind (burstFails o b name.burst kind s) := burstFails_effect named single
    rw [exec_burstTimeout named]
    refine ⟨fun notOut => ⟨fun data => ?_, fun kind => ?_, ?_⟩, fun d isOut => ⟨fun data reads length => ?_, fun data writes => ?_, ?_, ?_, fun reads => ?_,
      fun early => ?_, fun late first => ?_, fun late again => ?_⟩⟩
    · rw [exec_burstComplete named, awaits_eq_false notOut]
      rfl
    · rw [exec_burstFail named, awaits_eq_false notOut]
      rfl
    · rw [timedOut_eq_false notOut]
      rfl
    · rw [exec_burstComplete named, awaits_of_out isOut, length, show o.use.isRead = true from reads]
      simp only [beq_self_eq_true, Bool.not_true, Bool.false_or, Bool.and_self, if_true]
      exact congrArg Host.Outcome.next (burstTo_eq ..)
    · rw [exec_burstComplete named, awaits_of_out isOut, show o.use.isRead = false from Bool.not_eq_true _ ▸ writes]
      exact congrArg Host.Outcome.next (burstTo_eq ..)
    · rw [exec_burstFail named, awaits_of_out isOut]
      exact ⟨_, rfl, failing .abort⟩
    · rw [exec_burstFail named, awaits_of_out isOut]
      exact ⟨_, rfl, failing .unsupported⟩
    · rw [exec_burstFail named, awaits_of_out isOut, show o.use.isRead = true from reads]
      exact ⟨_, rfl, failing .poisoned⟩
    · rw [timedOut_of_out isOut, decide_eq_false early.not_ge]
      rfl
    · rw [timedOut_of_out isOut, decide_eq_true late, first, burstTo_eq]
      rfl
    · rw [timedOut_of_out isOut, decide_eq_true late, again]
      exact ⟨_, rfl, failing .timeout⟩

end Sys2Proof.Machine
end

section
/-! PROOFS. The Transmit Arbiter and the carrier. -/

namespace Sys2Proof.Machine

/-! ## Candidates for the grant (R163) -/

/-- R99: a buffer is grantable when it holds a ready segment and the other buffer holds no earlier one. -/
theorem grantable_ready {o : OutCtx} {b : Fin 2} (grantable : o.grantable = some b) : ∃ ch sg bs k, vget o.bufs b = .ready ch sg bs k ∧
    ∀ p, (vget o.bufs (otherBuf b)).position = some p → ch < p.1 ∨ (ch = p.1 ∧ sg ≤ p.2) := by
  have holds := List.find?_some grantable
  cases held : vget o.bufs b with
  | ready ch sg bs k =>
    refine ⟨ch, sg, bs, k, rfl, fun p hp => ?_⟩
    simp only [held, hp, Option.any_some, Bool.not_eq_true'] at holds
    rw [← Bool.not_eq_true, earlier_iff] at holds
    omega
  | free => simp [held] at holds
  | reading ch sg d => simp [held] at holds
  | unfolded ch sg bs => simp [held] at holds

theorem candidate_iff (s : State) (c : CtxNo) :
    s.candidate c = true ↔ ∃ o b, s.ctx c = .out o ∧ o.state = .sending ∧ s.sendable o.dest = true ∧ o.grantable = some b := by
  unfold State.candidate
  rw [Option.any_eq_true]
  constructor
  · rintro ⟨o, bound, holds⟩
    simp only [Bool.and_eq_true, beq_iff_eq, Option.isSome_iff_exists] at holds
    obtain ⟨⟨sending, sendable⟩, b, grantable⟩ := holds
    refine ⟨o, b, ?_, sending, sendable, grantable⟩
    cases ctx : s.ctx c with
    | out p =>
      rw [ctx] at bound
      cases bound
      rfl
    | free => rw [ctx] at bound; cases bound
    | inb i => rw [ctx] at bound; cases bound
  · rintro ⟨o, b, bound, sending, sendable, grantable⟩
    refine ⟨o, by rw [bound]; rfl, ?_⟩
    rw [sending, sendable, grantable]
    rfl

/-! ## One segment sent (R99, R164, R165) -/

theorem loseGrant_of_holder {c : CtxNo} {s : State} (holder : s.wan.holder = some c) : loseGrant c s = s.withWan { s.wan with holder := none } :=
  if_pos (beq_iff_eq.mpr holder)

/-- The grant holder's segment is sent. -/
theorem sendSegment_of_holder {c : CtxNo} {o : OutCtx} {b : Fin 2} {ch sg : Nat} {bs : List Byte} {k : Option (BitVec 32)} {s : State} (bound : s.ctx c = .out o)
    (grantable : o.grantable = some b) (ready : vget o.bufs b = .ready ch sg bs k) (holder : s.wan.holder = some c) :
    let burst := o.burst + if k.isSome = true then 1 else 0
    sendSegment c s = (setCtx c (.out { o with bufs := vset o.bufs b .free, burst := burst }) s).withWan
      { s.wan with tx := some (s.frameTo o.dest 3 (s.segmentBody o ch sg bs k)), frames := s.wan.frames + 1,
                   holder := if k.isSome = true ∧ s.setting 13 ≤ burst then none else some c } := by
  intro burst
  rw [sendSegment, bound]
  dsimp only
  rw [grantable]
  dsimp only
  rw [ready]
  cases k with
  | none =>
    rw [if_neg (by simp), ← holder]
    rfl
  | some check =>
    let u := transmit (s.frameTo o.dest 3 (s.segmentBody o ch sg bs (some check))) (setCtx c (.out { o with bufs := vset o.bufs b .free, burst := o.burst + 1 }) s)
    show burstTest c (o.burst + 1) u = _
    by_cases allowance : s.setting 13 ≤ o.burst + 1
    · rw [if_pos ⟨rfl, allowance⟩, show burstTest c (o.burst + 1) u = loseGrant c u from if_pos allowance, loseGrant_of_holder (s := u) holder]
      rfl
    · rw [if_neg fun both => allowance both.2, show burstTest c (o.burst + 1) u = u from if_neg allowance, ← holder]
      rfl

theorem sendSegment_keepsAllBut {c : CtxNo} {o : OutCtx} {b : Fin 2} {s : State} (bound : s.ctx c = .out o) (grantable : o.grantable = some b)
    (holder : s.wan.holder = some c) : KeepsAllBut [.port, .contexts] s (sendSegment c s) := by
  obtain ⟨ch, sg, bs, k, ready, -⟩ := grantable_ready grantable
  rw [sendSegment_of_holder bound grantable ready holder]
  exact keepsAllBut_iff.mpr (by simp)

/-! ## The choice of the arbiter (R164) -/

theorem dropStaleHolder_of_candidate {c : CtxNo} {s : State} (holder : s.wan.holder = some c) (candidate : s.candidate c = true) : dropStaleHolder s = s := by
  rw [dropStaleHolder, holder]
  exact if_pos candidate

theorem dropStaleHolder_of_stale {s : State} (stale : ∀ c, s.wan.holder = some c → s.candidate c = false) :
    dropStaleHolder s = s.withWan { s.wan with holder := none } := by
  unfold dropStaleHolder
  cases holder : s.wan.holder with
  | none =>
    have same : s.withWan { s.wan with holder := s.wan.holder } = s := rfl
    rw [holder] at same
    exact same.symm
  | some c =>
    dsimp only
    rw [stale c holder]
    exact loseGrant_of_holder holder

theorem giveGrant_of_bound {c : CtxNo} {o : OutCtx} {s : State} (bound : s.ctx c = .out o) :
    giveGrant c s = setCtx c (.out { o with burst := 0 }) (s.withWan { s.wan with holder := some c, lastGranted := c }) := by
  have here : (s.withWan { s.wan with holder := some c, lastGranted := c }).ctx c = .out o := bound
  rw [giveGrant, modOut, here]

theorem portSegments_of_holder {c : CtxNo} {s : State} (holder : s.wan.holder = some c) (candidate : s.candidate c = true) :
    portSegments s = sendSegment c s := by
  rw [portSegments_eq, dropStaleHolder_of_candidate holder candidate, holder]

theorem portSegments_of_turn {j : CtxNo} {s : State} (stale : ∀ c, s.wan.holder = some c → s.candidate c = false)
    (candidate : s.candidate (s.wan.lastGranted + 1 + j) = true) (first : ∀ i, i < j → s.candidate (s.wan.lastGranted + 1 + i) = false) :
    portSegments s = sendSegment (s.wan.lastGranted + 1 + j) (giveGrant (s.wan.lastGranted + 1 + j) (s.withWan { s.wan with holder := none })) := by
  have search : (contextOrder s.wan.lastGranted).find? s.candidate = some (s.wan.lastGranted + 1 + j) := find?_turn_eq_some_iff.mpr ⟨candidate, first⟩
  let u := s.withWan { s.wan with holder := none }
  rw [portSegments_eq, dropStaleHolder_of_stale stale, show u.wan.holder = none from rfl]
  dsimp only
  rw [show (contextOrder u.wan.lastGranted).find? u.candidate = _ from search]

theorem portSegments_of_none {s : State} (none : ∀ c, s.candidate c = false) :
    portSegments s = s.withWan { s.wan with tx := Option.none, holder := Option.none } := by
  have search : (contextOrder s.wan.lastGranted).find? s.candidate = Option.none := by
    rw [List.find?_eq_none]
    intro c _
    rw [none c]
    exact Bool.false_ne_true
  let u := s.withWan { s.wan with holder := Option.none }
  rw [portSegments_eq, dropStaleHolder_of_stale fun c _ => none c, show u.wan.holder = Option.none from rfl]
  dsimp only
  rw [show (contextOrder u.wan.lastGranted).find? u.candidate = _ from search]
  rfl

theorem exec_portReady (s : State) : exec .portReady s = .next (portReady s) := rfl

theorem exec_carrierLoss (s : State) : exec .carrierLoss s = .next (s.withWan (if s.running then
    { s.wan with carrier := false, tx := none, queue := [], holder := none } else { s.wan with carrier := false, tx := none })) := rfl

theorem portReady_of_frame {f : CtlFrame} {rest : List CtlFrame} {s : State} (ready : s.running = true ∧ s.wan.carrier = true)
    (queue : s.wan.queue = f :: rest) :
    portReady s = transmit (s.frameTo f.dest f.body.kind f.body.content) (s.withWan { s.wan with queue := rest }) := by
  rw [portReady, if_neg (by rw [ready.1]; simp), if_neg (by rw [ready.2]; simp), queue]

theorem portReady_of_empty {s : State} (ready : s.running = true ∧ s.wan.carrier = true) (queue : s.wan.queue = []) : portReady s = portSegments s := by
  rw [portReady, if_neg (by rw [ready.1]; simp), if_neg (by rw [ready.2]; simp), queue]

/-- Settles O59. -/
theorem portReadyChoosesOneFrameAndCarrierLossDropsAll : Obligations.PortReadyChoosesOneFrameAndCarrierLossDropsAll := by
  refine ⟨fun s => ?_, fun s => ⟨fun running => ?_, fun stopped => ?_, rfl⟩⟩
  · intro sends turn ready noHolder
    rw [exec_portReady]
    refine ⟨fun stopped => ?_, fun running down => ?_, fun f rest open_ queue => ?_, fun c open_ queue holder candidate => ?_,
      fun j open_ queue stale candidate first => ?_, fun open_ queue none => ?_, candidate_iff s, fun o b => grantable_ready⟩
    · exact congrArg Host.Outcome.next (if_pos (by rw [stopped]; rfl))
    · rw [portReady, if_neg (by rw [running]; simp), if_pos (by rw [down]; rfl)]
    · rw [portReady_of_frame open_ queue]
      rfl
    · rw [portReady_of_empty open_ queue, portSegments_of_holder holder candidate]
      obtain ⟨o, b, bound, -, -, grantable⟩ := (candidate_iff s c).mp candidate
      refine ⟨_, rfl, sendSegment_keepsAllBut bound grantable holder, fun o b ch sg bs k bound grantable held => ?_⟩
      rw [sendSegment_of_holder bound grantable held holder]
      exact ⟨ctx_setCtx_self .., setCtx_otherContexts c _ s, rfl, rfl⟩
    · rw [portReady_of_empty open_ queue, portSegments_of_turn stale candidate first]
      obtain ⟨o, b, bound, -, -, grantable⟩ := (candidate_iff s _).mp candidate
      let u := s.withWan { s.wan with holder := none }
      have granted : giveGrant (turn j) u = _ := giveGrant_of_bound (s := u) bound
      have keptGrant : KeepsAllBut [.port, .contexts] s (giveGrant (turn j) u) := by
        rw [granted]
        exact keepsAllBut_iff.mpr (by simp [u])
      have here : (giveGrant (turn j) u).ctx (turn j) = .out { o with burst := 0 } := by
        rw [granted]
        exact ctx_setCtx_self ..
      have holder : (giveGrant (turn j) u).wan.holder = some (turn j) := by
        rw [granted]
        rfl
      refine ⟨_, rfl, keptGrant.trans (sendSegment_keepsAllBut here grantable holder) (List.Subset.refl _) (List.Subset.refl _),
        fun p b ch sg bs k bound' grantable held => ?_⟩
      obtain rfl : o = p := by cases bound.symm.trans bound'; rfl
      rw [sendSegment_of_holder here grantable held holder, granted]
      refine ⟨ctx_setCtx_self .., ?_, rfl, rfl⟩
      intro d hd
      exact (setCtx_otherContexts (turn j) _ _ d hd).trans (setCtx_otherContexts (turn j) _ _ d hd)
    · rw [portReady_of_empty open_ queue]
      exact congrArg Host.Outcome.next (portSegments_of_none none)
  · rw [exec_carrierLoss, if_pos running]
  · rw [exec_carrierLoss, if_neg (by rw [stopped]; exact Bool.false_ne_true)]

end Sys2Proof.Machine
end

section
/-! PROOFS. The service of owed notices. -/

namespace Sys2Proof.Machine

/-! ## The order of service (R188) -/

/-- The first index with a finding. -/
theorem findSome?_finRange_eq_some {n : Nat} {β : Type} {f : Fin n → Option β} {j : Fin n} {b : β} (found : f j = some b) (none : ∀ i, i < j → f i = none) :
    (List.finRange n).findSome? f = some b := by
  have first : (List.finRange n).find? (fun i => (f i).isSome) = some j := find?_finRange_eq_some_iff.mpr ⟨by rw [found]; rfl, fun i hi => by rw [none i hi]; rfl⟩
  obtain ⟨-, before, after, split, spent⟩ := List.find?_eq_some_iff_append.mp first
  rw [List.findSome?_eq_some_iff]
  exact ⟨before, j, after, split, found, fun i hi => by simpa using spent i hi⟩

theorem owedRegion_eq_some_iff {s : State} {x : Region} : s.owedRegion = some x ↔ (s.region x).owed = true ∧ ∀ y, y < x → (s.region y).owed = false :=
  find?_finRange_eq_some_iff

theorem owedRegion_eq_none {s : State} (none : ∀ x, (s.region x).owed = false) : s.owedRegion = Option.none :=
  List.find?_eq_none.mpr fun x _ => by rw [none x]; exact Bool.false_ne_true

theorem owedPlace_eq_some {s : State} {n : Fin 4} {p : Parked} (held : vget s.bmc.hold n = some p) (owed : p.owed = true)
    (first : ∀ m q, m < n → vget s.bmc.hold m = some q → q.owed = false) : s.owedPlace = some (n, p) := by
  refine findSome?_finRange_eq_some (j := n) ?_ fun m hm => ?_
  · rw [held, Option.bind_some, if_pos owed]
  · cases here : vget s.bmc.hold m with
    | none => rfl
    | some q =>
      rw [Option.bind_some, first m q hm here]
      rfl

theorem owedPlace_eq_none {s : State} (none : ∀ n p, vget s.bmc.hold n = some p → p.owed = false) : s.owedPlace = Option.none := by
  refine List.findSome?_eq_none_iff.mpr fun n _ => ?_
  cases here : vget s.bmc.hold n with
  | none => rfl
  | some p =>
    rw [Option.bind_some, none n p here]
    rfl

theorem serveOne_of_pressure {s : State} (owed : s.backlog.owedPressure = true) : serveOne s = servePressure s := if_pos owed

theorem serveOne_of_region {s : State} {x : Region} (pressure : s.backlog.owedPressure = false) (owed : (s.region x).owed = true)
    (first : ∀ y, y < x → (s.region y).owed = false) : serveOne s = serveRegion x s := by
  rw [serveOne, if_neg (by rw [pressure]; exact Bool.false_ne_true), owedRegion_eq_some_iff.mpr ⟨owed, first⟩]

theorem serveOne_of_place {s : State} {n : Fin 4} {p : Parked} (pressure : s.backlog.owedPressure = false) (regions : ∀ x, (s.region x).owed = false)
    (held : vget s.bmc.hold n = some p) (owed : p.owed = true) (first : ∀ m q, m < n → vget s.bmc.hold m = some q → q.owed = false) :
    serveOne s = servePlace n p s := by
  rw [serveOne, if_neg (by rw [pressure]; exact Bool.false_ne_true), owedRegion_eq_none regions]
  dsimp only
  rw [owedPlace_eq_some held owed first]

theorem serveOne_of_list {s : State} {k : Key} {rest : List Key} (pressure : s.backlog.owedPressure = false) (regions : ∀ x, (s.region x).owed = false)
    (places : ∀ n p, vget s.bmc.hold n = some p → p.owed = false) (list : s.backlog.owedList = k :: rest) : serveOne s = serveRecord k rest s := by
  rw [serveOne, if_neg (by rw [pressure]; exact Bool.false_ne_true), owedRegion_eq_none regions]
  dsimp only
  rw [owedPlace_eq_none places]
  dsimp only
  rw [list]

/-- R188: with nothing owed nothing is served. -/
theorem serveOne_of_none {s : State} (none : s.anyOwed = false) : serveOne s = Option.none := by
  obtain ⟨pressure, regions, places, list⟩ := (anyOwed_eq_false_iff s).mp none
  rw [serveOne, if_neg (by rw [pressure]; exact Bool.false_ne_true), owedRegion_eq_none regions]
  dsimp only
  rw [owedPlace_eq_none places]
  dsimp only
  rw [list]

/-! ## The service of a record (R189) -/

theorem serviceBodies_eq (r : Record) : serviceBodies r =
    (match r.owedCancel with
      | some (v, why) => [.notice (.inCancelled r.key v why) false]
      | none => []) ++ [.notice (recordStateNotice r) false, .notice (recordStateNotice r) true] := by
  unfold serviceBodies
  cases r.owedCancel with
  | none => rfl
  | some cancel => rfl

/-- The state of a record's service before its retirement test. -/
def recordServed (k : Key) (rest : List Key) (bodies : List EntryBody) (s : State) : State :=
  place bodies (modRec k (fun r => { r with owed := false, owedCancel := none }) (s.withBacklog { s.backlog with owedList := rest }))

theorem serveRecord_of_found {k : Key} {rest : List Key} {r : Record} {s : State} (found : s.table.find k = some r) : serveRecord k rest s =
    if s.backlog.free < (serviceBodies r).length then none else some (pressureCheck (retireIfDue k (recordServed k rest (serviceBodies r) s))) := by
  rw [serveRecord, found]
  rfl

theorem find_recordServed {k : Key} {r : Record} {s : State} (found : s.table.find k = some r) (rest : List Key) (bodies : List EntryBody) :
    (recordServed k rest bodies s).table.find k = some { r with owed := false, owedCancel := none } :=
  find_modRec_of_found (s := s.withBacklog { s.backlog with owedList := rest }) found _

theorem recordServed_entries (k : Key) (rest : List Key) (bodies : List EntryBody) (s : State) :
    (recordServed k rest bodies s).backlog = { s.backlog with owedList := rest, entries := s.backlog.entries ++ waitingEntries bodies } := rfl

/-- R187: the room of a PRESSURE notice behind the entries of a service. -/
theorem recordServed_hasRoom {k : Key} {rest : List Key} {bodies : List EntryBody} {s : State} (pressure : s.backlog.owedPressure = false)
    (regions : ∀ x, (s.region x).owed = false) (places : ∀ n p, vget s.bmc.hold n = some p → p.owed = false) (fits : bodies.length ≤ s.backlog.free) :
    (recordServed k rest bodies s).hasRoom 1 ↔ rest = [] ∧ bodies.length + 1 ≤ s.backlog.free := by
  unfold State.hasRoom
  rw [fits_iff, anyOwed_eq_false_iff, recordServed_entries]
  have free : s.backlog.free = 64 - s.backlog.entries.length - s.backlog.reservations := rfl
  rw [free] at fits
  rw [free]
  constructor
  · rintro ⟨⟨-, -, -, empty⟩, room⟩
    rw [List.length_append, waitingEntries_length] at room
    dsimp only at room
    exact ⟨empty, by omega⟩
  · rintro ⟨empty, room⟩
    rw [List.length_append, waitingEntries_length]
    dsimp only
    exact ⟨⟨pressure, regions, places, empty⟩, by omega⟩

/-- R189, R10, R20: what serving a record does. -/
theorem serveRecord_effect {k : Key} {rest : List Key} {r : Record} {s : State} (found : s.table.find k = some r) (pressure : s.backlog.owedPressure = false)
    (regions : ∀ x, (s.region x).owed = false) (places : ∀ n p, vget s.bmc.hold n = some p → p.owed = false)
    (fits : (serviceBodies r).length ≤ s.backlog.free) :
    ∃ t es, serveRecord k rest s = some t ∧ KeepsAllBut [.backlog, .table] s t ∧ OtherRecords k s t ∧
      PressureCompared (rest = [] ∧ (serviceBodies r).length + 1 ≤ s.backlog.free) es s t ∧
      t.backlog.entries = s.backlog.entries ++ waitingEntries (serviceBodies r) ++ es ∧ t.backlog.owedList = rest ∧
      t.backlog.reservations = s.backlog.reservations ∧
      StandsOrRetires True { r with owed := false, owedCancel := none } s t ∧ ∀ q, t.table.find k = some q → q.owed = false ∧ q.owedCancel = none := by
  let u := recordServed k rest (serviceBodies r) s
  have stands : u.table.find k = some { r with owed := false, owedCancel := none } := find_recordServed found rest _
  obtain ⟨kept, others, -, retires, es, compared, entries, list, reservations⟩ := retireAndCompare_effect k u
  obtain ⟨standsU, owed⟩ := retires _ stands
  have keptU : KeepsAllBut [.backlog, .table] s u := keepsAllBut_iff.mpr (by simp [u, recordServed])
  rw [serveRecord_of_found found, if_neg fits.not_gt]
  refine ⟨_, es, rfl, keptU.trans kept (List.Subset.refl _) (by decide), ?_, ?_, entries, list, reservations, standsU.before rfl rfl, fun q hq => ?_⟩
  · exact (modRec_otherRecords k _ (s.withBacklog { s.backlog with owedList := rest })).trans (t := u) others
  · exact compared.of_same (recordServed_hasRoom pressure regions places fits) rfl rfl rfl rfl rfl rfl
  · obtain ⟨cancel, flag⟩ := owed q hq
    exact ⟨flag _ stands, by rw [cancel, State.owedCancel, stands]; rfl⟩

/-- Settles O21. -/
theorem noticesAreServedInOrder : Obligations.NoticesAreServedInOrder := by
  intro s
  refine ⟨fun owed reported => ?_, fun owed differs full => ?_, fun owed differs room => ?_, fun x pressure owed first => ⟨fun full => ?_, fun room => ?_⟩,
    fun n p pressure regions held owed first => ⟨fun full => ?_, fun room => ?_⟩, fun k rest r pressure regions places list found => ?_, serveOne_of_none⟩
  · rw [serveOne_of_pressure owed]
    exact if_pos (beq_iff_eq.mpr reported)
  · rw [serveOne_of_pressure owed, servePressure, if_neg (mt beq_iff_eq.mp differs), if_pos full]
  · rw [serveOne_of_pressure owed, servePressure, if_neg (mt beq_iff_eq.mp differs), if_neg room.ne']
    exact ⟨_, rfl, keepsAllBut_iff.mpr (by simp), rfl, rfl, rfl, rfl, rfl⟩
  · rw [serveOne_of_region pressure owed first, serveRegion, if_pos full]
  · rw [serveOne_of_region pressure owed first, serveRegion, if_neg room.ne']
    let u := place (Notice.regionState x (s.region x).state (s.region x).lastReported (s.region x).miss (s.region x).unreported).bodies s
    obtain ⟨kept, entry, others, probe⟩ := modRegion_effect x (fun e => { e with owed := false, lastReported := e.state, unreported := 0 }) u
    have backlog := kept .backlog (by decide)
    refine ⟨_, rfl, keepsAllBut_iff.mpr (by simp), others, probe, entry, pressure, rfl, rfl, rfl⟩
  · rw [serveOne_of_place pressure regions held owed first, servePlace, if_pos full]
  · rw [serveOne_of_place pressure regions held owed first, servePlace, if_neg room.ne']
    exact ⟨_, rfl, keepsAllBut_iff.mpr (by simp), vget_vset_self .., fun m hm => vget_vset_of_ne _ hm _, rfl, rfl⟩
  · intro state bodies
    rw [serveOne_of_list pressure regions places list]
    have same : bodies = serviceBodies r := by
      have service := serviceBodies_eq r
      rw [recordStateNotice, (Table.find_some found).2] at service
      exact service.symm
    rw [same]
    refine ⟨fun full => ?_, fun fits => serveRecord_effect found pressure regions places fits⟩
    rw [serveRecord_of_found found, if_pos full]

end Sys2Proof.Machine
end

section
/-! PROOFS. The Completion Ring: entries handed on, entries written, and the interrupt. -/

namespace Sys2Proof.Machine

/-! ## The bytes of an entry (R186) -/

/-- The first byte of a layout whose first field is one byte at its start. -/
theorem byteAt_layOut_zero (n : Nat) (b : Byte) (rest : List (Nat × List Byte)) : byteAt (layOut (n + 1) ((0, [b]) :: rest)) 0 = b := by
  simp [byteAt, layOut]

theorem completion_bytes (phase : Bool) (c : Completion) : (c.bytes phase).length = 32 ∧ (byteAt (c.bytes phase) 0).getLsbD 0 = phase := by
  refine ⟨layOut_length .., ?_⟩
  rw [show byteAt (c.bytes phase) 0 = BitVec.ofNat 8 (flagBit phase 0 + ringBit c.ring) from byteAt_layOut_zero ..]
  cases phase <;> cases c.ring <;> decide

theorem notice_bytes (phase : Bool) (n : Notice) (second : Bool) :
    (n.bytes phase second).length = 32 ∧ (byteAt (n.bytes phase second) 0).getLsbD 0 = phase := by
  refine ⟨layOut_length .., ?_⟩
  rw [show byteAt (n.bytes phase second) 0 = BitVec.ofNat 8 (flagBit phase 0 + 2 ^ 1 + flagBit second 2) from byteAt_layOut_zero ..]
  cases phase <;> cases second <;> decide

/-- R186: an entry is 32 bytes, with the write phase in bit 0 of its first. -/
theorem entryBody_bytes (phase : Bool) (body : EntryBody) : (body.bytes phase).length = 32 ∧ (byteAt (body.bytes phase) 0).getLsbD 0 = phase := by
  cases body with
  | completion c => exact completion_bytes phase c
  | notice n second => exact notice_bytes phase n second

/-! ## Handing on (R186) -/

theorem isWaiting_iff (e : BacklogEntry) : e.isWaiting = true ↔ e.write = .waiting := beq_iff_eq

theorem exec_completionEntryHand (s : State) : exec .completionEntryHand s = .next (match s.backlog.entries[s.backlog.entries.findIdx BacklogEntry.isWaiting]? with
    | some e => if s.running && s.rings.comp.state == .active && s.rings.hasRoom then handEntry (s.backlog.entries.findIdx BacklogEntry.isWaiting) e s else s
    | none => s) := rfl

theorem rings_hasRoom_iff (r : Rings) : r.hasRoom = true ↔ (r.writePos + r.comp.size.toNat - r.comp.cons) % r.comp.size.toNat + 1 < r.comp.size.toNat :=
  decide_eq_true_iff

theorem exec_completionEntryHand_idle {s : State} (idle : s.running = false ∨ s.rings.comp.state ≠ .active ∨
      ¬ ((s.rings.writePos + s.rings.comp.size.toNat - s.rings.comp.cons) % s.rings.comp.size.toNat + 1 < s.rings.comp.size.toNat) ∨
      ∀ e ∈ s.backlog.entries, e.write ≠ .waiting) : exec .completionEntryHand s = .next s := by
  rw [exec_completionEntryHand]
  cases head : s.backlog.entries[s.backlog.entries.findIdx BacklogEntry.isWaiting]? with
  | none => rfl
  | some e =>
    refine congrArg Host.Outcome.next (if_neg fun may => ?_)
    simp only [Bool.and_eq_true, beq_iff_eq, rings_hasRoom_iff] at may
    obtain ⟨⟨running, active⟩, room⟩ := may
    obtain ⟨inside, here⟩ := List.getElem?_eq_some_iff.mp head
    rcases idle with stopped | inactive | full | handed
    · rw [running] at stopped
      cases stopped
    · exact inactive active
    · exact full room
    · exact handed _ (List.getElem_mem inside) ((isWaiting_iff _).mp (List.findIdx_getElem (p := BacklogEntry.isWaiting)))

/-- R186: the write position and phase after a hand. -/
theorem rings_advance (r : Rings) : (∀ n, r.advance.get n = r.get n) ∧
    (r.writePos + 1 < r.comp.size.toNat → r.advance.writePos = r.writePos + 1 ∧ r.advance.writePhase = r.writePhase) ∧
    (r.comp.size.toNat ≤ r.writePos + 1 → r.advance.writePos = 0 ∧ r.advance.writePhase = !r.writePhase) := by
  unfold Rings.advance
  split
  · rename_i more
    exact ⟨fun n => by cases n <;> rfl, fun _ => ⟨rfl, rfl⟩, fun wrap => absurd more wrap.not_gt⟩
  · rename_i wrap
    exact ⟨fun n => by cases n <;> rfl, fun more => absurd more wrap, fun _ => ⟨rfl, rfl⟩⟩

/-! ## The service of owed notices, as far as it goes (R188) -/

/-- What is left to serve, each item but a pressure flag counted twice: for the pressure flag that its record's service may set. -/
def serviceLeft (s : State) : Nat := 2 * (s.backlog.free + s.backlog.owedList.length) + s.backlog.owedPressure.toNat

/-- What one service does whatever it serves. -/
structure ServiceStep (s t : State) : Prop where
  kept : KeepsAllBut [.backlog, .table, .regions, .cache] s t
  entries : ∃ more, t.backlog.entries = s.backlog.entries ++ more
  reservations : t.backlog.reservations = s.backlog.reservations

theorem ServiceStep.refl (s : State) : ServiceStep s s := ⟨.refl _ s, ⟨[], (List.append_nil _).symm⟩, rfl⟩

theorem ServiceStep.trans {s t u : State} (h : ServiceStep s t) (g : ServiceStep t u) : ServiceStep s u := by
  obtain ⟨more, entries⟩ := h.entries
  obtain ⟨rest, entries'⟩ := g.entries
  exact ⟨h.kept.trans g.kept (List.Subset.refl _) (List.Subset.refl _), ⟨more ++ rest, by rw [entries', entries, List.append_assoc]⟩,
    g.reservations.trans h.reservations⟩

theorem free_eq (s : State) : s.backlog.free = 64 - s.backlog.entries.length - s.backlog.reservations := rfl

/-- An item that takes places of the Backlog. -/
theorem serviceLeft_lt {s t : State} {bodies more : List BacklogEntry} (entries : t.backlog.entries = s.backlog.entries ++ bodies ++ more)
    (reservations : t.backlog.reservations = s.backlog.reservations) (some_ : 0 < bodies.length) (fits : bodies.length ≤ s.backlog.free)
    (list : t.backlog.owedList.length ≤ s.backlog.owedList.length) : serviceLeft t < serviceLeft s := by
  have left : t.backlog.owedPressure.toNat ≤ 1 := Bool.toNat_le _
  unfold serviceLeft
  rw [free_eq] at fits
  rw [free_eq, free_eq, entries, reservations, List.length_append, List.length_append]
  omega

theorem servePressure_step {s t : State} (owed : s.backlog.owedPressure = true) (h : servePressure s = some t) : ServiceStep s t ∧ serviceLeft t < serviceLeft s := by
  unfold servePressure at h
  split at h
  · cases h
    refine ⟨⟨keepsAllBut_iff.mpr (by simp), ⟨[], (List.append_nil _).symm⟩, rfl⟩, ?_⟩
    simp [serviceLeft, Backlog.free, owed]
  · split at h
    · cases h
    · rename_i room
      cases h
      refine ⟨⟨keepsAllBut_iff.mpr (by simp), ⟨_, rfl⟩, rfl⟩, ?_⟩
      exact serviceLeft_lt (bodies := waitingEntries (Notice.pressure s.table.rising s.table.records.length).bodies) (more := []) (List.append_nil _).symm rfl
        Nat.one_pos (Nat.pos_of_ne_zero room) le_rfl

theorem serveRegion_step {x : Region} {s t : State} (h : serveRegion x s = some t) : ServiceStep s t ∧ serviceLeft t < serviceLeft s := by
  unfold serveRegion at h
  split at h
  · cases h
  · rename_i room
    cases h
    refine ⟨⟨keepsAllBut_iff.mpr (by simp), ⟨_, rfl⟩, rfl⟩, ?_⟩
    exact serviceLeft_lt (bodies := waitingEntries (Notice.regionState x (s.region x).state (s.region x).lastReported (s.region x).miss (s.region x).unreported).bodies)
      (more := []) (List.append_nil _).symm rfl Nat.one_pos (Nat.pos_of_ne_zero room) le_rfl

theorem servePlace_step {n : Fin 4} {p : Parked} {s t : State} (h : servePlace n p s = some t) : ServiceStep s t ∧ serviceLeft t < serviceLeft s := by
  unfold servePlace at h
  split at h
  · cases h
  · rename_i room
    cases h
    refine ⟨⟨keepsAllBut_iff.mpr (by simp), ⟨_, rfl⟩, rfl⟩, ?_⟩
    exact serviceLeft_lt (bodies := waitingEntries (Notice.bucketMiss p.bucket.1 p.bucket.2 n.val).bodies) (more := []) (List.append_nil _).symm rfl Nat.one_pos
      (Nat.pos_of_ne_zero room) le_rfl

theorem serviceBodies_pos (r : Record) : 0 < (waitingEntries (serviceBodies r)).length := by
  rw [waitingEntries_length, serviceBodies, List.length_append]
  exact Nat.add_pos_right _ (Nat.succ_pos _)

theorem serveRecord_step {k : Key} {rest : List Key} {s t : State} (list : s.backlog.owedList = k :: rest) (h : serveRecord k rest s = some t) :
    ServiceStep s t ∧ serviceLeft t < serviceLeft s := by
  cases found : s.table.find k with
  | none =>
    rw [serveRecord, found] at h
    cases h
    refine ⟨⟨keepsAllBut_iff.mpr (by simp), ⟨[], (List.append_nil _).symm⟩, rfl⟩, ?_⟩
    unfold serviceLeft
    rw [list]
    exact Nat.add_lt_add_right (Nat.mul_lt_mul_of_pos_left (Nat.add_lt_add_left (Nat.lt_succ_self _) _) Nat.two_pos) _
  | some r =>
    rw [serveRecord_of_found found] at h
    split at h
    · cases h
    · rename_i fits
      cases h
      let u := recordServed k rest (serviceBodies r) s
      obtain ⟨kept, -, -, -, es, -, entries, owedList, reservations⟩ := retireAndCompare_effect k u
      have keptU : KeepsAllBut [.backlog, .table] s u := keepsAllBut_iff.mpr (by simp [u, recordServed])
      have all : (pressureCheck (retireIfDue k u)).backlog.entries = s.backlog.entries ++ waitingEntries (serviceBodies r) ++ es := entries
      refine ⟨⟨keptU.trans kept (by decide) (by decide), ⟨waitingEntries (serviceBodies r) ++ es, by rw [all, List.append_assoc]⟩, reservations⟩, ?_⟩
      refine serviceLeft_lt all reservations (serviceBodies_pos r) (by rw [waitingEntries_length]; exact Nat.not_lt.mp fits) ?_
      rw [owedList, list]
      exact Nat.le_succ _

theorem serveOne_step {s t : State} (h : serveOne s = some t) : ServiceStep s t ∧ serviceLeft t < serviceLeft s := by
  unfold serveOne at h
  split at h
  · rename_i owed
    exact servePressure_step owed h
  · split at h
    · exact serveRegion_step h
    · split at h
      · exact servePlace_step h
      · split at h
        · rename_i list
          exact serveRecord_step list h
        · cases h

theorem serveUpTo_step (n : Nat) (s : State) : ServiceStep s (serveUpTo n s) := by
  induction n generalizing s with
  | zero => exact .refl s
  | succ n ih =>
    unfold serveUpTo
    split
    · rename_i one
      exact (serveOne_step one).1.trans (ih _)
    · exact .refl s

/-- With turns enough the service goes on up to the first item that does not fit. -/
theorem serveUpTo_complete {n : Nat} {s : State} (enough : serviceLeft s < n) : serveOne (serveUpTo n s) = none := by
  induction n generalizing s with
  | zero => cases enough
  | succ n ih =>
    unfold serveUpTo
    split
    · rename_i one
      exact ih (Nat.lt_of_lt_of_le (serveOne_step one).2 (Nat.lt_succ_iff.mp enough))
    · assumption

/-- R188: the service of an event serves all that fits. -/
theorem serve_allServed (s : State) : AllServed s (serve s) := by
  refine ⟨serveUpTo_complete ?_, serveUpTo_served _ s⟩
  have left : s.backlog.owedPressure.toNat ≤ 1 := Bool.toNat_le _
  have free : s.backlog.free ≤ 64 := (Nat.sub_le _ _).trans (Nat.sub_le _ _)
  show serviceLeft s < 2 * (64 + s.backlog.owedList.length) + 2
  unfold serviceLeft
  omega

theorem serve_of_none {s : State} (none : s.anyOwed = false) : serve s = s := by
  show serveUpTo (_ + 1) s = s
  unfold serveUpTo
  rw [serveOne_of_none none]

/-! ## Entries written (R186, R190) -/

theorem raiseEntries_raises {s : State} (running : s.running = true) : KeepsAllBut [.irq] s (raiseEntries s) ∧
    MessageRaised { s.irq with entries := true, unsignalled := 0, timer := none } (raiseEntries s).irq := by
  refine ⟨keepsAllBut_iff.mpr (by simp), ?_⟩
  exact (raise_raises (s := s.withIrq { s.irq with entries := true, unsignalled := 0, timer := none }) (mayRaise_of_running running)).2

/-- R190: the entries that leave are counted, and at the trigger level a message is raised. -/
theorem countEntries_effect {n : Nat} {s : State} (some_ : 0 < n) (running : s.running = true) :
    let count := s.irq.unsignalled + n
    let timer := if s.irq.unsignalled = 0 ∧ s.irq.coalesce ≠ 0 then some (s.now + s.irq.coalesce.toNat) else s.irq.timer
    let t := countEntries n s
    KeepsAllBut [.irq] s t ∧ t = s.withIrq t.irq ∧ (count < s.irq.trigger.toNat → t.irq = { s.irq with unsignalled := count, timer := timer }) ∧
      (s.irq.trigger.toNat ≤ count → MessageRaised { s.irq with entries := true, unsignalled := 0, timer := none } t.irq) := by
  intro count timer t
  let u := s.withIrq { s.irq with unsignalled := count, timer := timer }
  have eq : t = if s.irq.trigger.toNat ≤ count then raiseEntries u else u := if_neg some_.ne'
  by_cases reached : s.irq.trigger.toNat ≤ count
  · rw [if_pos reached] at eq
    obtain ⟨kept, raised⟩ := raiseEntries_raises (s := u) running
    refine ⟨?_, ?_, fun below => absurd reached below.not_ge, fun _ => by rw [eq]; exact raised⟩
    · rw [eq]
      exact (keepsAllBut_iff.mpr (by simp [u]) : KeepsAllBut [.irq] s u).trans kept (List.Subset.refl _) (List.Subset.refl _)
    rw [eq]
    unfold raiseEntries raise
    split
    · split <;> rfl
    · rfl
  · rw [if_neg reached] at eq
    exact ⟨by rw [eq]; exact keepsAllBut_iff.mpr (by simp [u]), by rw [eq]; rfl, fun _ => by rw [eq]; rfl, fun at_ => absurd at_ reached⟩

theorem exec_completionWriteDone {s : State} {id : Nat} (running : s.running = true)
    (ended : ∃ op ∈ s.hme.ops, op.id = id ∧ op.use = .completion ∧ op.succeeded = true) :
    exec (.completionWriteDone id) s = .next (leaveBacklog (markEntry id .written (dropOp id s))) := by
  refine congrArg Host.Outcome.next (if_pos ?_)
  rw [running, (completionOp_iff s id Op.succeeded).mpr ended]
  rfl

theorem exec_coalescingTimerExpiry (s : State) : exec .coalescingTimerExpiry s =
    .next (if s.running && expired s.now s.irq.timer then raiseEntries s else s) := rfl

theorem markEntry_backlog (id : Nat) (st : WriteState) (s : State) : (markEntry id st s).backlog =
    { s.backlog with entries := s.backlog.entries.map fun e => if e.write = .writing id then { e with write := st } else e } := by
  simp only [markEntry, beq_iff_eq]
  rfl

/-- R186, R188, R190: the entries written at the head leave. -/
theorem leaveBacklog_effect {s : State} (running : s.running = true) (some_ : 0 < s.backlog.written) :
    let n := s.backlog.written
    let count := s.irq.unsignalled + n
    let timer := if s.irq.unsignalled = 0 ∧ s.irq.coalesce ≠ 0 then some (s.now + s.irq.coalesce.toNat) else s.irq.timer
    let t := leaveBacklog s
    t.rings = { s.rings with comp := { s.rings.comp with prod := (s.rings.comp.prod + n) % s.rings.comp.size.toNat } } ∧
      (∃ served, t.backlog.entries = s.backlog.entries.drop n ++ served ∧ (s.anyOwed = false → served = [] ∧ KeepsAllBut [.backlog, .rings, .irq] s t)) ∧
      t.backlog.reservations = s.backlog.reservations ∧ KeepsAllBut [.backlog, .rings, .irq, .table, .regions, .cache] s t ∧
      AllServed (((s.withBacklog { s.backlog with entries := s.backlog.entries.drop n }).withRings t.rings).withIrq t.irq) t ∧
      (count < s.irq.trigger.toNat → t.irq = { s.irq with unsignalled := count, timer := timer }) ∧
      (s.irq.trigger.toNat ≤ count → MessageRaised { s.irq with entries := true, unsignalled := 0, timer := none } t.irq) := by
  intro n count timer t
  let v := popEntries n s
  let u := countEntries n v
  obtain ⟨keptCount, irqOnly, below, reached⟩ := countEntries_effect (s := v) some_ running
  have eq : t = serve u := if_neg some_.ne'
  have step : ServiceStep u (serve u) := serveUpTo_step ..
  have rings : t.rings = v.rings := by
    rw [eq, step.kept .rings (by decide), show u.rings = (v.withIrq u.irq).rings from congrArg State.rings irqOnly]
    rfl
  have irq : t.irq = u.irq := by rw [eq, step.kept .irq (by decide)]
  have backlog : u.backlog = { s.backlog with entries := s.backlog.entries.drop n } := by
    rw [show u.backlog = (v.withIrq u.irq).backlog from congrArg State.backlog irqOnly]
    rfl
  have keptU : KeepsAllBut [.backlog, .rings, .irq] s u :=
    (keepsAllBut_iff.mpr (by simp [v, popEntries]) : KeepsAllBut [.backlog, .rings] s v).trans keptCount (by decide) (by decide)
  refine ⟨rings, ?_, ?_, ?_, ?_, ?_, ?_⟩
  · obtain ⟨served, entries⟩ := step.entries
    rw [← eq, backlog] at entries
    refine ⟨served, entries, fun none => ?_⟩
    have noneU : u.anyOwed = false := by
      rw [anyOwed_eq_false_iff] at none ⊢
      obtain ⟨pressure, regions, places, list⟩ := none
      have sameRegions : u.regions = s.regions := keptU .regions (by decide)
      have sameCache : u.bmc = s.bmc := keptU .cache (by decide)
      rw [backlog, sameCache]
      exact ⟨pressure, fun x => by rw [State.region, sameRegions]; exact regions x, places, list⟩
    have same : t = u := eq.trans (serve_of_none noneU)
    rw [same] at entries ⊢
    rw [backlog] at entries
    exact ⟨by simpa using entries, keptU⟩
  · rw [eq, step.reservations, backlog]
  · rw [eq]
    exact keptU.trans step.kept (by decide) (by decide)
  · have start : u = ((s.withBacklog { s.backlog with entries := s.backlog.entries.drop n }).withRings t.rings).withIrq t.irq := by
      rw [rings, irq]
      exact irqOnly
    rw [← start, eq]
    exact serve_allServed u
  · rw [irq]
    exact below
  · rw [irq]
    exact reached

/-- Settles O20. -/
theorem completionEntriesAreWrittenInOrderAndSignalled : Obligations.CompletionEntriesAreWrittenInOrderAndSignalled := by
  refine ⟨fun s => ?_, fun id s ended running => ?_, fun s deadline running timer => ⟨fun early => ?_, fun late => ?_⟩⟩
  · intro r room
    refine ⟨exec_completionEntryHand_idle, fun before body after running active open_ entries handed => ?_⟩
    have place : s.backlog.entries.findIdx BacklogEntry.isWaiting = before.length := by
      rw [entries]
      refine findIdx_append_cons (fun e mem => ?_) rfl
      rw [← Bool.not_eq_true, isWaiting_iff]
      exact handed e mem
    have head : s.backlog.entries[before.length]? = some { body := body, write := .waiting } := by
      rw [entries, List.getElem?_append_right le_rfl, Nat.sub_self]
      rfl
    have may : (s.running && s.rings.comp.state == .active && s.rings.hasRoom) = true := by
      rw [running, (rings_hasRoom_iff s.rings).mpr open_, show s.rings.comp.state = .active from active]
      rfl
    obtain ⟨same, more, wrap⟩ := rings_advance s.rings
    obtain ⟨length, phase⟩ := entryBody_bytes s.rings.writePhase body
    rw [exec_completionEntryHand, place, head]
    dsimp only
    rw [if_pos may]
    refine ⟨_, rfl, keepsAllBut_iff.mpr (by simp [handEntry]), ?_, same, more, wrap, length, phase, ?_⟩
    · show { s.backlog with entries := s.backlog.entries.modify before.length fun e => { e with write := .writing s.hme.nextOp } } = _
      rw [entries, modify_append_cons]
    · have added := (addWrite_adds .completion (s.rings.comp.base + BitVec.ofNat 64 (32 * s.rings.writePos)) (body.bytes s.rings.writePhase)
        ((s.withBacklog { s.backlog with entries := s.backlog.entries.modify before.length fun e => { e with write := .writing s.hme.nextOp } }).withRings
          s.rings.advance)).2
      rw [length] at added
      exact added
  · intro marked n count timer
    let u := markEntry id .written (dropOp id s)
    have backlog : u.backlog = { s.backlog with entries := marked } := markEntry_backlog ..
    have written : u.backlog.written = n := by rw [Backlog.written, backlog]
    have keptU : KeepsAllBut [.backlog, .engine] s u := keepsAllBut_iff.mpr (by simp [u, markEntry])
    rw [exec_completionWriteDone running ended]
    refine ⟨_, rfl, ?_, fun none => ?_, fun some_ => ?_⟩
    · rcases Nat.eq_zero_or_pos n with none | some_
      · exact congrArg State.hme (show leaveBacklog u = u from if_pos (written.trans none))
      · obtain ⟨-, -, -, kept, -⟩ := leaveBacklog_effect (s := u) running (written ▸ some_)
        exact kept .engine (by decide)
    · have same : leaveBacklog u = u := if_pos (written.trans none)
      rw [show leaveBacklog _ = u from same]
      exact ⟨keptU, backlog⟩
    · obtain ⟨rings, ⟨served, entries, none⟩, reservations, kept, all, below, reached⟩ := leaveBacklog_effect (s := u) running (written ▸ some_)
      rw [written] at rings entries all below reached
      rw [backlog] at entries reservations all
      refine ⟨rings, ⟨served, entries, fun nothing => ?_⟩, reservations, keptU.trans kept (by decide) (by decide), all, below, reached⟩
      have nothingU : u.anyOwed = false := by
        rw [anyOwed_eq_false_iff] at nothing ⊢
        rw [backlog]
        exact nothing
      obtain ⟨empty, keptNone⟩ := none nothingU
      exact ⟨empty, keptU.trans keptNone (by decide) (by decide)⟩
  · rw [exec_coalescingTimerExpiry, if_neg]
    rw [timer, Bool.and_eq_true, expired_iff]
    rintro ⟨-, d, same, passed⟩
    cases same
    exact absurd passed early.not_ge
  · rw [exec_coalescingTimerExpiry, if_pos (by rw [running, (expired_iff ..).mpr ⟨deadline, timer, late⟩]; rfl)]
    obtain ⟨kept, raised⟩ := raiseEntries_raises running
    exact ⟨_, rfl, kept, raised⟩

end Sys2Proof.Machine
end

section
/-! PROOFS. Region entries: sendability handed on, backoff, hold and pace, hearing, REGION.SET of a region that stays, REGION.GET. -/

namespace Sys2Proof.Machine

/-! ## A change of sendability (R103, R149) -/

theorem handingOn_of_same {x : Region} {event : State → State} {s : State} (same : (event s).sendable x = s.sendable x) : handingOn x event s = event s :=
  if_pos (beq_iff_eq.mpr same)

theorem handingOn_of_changed {x : Region} {event : State → State} {s : State} (changed : (event s).sendable x ≠ s.sendable x) : handingOn x event s =
    (event s).withPool { (event s).pool with
      ctx := (event s).pool.ctx.map (stallOnChange ((event s).now + (event s).settingTime 0) x ((event s).sendable x)) } :=
  if_neg (mt beq_iff_eq.mp changed)

theorem handingOn_keepsAllBut (x : Region) (event : State → State) (s : State) : KeepsAllBut [.contexts] (event s) (handingOn x event s) := by
  by_cases same : (event s).sendable x = s.sendable x
  · rw [handingOn_of_same same]
    exact .refl _ _
  · rw [handingOn_of_changed same]
    exact keepsAllBut_iff.mpr (by simp)

theorem sendable_of_regions {s t : State} (h : t.regions = s.regions) (x : Region) : t.sendable x = s.sendable x := by
  rw [State.sendable, State.region, h]
  rfl

/-- R149: an event that leaves the contexts alone hands its change of sendability on to them. -/
theorem handingOn_handsOn {x : Region} {event : State → State} {s : State} {touched : List Block} (kept : KeepsAllBut touched s (event s))
    (none : ∀ b ∈ [Block.clock, .settings, .contexts], b ∉ touched := by decide) : SendabilityHandedOn x s (handingOn x event s) := by
  have pool : (event s).pool = s.pool := kept .contexts (none .contexts (by decide))
  have time : (event s).now + (event s).settingTime 0 = s.now + s.settingTime 0 := by
    unfold State.settingTime State.setting
    rw [show (event s).now = s.now from kept .clock (none .clock (by decide)), show (event s).settings = s.settings from kept .settings (none .settings (by decide))]
  have sendable : (handingOn x event s).sendable x = (event s).sendable x := sendable_of_regions (handingOn_keepsAllBut x event s .regions (by decide)) x
  unfold SendabilityHandedOn
  rw [sendable]
  refine ⟨fun same => ?_, fun changed => ?_⟩
  · rw [handingOn_of_same same, pool]
  · rw [handingOn_of_changed changed, pool, time]
    refine ⟨rfl, fun c => ?_⟩
    refine (vget_map ..).trans ?_
    show stallOnChange _ _ _ (s.ctx c) = _
    cases s.ctx c with
    | free => rfl
    | inb i => rfl
    | out o => simp [stallOnChange]

/-- What an event at a region's entry does, its change of sendability handed on. -/
theorem handingOn_modRegion {x : Region} {event : State → State} {f : RegionEntry → RegionEntry} {s : State} (eq : event s = modRegion x f s) :
    let t := handingOn x event s
    KeepsAllBut [.regions, .contexts] s t ∧ OtherRegions x s t ∧ t.regions.probe = s.regions.probe ∧ t.region x = f (s.region x) ∧ SendabilityHandedOn x s t := by
  intro t
  obtain ⟨kept, entry, others, probe⟩ := modRegion_effect x f s
  rw [← eq] at kept entry others probe
  have keptOn := handingOn_keepsAllBut x event s
  have regions : t.regions = (event s).regions := keptOn .regions (by decide)
  refine ⟨kept.trans keptOn (by decide) (by decide), fun y hy => ?_, ?_, ?_, handingOn_handsOn kept⟩
  · rw [State.region, regions]
    exact others y hy
  · rw [regions]
    exact probe
  · rw [State.region, regions]
    exact entry

/-! ## Backoff, hold and pace (R147, R148, R151) -/

theorem exec_backoffExpiry (x : Region) (s : State) : exec (.backoffExpiry x) s =
    .next (if s.running && expired s.now (s.region x).backoff then modRegion x (fun e => { e with backoff := none }) s else s) := rfl

theorem exec_holdExpiry (x : Region) (s : State) : exec (.holdExpiry x) s =
    .next (if s.running && expired s.now (s.region x).held then endHold x s else s) := rfl

theorem exec_hold {x : Region} {s : State} (admitted : s.admits x = true) (time : BitVec 16) : exec (.hold x time) s = .next (holdFrame x time.toNat s) :=
  congrArg Host.Outcome.next (if_pos admitted)

theorem exec_resume {x : Region} {s : State} (admitted : s.admits x = true) : exec (.resume x) s = .next (endHold x s) :=
  congrArg Host.Outcome.next (if_pos admitted)

theorem exec_paceWindowEnd (x : Region) (s : State) : exec (.paceWindowEnd x) s = .next (if s.running && (s.region x).counting && (s.region x).remaining == 0 then
    handingOn x (modRegion x RegionEntry.windowEnds) s else s) := rfl

theorem passed_iff (s : State) (deadline : Option Nat) :
    (s.running && expired s.now deadline) = true ↔ s.running = true ∧ ∃ d, deadline = some d ∧ d ≤ s.now := by
  rw [Bool.and_eq_true, expired_iff]

/-- A pace window in phase A that ends: a SINGLE region's timer stops. -/
theorem windowEnds_of_a {e : RegionEntry} (phase : e.phase = .a) (run : e.run = true) (mode : e.mode = .alternate ∨ (e.mode = .single ∧ e.phase = .a)) :
    e.windowEnds = { e with phase := .b, remaining := e.quietWindow * 1000, windowEnd := true, run := e.mode == .alternate } := by
  rw [RegionEntry.windowEnds, phase, run]
  rcases mode with alternate | ⟨single, -⟩
  · rw [alternate]
    rfl
  · rw [single]
    rfl

theorem windowEnds_of_b {e : RegionEntry} (phase : e.phase = .b) :
    e.windowEnds = { e with phase := .a, remaining := e.sendWindow * 1000, windowEnd := true } := by
  rw [RegionEntry.windowEnds, phase]

/-- Settles O55. -/
theorem backoffHoldAndPaceAtTheEntry : Obligations.BackoffHoldAndPaceAtTheEntry := by
  intro x s e becomes passed ends
  have windowDue : (s.running && e.counting && e.remaining == 0) = true ↔ ends := by
    rw [Bool.and_eq_true, Bool.and_eq_true, counting_iff, beq_iff_eq]
    exact ⟨fun ⟨⟨running, run, mode⟩, zero⟩ => ⟨running, zero, run, mode⟩, fun ⟨running, zero, run, mode⟩ => ⟨⟨running, run, mode⟩, zero⟩⟩
  rw [exec_backoffExpiry, exec_holdExpiry, exec_paceWindowEnd]
  refine ⟨fun early => by rw [if_neg (mt (passed_iff s _).mp early)], fun late => ?_, fun early => by rw [if_neg (mt (passed_iff s _).mp early)], fun late => ?_,
    fun admitted => ⟨fun time out => ?_, fun time low high => ?_, ?_⟩, fun early => by rw [if_neg (mt windowDue.mp early)], fun late phase => ?_, fun late phase => ?_⟩
  · rw [if_pos ((passed_iff s _).mpr late)]
    obtain ⟨kept, entry, others, probe⟩ := modRegion_effect x (fun e => { e with backoff := none }) s
    have pool := kept .contexts (by decide)
    have sendable : (modRegion x (fun e => { e with backoff := none }) s).sendable x = s.sendable x := by
      rw [State.sendable, entry]
      rfl
    exact ⟨_, rfl, ⟨kept.weaken (by decide), others, probe, entry, fun _ => pool, fun changed => absurd sendable changed⟩, pool⟩
  · rw [if_pos ((passed_iff s _).mpr late)]
    exact ⟨_, rfl, handingOn_modRegion rfl⟩
  · rw [exec_hold admitted, holdFrame, if_neg (by omega)]
  · rw [exec_hold admitted, holdFrame, if_pos ⟨low, high⟩]
    exact ⟨_, rfl, handingOn_modRegion rfl⟩
  · rw [exec_resume admitted]
    exact ⟨_, rfl, handingOn_modRegion rfl⟩
  · rw [if_pos (windowDue.mpr late)]
    obtain ⟨-, -, run, mode⟩ := late
    rw [← windowEnds_of_a phase run mode]
    exact ⟨_, rfl, handingOn_modRegion rfl⟩
  · rw [if_pos (windowDue.mpr late), ← windowEnds_of_b phase]
    exact ⟨_, rfl, handingOn_modRegion rfl⟩

/-! ## A region's notice (R146, R187) -/

/-- R146: a change of a region's state is reported at once, or owed. -/
theorem reportRegion_effect (x : Region) (s : State) :
    let e := s.region x
    let t := reportRegion x s
    KeepsAllBut [.regions, .backlog] s t ∧ OtherRegions x s t ∧ t.regions.probe = s.regions.probe ∧
      (s.hasRoom 1 → t.region x = { e with lastReported := e.state, unreported := 0 } ∧
        t.backlog = { s.backlog with
          entries := s.backlog.entries ++ waitingEntries [.notice (.regionState x e.state e.lastReported e.miss (e.unreported + 1)) false] }) ∧
      (¬ s.hasRoom 1 → t.region x = { e with unreported := min 255 (e.unreported + 1), owed := true } ∧ t.backlog = s.backlog) := by
  intro e t
  by_cases room : s.hasRoom 1
  · have eq : t = modRegion x (fun e => { e with lastReported := e.state, unreported := 0 })
        (place (Notice.regionState x e.state e.lastReported e.miss (e.unreported + 1)).bodies s) := if_pos room
    obtain ⟨kept, entry, others, probe⟩ := modRegion_effect x (fun e => { e with lastReported := e.state, unreported := 0 })
      (place (Notice.regionState x e.state e.lastReported e.miss (e.unreported + 1)).bodies s)
    rw [← eq] at kept entry others probe
    have placed : KeepsAllBut [.backlog] s (place (Notice.regionState x e.state e.lastReported e.miss (e.unreported + 1)).bodies s) := keepsAllBut_withBacklog _ s
    exact ⟨placed.trans kept (by decide) (by decide), others, probe, fun _ => ⟨entry, kept .backlog (by decide)⟩, fun full => absurd room full⟩
  · have eq : t = modRegion x (fun e => { e with unreported := min Config.unreportedCap (e.unreported + 1), owed := true }) s := if_neg room
    obtain ⟨kept, entry, others, probe⟩ := modRegion_effect x (fun e => { e with unreported := min Config.unreportedCap (e.unreported + 1), owed := true }) s
    rw [← eq] at kept entry others probe
    exact ⟨kept.weaken (by decide), others, probe, fun fits => absurd fits room, fun _ => ⟨entry, kept .backlog (by decide)⟩⟩

/-- A change of a region's entry that keeps its owed flag. -/
theorem modRegion_roomKept (x : Region) {f : RegionEntry → RegionEntry} (flag : ∀ e, (f e).owed = e.owed) (s : State) : RoomKept s (modRegion x f s) := by
  obtain ⟨kept, entry, others, -⟩ := modRegion_effect x f s
  refine ⟨kept .cache (by decide), fun y => ?_, congrArg Backlog.reservations (kept .backlog (by decide))⟩
  by_cases same : y = x
  · rw [same, entry, flag]
  · rw [others y same]

/-! ## The Confirm List spliced in (R69) -/

theorem moved_moved (sl : Slot) (a b : SlotState) : (sl.moved a).moved b = sl.moved b := rfl

theorem requeue_keepsAllBut (k : Key) (x : Region) (s : State) : KeepsAllBut [.table, .lists] s (requeue k x s) := keepsAllBut_iff.mpr (by simp)

theorem find_requeue_self {k : Key} {r : Record} {s : State} (found : s.table.find k = some r) (x : Region) :
    (requeue k x s).table.find k = some (r.withSlot x ((vget r.slots x).moved .pending)) := find_slotTo found x .pending

theorem find_requeue_of_ne {k q : Key} (other : q ≠ k) (x : Region) (s : State) : (requeue k x s).table.find q = s.table.find q :=
  find_modRec_of_ne other _ s

theorem vset_vget_self {α : Type} {n : Nat} (v : Vector α n) (i : Fin n) : vset v i (vget v i) = v := Vector.set_getElem_self _

theorem requeue_alike (k : Key) (x : Region) (s : State) : Alike s (requeue k x s) :=
  (alike_slotTo k x .pending s).trans (.of_table (s := slotTo k x .pending s) rfl rfl rfl rfl rfl rfl)

/-- The slots of the records named become PENDING, and the records join the tail of the Work Queue in their order. -/
def requeueAll (x : Region) (ks : List Key) (s : State) : State := ks.foldl (fun t k => requeue k x t) s

theorem requeueAll_effect (x : Region) (ks : List Key) (s : State) :
    let t := requeueAll x ks s
    KeepsAllBut [.table, .lists] s t ∧ TableRestKept s t ∧ Alike s t ∧
      t.sched = { s.sched with work := vset s.sched.work x (vget s.sched.work x ++ ks) } ∧ (∀ q, s.table.find q = none → t.table.find q = none) ∧
      ∀ q r, s.table.find q = some r → t.table.find q = some (if q ∈ ks then r.withSlot x ((vget r.slots x).moved .pending) else r) := by
  induction ks generalizing s with
  | nil =>
    refine ⟨.refl _ s, .refl s, .refl s, ?_, fun q absent => absent, fun q r found => found.trans (by simp)⟩
    show s.sched = _
    rw [List.append_nil, vset_vget_self]
  | cons k rest ih =>
    obtain ⟨kept, table, alike, sched, absent, found⟩ := ih (requeue k x s)
    refine ⟨(requeue_keepsAllBut k x s).trans kept (List.Subset.refl _) (List.Subset.refl _), (TableRestKept.of_alike (requeue_alike k x s)).trans table,
      (requeue_alike k x s).trans alike, ?_, fun q none => absent q ?_, fun q r here => ?_⟩
    · rw [show requeueAll x (k :: rest) s = requeueAll x rest (requeue k x s) from rfl, sched]
      show { s.sched with work := vset (vset s.sched.work x (vget s.sched.work x ++ [k])) x (vget (vset s.sched.work x (vget s.sched.work x ++ [k])) x ++ rest) } = _
      rw [vset_vset, vget_vset_self, List.append_assoc]
      rfl
    · by_cases same : q = k
      · subst same
        exact (find_modRec q (fun r => r.withSlot x ((vget r.slots x).moved .pending)) s fun _ => rfl).trans (by rw [none]; rfl)
      · rw [find_requeue_of_ne same, none]
    · by_cases same : q = k
      · subst same
        refine (found q _ (find_requeue_self here x)).trans ?_
        rw [if_pos (List.mem_cons_self ..), vget_withSlot, if_pos rfl, withSlot_withSlot, moved_moved]
        split <;> rfl
      · refine (found q r ((find_requeue_of_ne same x s).trans here)).trans ?_
        simp [same]

/-! ## Hearing (R140, R144, R69) -/

theorem exec_frameHeard {x : Region} {s : State} (admitted : s.admits x = true) : exec (.frameHeard x) s = .next (heardFrom x s) :=
  congrArg Host.Outcome.next (if_pos admitted)

theorem exec_probe {x : Region} {s : State} (admitted : s.admits x = true) : exec (.probe x) s = .next (sendCtl x .echo s) :=
  congrArg Host.Outcome.next (if_pos admitted)

/-- R69: the whole Confirm List moves to the tail of the Work Queue. -/
theorem splice_effect (x : Region) (s : State) :
    let moved := (vget s.sched.confirm x).map (·.key)
    let t := splice x s
    KeepsAllBut [.table, .lists] s t ∧ TableRestKept s t ∧ Alike s t ∧
      t.sched = { s.sched with work := vset s.sched.work x (vget s.sched.work x ++ moved), confirm := vset s.sched.confirm x [] } ∧
      ∀ k r, s.table.find k = some r → t.table.find k = some (if k ∈ moved then r.withSlot x ((vget r.slots x).moved .pending) else r) := by
  intro moved t
  let u := s.withSched { s.sched with confirm := vset s.sched.confirm x [] }
  obtain ⟨kept, table, alike, sched, -, found⟩ := requeueAll_effect x moved u
  have keptU : KeepsAllBut [.lists] s u := keepsAllBut_iff.mpr (by simp [u])
  exact ⟨keptU.trans kept (by decide) (by decide), (TableRestKept.of_keeps keptU).trans table, (Alike.of_keeps keptU).trans alike, sched, found⟩

/-- R140: the entry of a region that has been heard. -/
def heardEntry (e : RegionEntry) : RegionEntry := { e with heard := true, miss := 0 }

/-- R140: what is heard of a region, before its change of sendability is handed on. -/
def heardEvent (x : Region) (s : State) : State :=
  if (s.region x).state == .dark then becomeLive x (modRegion x heardEntry s) else modRegion x heardEntry s

theorem heardFrom_eq (x : Region) (s : State) : heardFrom x s = handingOn x (heardEvent x) s := rfl

theorem heardEvent_of_live {x : Region} {s : State} (live : (s.region x).state = .live) : heardEvent x s = modRegion x heardEntry s :=
  if_neg (by rw [live]; decide)

theorem heardEvent_of_dark {x : Region} {s : State} (dark : (s.region x).state = .dark) : heardEvent x s = becomeLive x (modRegion x heardEntry s) :=
  if_pos (beq_iff_eq.mpr dark)

theorem heardFrom_of_live {x : Region} {s : State} (live : (s.region x).state = .live) : heardFrom x s = modRegion x heardEntry s := by
  rw [heardFrom_eq, ← heardEvent_of_live live]
  refine handingOn_of_same ?_
  rw [heardEvent_of_live live, State.sendable, (modRegion_effect x heardEntry s).2.1]
  rfl

/-- R144, R69, R146: what a DARK region does that is heard. -/
theorem becomeLive_effect {x : Region} {s : State} (dark : (s.region x).state = .dark) :
    let e := s.region x
    let moved := (vget s.sched.confirm x).map (·.key)
    let t := heardEvent x s
    KeepsAllBut [.regions, .lists, .table, .backlog] s t ∧ OtherRegions x s t ∧ t.regions.probe = s.regions.probe ∧
      t.sched = { s.sched with work := vset s.sched.work x (vget s.sched.work x ++ moved), confirm := vset s.sched.confirm x [] } ∧
      (∀ k r, s.table.find k = some r → t.table.find k = some (if k ∈ moved then r.withSlot x ((vget r.slots x).moved .pending) else r)) ∧ TableRestKept s t ∧
      (s.hasRoom 1 → t.region x = { e with heard := true, miss := 0, state := .live, lastReported := .live, unreported := 0 } ∧
        t.backlog = { s.backlog with
          entries := s.backlog.entries ++ waitingEntries [.notice (.regionState x .live e.lastReported 0 (e.unreported + 1)) false] }) ∧
      (¬ s.hasRoom 1 → t.backlog = s.backlog ∧
        t.region x = { e with heard := true, miss := 0, state := .live, unreported := min 255 (e.unreported + 1), owed := true }) := by
  intro e moved t
  let u := modRegion x (fun e => { e with state := .live }) (modRegion x heardEntry s)
  let v := splice x u
  have eq : t = reportRegion x v := heardEvent_of_dark dark
  obtain ⟨keptHeard, entryHeard, othersHeard, probeHeard⟩ := modRegion_effect x heardEntry s
  obtain ⟨keptLive, entryLive, othersLive, probeLive⟩ := modRegion_effect x (fun e => { e with state := .live }) (modRegion x heardEntry s)
  obtain ⟨keptSplice, tableSplice, alikeSplice, sched, found⟩ := splice_effect x u
  obtain ⟨keptReport, othersReport, probeReport, room, full⟩ := reportRegion_effect x v
  have keptU : KeepsAllBut [.regions] s u := keptHeard.trans keptLive (List.Subset.refl _) (List.Subset.refl _)
  have regions : v.regions = u.regions := keptSplice .regions (by decide)
  have sameRegion : ∀ y, v.region y = u.region y := fun y => by rw [State.region, regions]; rfl
  have entry : v.region x = { e with heard := true, miss := 0, state := .live } := by rw [sameRegion, entryLive, entryHeard]; rfl
  have backlog : v.backlog = s.backlog := (keptSplice .backlog (by decide)).trans (keptU .backlog (by decide))
  have roomU : RoomKept s u := (modRegion_roomKept x (f := heardEntry) (fun _ => rfl) s).trans
    (modRegion_roomKept x (f := fun e => { e with state := .live }) (fun _ => rfl) (modRegion x heardEntry s))
  have roomKept : RoomKept s v := roomU.trans (.of_keeps keptSplice)
  have alike : Alike s v := (Alike.of_keeps keptU).trans alikeSplice
  have table : t.table = v.table := by rw [eq]; exact keptReport .table (by decide)
  rw [alike.hasRoom roomKept, entry, backlog] at room full
  rw [eq]
  refine ⟨(keptU.trans keptSplice (zs := [.regions, .lists, .table, .backlog]) (by decide) (by decide)).trans keptReport (by decide) (by decide),
    fun y hy => ?_, ?_, ?_, fun k r here => ?_, ?_, room, fun none => (full none).symm⟩
  · rw [othersReport y hy, sameRegion, othersLive y hy, othersHeard y hy]
  · rw [probeReport, regions, probeLive, probeHeard]
  · rw [show (reportRegion x v).sched = v.sched from keptReport .lists (by decide), sched]
    rfl
  · rw [← eq, table]
    exact found k r here
  · have rest : TableRestKept s v := .of_alike alike
    have pressure : (reportRegion x v).backlog.owedPressure = v.backlog.owedPressure := by
      by_cases fits : s.hasRoom 1
      · rw [(room fits).2, backlog]
      · rw [(full fits).2, backlog]
    unfold TableRestKept PressureKept at rest ⊢
    rwa [← eq, table, eq, pressure]

/-- Settles O53. -/
theorem hearingFromARegion : Obligations.HearingFromARegion := by
  refine ⟨fun x s admitted => ?_, fun _ _ => rfl⟩
  intro e moved notice
  rw [exec_frameHeard admitted, exec_probe admitted]
  refine ⟨fun live => ?_, fun dark => ?_, ⟨_, rfl, keepsAllBut_iff.mpr (by simp), sendCtl_frameSent ..⟩⟩
  · rw [heardFrom_of_live live]
    obtain ⟨kept, entry, others, probe⟩ := modRegion_effect x heardEntry s
    exact ⟨_, rfl, kept, others, probe, entry⟩
  · rw [heardFrom_eq]
    obtain ⟨kept, others, probe, sched, found, rest, room, full⟩ := becomeLive_effect dark
    have keptOn := handingOn_keepsAllBut x (heardEvent x) s
    have regions := keptOn .regions (by decide)
    have sameRegion : ∀ y, (handingOn x (heardEvent x) s).region y = (heardEvent x s).region y := fun y => by rw [State.region, regions]; rfl
    have table : (handingOn x (heardEvent x) s).table = _ := keptOn .table (by decide)
    have backlog : (handingOn x (heardEvent x) s).backlog = _ := keptOn .backlog (by decide)
    refine ⟨_, rfl, kept.trans keptOn (by decide) (by decide), fun y hy => (sameRegion y).trans (others y hy), ?_, handingOn_handsOn kept, ?_, ?_,
      rest.after table backlog, ?_, ?_⟩
    · rw [regions, probe]
    · rw [show (handingOn x (heardEvent x) s).sched = _ from keptOn .lists (by decide), sched]
    · rw [table]
      exact found
    · rw [sameRegion, backlog]
      exact room
    · rw [sameRegion, backlog]
      exact full

end Sys2Proof.Machine
end

section
/-! PROOFS. REGION.SET of a region that stays in its state, and REGION.GET. -/

namespace Sys2Proof.Machine

/-! ## The checks of REGION.SET (R152) -/

theorem windowOk_iff (w : BitVec 32) : windowOk w = true ↔ 1 ≤ w.toNat ∧ w.toNat ≤ 86400 := by
  unfold windowOk
  rw [Bool.and_eq_true, decide_eq_true_iff, decide_eq_true_iff]
  rfl

theorem paceMode_known_iff (b : Byte) : (PaceMode.ofCode b).isNone = false ↔ b.toNat ≤ 2 := by
  unfold PaceMode.ofCode
  generalize b.toNat = n
  match n with
  | 0 | 1 | 2 => simp
  | n + 3 => simp

theorem badRegionSetting_iff (q : RegionSetReq) (s : State) :
    badRegionSetting q (s.region (regionOf (BitVec.ofNat 8 s.ownIndex))).station = true ↔ RegionSetReq.badSetting q s := by
  unfold badRegionSetting RegionSetReq.badSetting isGroup
  simp only [Bool.or_eq_true, Bool.and_eq_true, Bool.not_eq_true', beq_iff_eq]
  refine or_congr (and_congr_right' ?_) Iff.rfl
  rw [← windowOk_iff, ← windowOk_iff, ← paceMode_known_iff, or_assoc, not_and_or, not_and_or, Bool.not_eq_false, Bool.not_eq_true, Bool.not_eq_true]

/-! ## The groups of REGION.SET (R153) -/

theorem paceMode_of_known {b : Byte} (known : b.toNat ≤ 2) (mode : PaceMode) :
    (PaceMode.ofCode b).getD mode = if b.toNat = 0 then .off else if b.toNat = 1 then .alternate else .single := by
  unfold PaceMode.ofCode
  revert known
  generalize b.toNat = n
  match n with
  | 0 | 1 | 2 => exact fun _ => rfl
  | n + 3 => exact fun known => absurd known (by omega)

/-- R153 step 3, of a request whose settings are good. -/
theorem applyPace_eq {q : RegionSetReq} {s : State} (good : ¬ RegionSetReq.badSetting q s) (e : RegionEntry) : applyPace q e = if q.applyPace = true then
    { e with mode := if q.paceMode.toNat = 0 then .off else if q.paceMode.toNat = 1 then .alternate else .single, sendWindow := q.sendWindow.toNat,
             quietWindow := q.quietWindow.toNat, phase := .a, remaining := q.sendWindow.toNat * 1000 } else e := by
  unfold applyPace
  split
  · rename_i applies
    have known : q.paceMode.toNat ≤ 2 := by
      by_contra unknown
      exact good (.inl ⟨applies, fun all => unknown all.1⟩)
    rw [paceMode_of_known known]
  · rfl

/-- R153 steps 2 to 5: what the groups write, of a request whose settings are good. -/
theorem applyGroups_eq {q : RegionSetReq} {s : State} (good : ¬ RegionSetReq.badSetting q s) (e : RegionEntry) : applyGroups q e = RegionSetReq.written q e := by
  unfold applyGroups RegionSetReq.written
  simp only [applyPace_eq good]
  cases q.applyStation <;> cases q.applyPace <;> cases q.applyRun <;> cases q.clearWindowEnd <;> simp

theorem exec_regionGet (ring : ReqRing) (tag : Word) (b : Byte) (s : State) :
    exec (.regionGet ring tag b) s = .next (taking ring (takeRegionGet ring tag b) s) := rfl

/-- R154: the time left to a deadline, rounded up to milliseconds. -/
theorem millisLeft_bounds (now : Nat) (deadline : Option Nat) : (deadline = none → millisLeft now deadline = 0) ∧ ∀ d, deadline = some d →
    d ≤ now + 1000 * millisLeft now deadline ∧ (millisLeft now deadline = 0 ∨ now + 1000 * (millisLeft now deadline - 1) < d) := by
  unfold millisLeft
  refine ⟨fun none => by rw [none]; rfl, fun d some_ => ?_⟩
  rw [some_, Option.map_some, Option.getD_some]
  omega

/-- R153 step 1 does nothing to a region that stays in its state. -/
theorem applyEnable_of_stays {q : RegionSetReq} {x : Region} {s : State} (stays : q.applyEnable = false ∨ (q.enable = true ∧ (s.region x).state ≠ .suspended) ∨
    (q.enable = false ∧ (s.region x).state ≠ .dark ∧ (s.region x).state ≠ .live)) : applyEnable q x s = s := by
  unfold applyEnable
  rcases stays with no | ⟨enable, notSuspended⟩ | ⟨disable, notDark, notLive⟩
  · exact if_neg (by rw [no]; exact Bool.false_ne_true)
  · split
    · rw [enable]
      split
      · rename_i state disable
        cases disable
      · rename_i state disable
        cases disable
      · rename_i state _
        exact absurd state notSuspended
      · rfl
    · rfl
  · split
    · rw [disable]
      split
      · rename_i state _
        exact absurd state notDark
      · rename_i state _
        exact absurd state notLive
      · rename_i state enable
        cases enable
      · rfl
    · rfl

theorem suspendCount_of_stays {q : RegionSetReq} {x : Region} {s : State} (stays : q.applyEnable = false ∨ (q.enable = true ∧ (s.region x).state ≠ .suspended) ∨
    (q.enable = false ∧ (s.region x).state ≠ .dark ∧ (s.region x).state ≠ .live)) : suspendCount q x s = 0 := by
  refine if_neg fun counts => ?_
  simp only [Bool.and_eq_true, Bool.not_eq_true', RegionState.probed, Bool.or_eq_true, beq_iff_eq] at counts
  obtain ⟨⟨applies, disable⟩, probed⟩ := counts
  rcases stays with no | ⟨enable, -⟩ | ⟨-, notDark, notLive⟩
  · rw [no] at applies
    cases applies
  · rw [enable] at disable
    cases disable
  · exact probed.elim notDark notLive

theorem SendabilityHandedOn.before {x : Region} {s u t : State} (h : SendabilityHandedOn x u t) (pool : u.pool = s.pool) (regions : u.regions = s.regions)
    (now : u.now = s.now) (settings : u.settings = s.settings) : SendabilityHandedOn x s t := by
  unfold SendabilityHandedOn State.settingTime State.setting State.ctx at h ⊢
  rwa [sendable_of_regions regions, pool, now, settings] at h

theorem SendabilityHandedOn.after {x : Region} {s t v : State} (h : SendabilityHandedOn x s t) (pool : v.pool = t.pool) (regions : v.regions = t.regions) :
    SendabilityHandedOn x s v := by
  unfold SendabilityHandedOn State.ctx at h ⊢
  rwa [sendable_of_regions regions, pool]

theorem complete_backlog_congr {s t : State} (same : t.backlog = s.backlog) (ring : ReqRing) (tag : Word) (kind : Byte) (status : Status) (body : CompBody) :
    (complete ring tag kind status body t).backlog = (complete ring tag kind status body s).backlog := by
  simp only [complete, place, State.withBacklog_backlog, same]

/-- Settles O56. -/
theorem regionSetWritesItsGroupsAndRegionGetReads : Obligations.RegionSetWritesItsGroupsAndRegionGetReads := by
  refine ⟨fun q s ok => ?_, fun ring tag b s ok => ?_⟩
  · intro x e other bad after refused stays
    have done : ∀ status, answer .management q.tag .regionSet status .plain (reserve s) = s.answered .management q.tag 0x21 status .plain := fun status =>
      complete_reserve .management q.tag 0x21 status .plain s
    have badTaken : badRegionSetting q ((reserve s).region (regionOf (BitVec.ofNat 8 (reserve s).ownIndex))).station = true ↔ bad := badRegionSetting_iff q s
    have wrongTaken : (q.applyStation && ((reserve s).region x).state != .suspended) = true ↔ q.applyStation = true ∧ e.state ≠ .suspended := by
      rw [Bool.and_eq_true, bne_iff_ne]
      rfl
    have exec_eq : exec (.regionSet .management q) s = .next (takeRegionSet .management q (reserve s)) := by rw [exec_regionSet, taking_of_takeOk ok]
    show (_ → exec _ _ = _) ∧ (_ → _ → exec _ _ = _) ∧ (_ → _ → _ → _ → exec _ _ = _) ∧ _
    rw [exec_eq, takeRegionSet, managed_management]
    refine ⟨fun none => ?_, fun some_ isBad => ?_, fun some_ good station state => ?_, fun some_ good station still => ?_⟩
    · rw [otherRegion_of_not (s := reserve s) none]
      exact congrArg Host.Outcome.next (done _)
    · rw [otherRegion_of_other (s := reserve s) some_]
      dsimp only
      rw [if_pos (badTaken.mpr isBad), done]
    · rw [otherRegion_of_other (s := reserve s) some_]
      dsimp only
      rw [if_neg (mt badTaken.mp good), if_pos (wrongTaken.mpr ⟨station, state⟩), done]
    · rw [otherRegion_of_other (s := reserve s) some_]
      dsimp only
      rw [if_neg (mt badTaken.mp good), if_neg (mt wrongTaken.mp fun both => both.2 (station both.1))]
      rw [suspendCount_of_stays (s := reserve s) still]
      have event : modRegion x (applyGroups q) (applyEnable q x (reserve s)) = modRegion x (RegionSetReq.written q) (reserve s) := by
        rw [applyEnable_of_stays (s := reserve s) still, funext (applyGroups_eq good)]
      obtain ⟨kept, others, probe, entry, handed⟩ := handingOn_modRegion (event := fun t => modRegion x (applyGroups q) (applyEnable q x t)) event
      let t := handingOn x (fun t => modRegion x (applyGroups q) (applyEnable q x t)) (reserve s)
      have entryTaken : t.region x = after := entry
      have reserved : KeepsAllBut [.backlog] s (reserve s) := keepsAllBut_withBacklog _ s
      have answered := answer_keepsAllBut .management q.tag .regionSet .ok (.regionSet e.state e.state 0 after.phase after.remaining) t
      have regions := answered .regions (by decide)
      have backlog : t.backlog = (reserve s).backlog := kept .backlog (by decide)
      refine ⟨answer .management q.tag .regionSet .ok (.regionSet e.state e.state 0 after.phase after.remaining) t, ?_,
        (reserved.trans (zs := [.backlog, .regions, .contexts]) kept (by decide) (by decide)).trans answered (by decide) (by decide), fun y hy => ?_, ?_, ?_, ?_, ?_⟩
      · show Host.Outcome.next (answer .management q.tag .regionSet .ok (.regionSet _ (t.region x).state 0 (t.region x).phase (t.region x).remaining) t) = _
        rw [entryTaken]
        rfl
      · rw [State.region, regions]
        exact others y hy
      · rw [regions]
        exact probe
      · rw [State.region, regions]
        exact entryTaken
      · exact (handed.before rfl rfl rfl rfl).after (answered .contexts (by decide)) regions
      · have completes := congrArg State.backlog (complete_reserve .management q.tag 0x21 .ok (.regionSet e.state e.state 0 after.phase after.remaining) s)
        rw [← completes]
        exact complete_backlog_congr backlog ..
  · rw [exec_regionGet, taking_of_takeOk ok, takeRegionGet]
    refine ⟨fun above => ?_, fun x same => ?_⟩
    · rw [if_pos above]
      exact congrArg Host.Outcome.next (complete_reserve ring tag 0x11 .badRegion .plain s)
    · have region : regionOf b = x := Fin.ext (by
        show b.toNat % 8 = x.val
        rw [← same, Nat.mod_eq_of_lt x.isLt])
      rw [if_neg (by have := x.isLt; omega), region]
      exact ⟨(reserve s).regionReport x, congrArg Host.Outcome.next (complete_reserve ring tag 0x11 .ok (.regionGet ((reserve s).regionReport x)) s),
        rfl, rfl, rfl, rfl, rfl, rfl, rfl, rfl, rfl, rfl, rfl, rfl, rfl, rfl, millisLeft_bounds .., millisLeft_bounds .., rfl, rfl⟩

end Sys2Proof.Machine
end

section
/-! PROOFS. The Staging FIFO, cancel with drain, and the ends of inbound transfers. -/

namespace Sys2Proof.Machine

/-! ## Frames one after the other (R162) -/

theorem FramesSent.append {fs gs : List CtlFrame} {s t u : State} (h : FramesSent fs s t) (g : FramesSent gs t u) (regions : t.regions = s.regions)
    (carrier : t.wan.carrier = s.wan.carrier) : FramesSent (fs ++ gs) s u := by
  unfold FramesSent State.region at h g ⊢
  rw [g, h, List.foldl_append, regions, carrier]

theorem FramesSent.before {fs : List CtlFrame} {s u t : State} (h : FramesSent fs u t) (regions : u.regions = s.regions) (wan : u.wan = s.wan) :
    FramesSent fs s t := by
  unfold FramesSent State.region at h ⊢
  rwa [regions, wan] at h

theorem FramesSent.after {fs : List CtlFrame} {s t v : State} (h : FramesSent fs s t) (wan : v.wan = t.wan) : FramesSent fs s v := by
  unfold FramesSent at h ⊢
  rwa [wan]

theorem FramesSent.nil (s : State) : FramesSent [] s s := rfl

/-- The same frame to one region after the other changes the Control Queue alone. -/
theorem foldl_sendCtl_wan (b : CtlBody) (l : List Region) (s : State) :
    (l.foldl (fun t x => sendCtl x b t) s).wan = { s.wan with queue := (l.foldl (fun t x => sendCtl x b t) s).wan.queue } := by
  induction l generalizing s with
  | nil => rfl
  | cons x rest ih =>
    have tail := ih (sendCtl x b s)
    rw [sendCtl_wan x b s] at tail
    exact tail

/-! ## Entries that leave the Staging FIFO (R131) -/

theorem resumesAt_congr {s u : State} (holding : u.inbound.holding = s.inbound.holding) (sent : u.inbound.holdSent = s.inbound.holdSent) (n : Nat) :
    u.resumesAt n = s.resumesAt n := by
  rw [State.resumesAt, State.resumesAt, holding, sent]

theorem HoldingFollows.before {s u t : State} (h : HoldingFollows u t) (holding : u.inbound.holding = s.inbound.holding)
    (sent : u.inbound.holdSent = s.inbound.holdSent) : HoldingFollows s t := by
  unfold HoldingFollows at h ⊢
  rwa [holding, sent] at h

theorem HoldingFollows.after {s t v : State} (h : HoldingFollows s t) (inbound : v.inbound = t.inbound) : HoldingFollows s v := by
  unfold HoldingFollows at h ⊢
  rwa [inbound]

/-- Two falls of the occupancy in one claim. -/
theorem HoldingFollows.trans {s t u : State} (h : HoldingFollows s t) (g : HoldingFollows t u) (fewer : u.inbound.fifo.length ≤ t.inbound.fifo.length) :
    HoldingFollows s u ∧ s.resumesAt t.inbound.fifo.length ++ t.resumesAt u.inbound.fifo.length = s.resumesAt u.inbound.fifo.length := by
  obtain ⟨endsH, staysH⟩ := h
  obtain ⟨endsG, staysG⟩ := g
  by_cases first : s.inbound.holding = true ∧ t.inbound.fifo.length ≤ 16
  · obtain ⟨holding, flags⟩ := endsH first
    have quiet : ¬ (t.inbound.holding = true ∧ u.inbound.fifo.length ≤ 16) := fun both => by rw [holding] at both; cases both.1
    obtain ⟨same, sameFlags⟩ := staysG quiet
    refine ⟨⟨fun _ => ⟨same.trans holding, fun x => by rw [sameFlags, flags]⟩, fun not => absurd ⟨first.1, fewer.trans first.2⟩ not⟩, ?_⟩
    rw [show t.resumesAt u.inbound.fifo.length = [] from if_neg quiet, List.append_nil, State.resumesAt, State.resumesAt, if_pos first,
      if_pos ⟨first.1, fewer.trans first.2⟩]
  · obtain ⟨same, sameFlags⟩ := staysH first
    rw [show s.resumesAt t.inbound.fifo.length = [] from if_neg first, List.nil_append]
    exact ⟨HoldingFollows.before ⟨endsG, staysG⟩ same sameFlags, resumesAt_congr same sameFlags _⟩

theorem resumeCheck_wan (s : State) : (resumeCheck s).wan = { s.wan with queue := (resumeCheck s).wan.queue } := by
  unfold resumeCheck
  split
  · exact foldl_sendCtl_wan ..
  · rfl

/-- R131: what the removal of entries does. -/
theorem fifoRemove_effect (p : FifoEntry → Bool) (s : State) :
    let t := fifoRemove p s
    KeepsAllBut [.staging, .port] s t ∧ (t.inbound.fifo = s.inbound.fifo.filter fun e => !p e) ∧ HoldingFollows s t ∧
      FramesSent (s.resumesAt t.inbound.fifo.length) s t ∧ t.wan = { s.wan with queue := t.wan.queue } := by
  intro t
  let u := s.withInbound { s.inbound with fifo := s.inbound.fifo.filter fun e => !p e }
  obtain ⟨follows, frames, fifo⟩ := resumeCheck_resumes u
  have fifoT : t.inbound.fifo = u.inbound.fifo := fifo
  refine ⟨keepsAllBut_iff.mpr (by simp [t]), fifo, follows.before rfl rfl, ?_, resumeCheck_wan u⟩
  rw [fifoT]
  exact frames.before rfl rfl

/-! ## A drained context (R134) -/

theorem freedFrom_eq (c : CtxNo) (r : Record) : r.freedFrom c = { r with inbound := if r.inbound = some c then none else r.inbound } := by
  unfold Record.freedFrom
  by_cases bound : r.inbound = some c
  · rw [if_pos (beq_iff_eq.mpr bound), if_pos bound]
  · rw [if_neg (mt beq_iff_eq.mp bound), if_neg bound]

theorem drainFree_effect {c : CtxNo} {i : InCtx} {r : Record} {s : State} (found : s.table.find i.key = some r) (why : CancelReason) :
    let t := drainFree c i why s
    KeepsAllBut [.contexts, .table, .backlog] s t ∧ t.ctx c = .free ∧ OtherContexts c s t ∧ OtherRecords i.key s t ∧
      StandsOrRetires (s.hasRoom 1) (r.freedFrom c) s t ∧ RecordNotices s.hasRoom i.key [.inCancelled i.key i.version why] [] s t ∧ RoomKept s t := by
  intro t
  let u := releaseInbound c i.key s
  have record : u.table.find i.key = some (r.freedFrom c) := find_modRec_of_found found _ (freedFrom_key c)
  have others : OtherRecords i.key s u := modRec_otherRecords i.key _ s (freedFrom_key c)
  have alike : Alike s u := (alike_modRec i.key _ s (freedFrom_key c) (freedFrom_dues c)).trans
    (.of_keeps (touched := [.contexts]) (keepsAllBut_iff.mpr (by simp [u, releaseInbound_eq])))
  have kept : KeepsAllBut [.table, .contexts] s u := keepsAllBut_iff.mpr (by simp [u, releaseInbound_eq])
  have room : RoomKept s u := .of_keeps kept
  have given : RecordNotices u.hasRoom i.key [.inCancelled i.key i.version why] [] u t :=
    ((RecordNotices.none i.key u).emit (.refl u) record (.inCancelled i.key i.version why)).retireIfDue
  have stands : StandsOrRetires (u.hasRoom 1) (r.freedFrom c) u t := emit_retire_standsOrRetires record (.inCancelled i.key i.version why)
  rw [alike.hasRoom room] at given stands
  have pool : t.pool = u.pool := by simp [t, u, drainFree]
  refine ⟨keepsAllBut_iff.mpr (by simp [t]), (ctx_congr pool c).trans (ctx_setCtx_self ..), ?_, ?_, ?_, given.before alike, ?_⟩
  · exact fun d hd => (ctx_congr pool d).trans (setCtx_otherContexts c .free (modRec i.key (Record.freedFrom c) s) d hd)
  · exact others.trans ((emitRecord_otherRecords i.key _ u).trans (retireIfDue_otherRecords i.key _))
  · exact stands.before alike.now alike.linger
  · exact room.trans ((emitRecord_roomKept ..).trans (.retireIfDue ..))

theorem StandsOrRetires.of_not_settled {unowed : Prop} {r : Record} {s t : State} (h : StandsOrRetires unowed r s t) (open_ : r.state ≠ .settled) :
    (∃ q, t.table.find r.key = some q ∧ Record.sameBody r q) ∧ t.table.linger = s.table.linger :=
  h.2 fun due => open_ due.2.1

/-! ## Cancel with drain (R134) -/

/-- What a cancel takes from the Staging FIFO. -/
def cancelsEntry (c : CtxNo) (s : State) (e : FifoEntry) : Bool := e.ctx == c && e.op.all s.hme.untouchedOp

theorem cancelsEntry_iff (c : CtxNo) (s : State) (e : FifoEntry) : cancelsEntry c s e = false ↔ WriteStays s c e := by
  unfold cancelsEntry WriteStays Hme.untouchedOp
  rw [Bool.and_eq_false_iff]
  refine or_congr (by simp) ?_
  cases e.op with
  | none => simp
  | some id => simp

/-- The state of a cancel once its staging is gone. -/
def stagingCancelled (c : CtxNo) (s : State) : State :=
  fifoRemove (cancelsEntry c s) (s.withHme { s.hme with ops := s.hme.ops.filter fun o => !(o.use == .segWrite c && o.untouched) })

theorem stagingCancelled_effect (c : CtxNo) (s : State) :
    let t := stagingCancelled c s
    KeepsAllBut [.staging, .engine, .port] s t ∧ StagingCancelled c s t ∧ HoldingFollows s t ∧ FramesSent (s.resumesAt t.inbound.fifo.length) s t ∧
      t.wan = { s.wan with queue := t.wan.queue } ∧ t.inbound.fifo.length ≤ s.inbound.fifo.length := by
  intro t
  let u := s.withHme { s.hme with ops := s.hme.ops.filter fun o => !(o.use == .segWrite c && o.untouched) }
  obtain ⟨kept, fifo, follows, frames, wan⟩ := fifoRemove_effect (cancelsEntry c s) u
  have fifoT : t.inbound.fifo = s.inbound.fifo.filter fun e => !cancelsEntry c s e := fifo
  refine ⟨(keepsAllBut_iff.mpr (by simp [u]) : KeepsAllBut [.engine] s u).trans kept (by decide) (by decide), ⟨fun e => ?_, fun o => ?_⟩,
    follows.before rfl rfl, frames.before rfl rfl, wan, ?_⟩
  · rw [fifoT, List.mem_filter, Bool.not_eq_true', cancelsEntry_iff]
  · rw [show t.hme = u.hme from kept .engine (by decide)]
    show o ∈ s.hme.ops.filter _ ↔ _
    rw [List.mem_filter, Bool.not_eq_true', ← Bool.not_eq_true, Bool.and_eq_true, beq_iff_eq]
  · rw [fifoT]
    exact List.length_filter_le ..

theorem cancelDrain_eq {c : CtxNo} {i : InCtx} {s : State} (bound : s.ctx c = .inb i) (why : CancelReason) : cancelDrain c why s =
    if (stagingCancelled c s).inbound.writesInFlight c = 0 then drainFree c i why (stagingCancelled c s)
    else setCtx c (.inb (i.drainingFor why)) (stagingCancelled c s) := by
  rw [cancelDrain, bound]
  rfl

theorem length_filter_eq_zero_iff {α : Type} (p : α → Bool) (l : List α) : (l.filter p).length = 0 ↔ ∀ e ∈ l, p e = false := by
  rw [List.length_eq_zero_iff, List.filter_eq_nil_iff]
  simp

/-- R110: of a context whose waiting entries are gone, no write is in flight when no entry is left. -/
theorem writesInFlight_cancelled_iff {c : CtxNo} {s t : State} (cancelled : StagingCancelled c s t) :
    t.inbound.writesInFlight c = 0 ↔ ∀ e ∈ t.inbound.fifo, e.ctx ≠ c := by
  rw [Inbound.writesInFlight, length_filter_eq_zero_iff]
  refine forall_congr' fun e => forall_congr' fun mem => ?_
  rw [Bool.and_eq_false_iff]
  constructor
  · rintro (other | waiting) same
    · rw [same] at other
      simp at other
    · obtain ⟨-, other | ⟨id, op, -⟩⟩ := (cancelled.1 e).mp mem
      · exact other same
      · rw [op] at waiting
        cases waiting
  · exact fun other => .inl (by simpa using other)

theorem StagingCancelled.after {c : CtxNo} {s t v : State} (h : StagingCancelled c s t) (inbound : v.inbound = t.inbound) (hme : v.hme = t.hme) :
    StagingCancelled c s v := by
  unfold StagingCancelled at h ⊢
  rwa [inbound, hme]

/-- R133, R134, R135: the record becomes WAITING and its context is cancelled with drain. -/
theorem cancelWaiting_effect {c : CtxNo} {i : InCtx} {r : Record} {s : State} (bound : s.ctx c = .inb i) (found : s.table.find i.key = some r)
    (inbound : r.inbound = some c) (why : CancelReason) :
    let t := cancelDrain c why (toWaiting i.key s)
    KeepsAllBut [.staging, .engine, .contexts, .port, .table, .backlog] s t ∧ OtherRecords i.key s t ∧ t.table.linger = s.table.linger ∧
      (HoldingFollows s t ∧ FramesSent (s.resumesAt t.inbound.fifo.length) s t ∧ t.wan = { s.wan with queue := t.wan.queue }) ∧
      t.inbound.fifo.length ≤ s.inbound.fifo.length ∧ CancelledWithDrain c i why s t ∧ CancelledRecord r c i.version why s t := by
  intro t
  obtain ⟨-, key⟩ := Table.find_some found
  let u := toWaiting i.key s
  let v := stagingCancelled c u
  have waiting : u.table.find i.key = some { r with state := .waiting } := find_modRec_of_found found _
  have keptU : KeepsAllBut [.table] s u := keepsAllBut_iff.mpr (by simp [u, toWaiting])
  have othersU : OtherRecords i.key s u := modRec_otherRecords i.key _ s
  have alikeU : Alike s u := alike_modRec ..
  obtain ⟨keptV, cancelled, follows, frames, wan, fewer⟩ := stagingCancelled_effect c u
  have table : v.table = u.table := keptV .table (by decide)
  have alikeV : Alike s v := alikeU.trans (.of_keeps keptV)
  have keptSV : KeepsAllBut [.staging, .engine, .port, .table] s v := keptU.trans keptV (by decide) (by decide)
  have roomV : RoomKept s v := .of_keeps keptSV
  have foundV : v.table.find i.key = some { r with state := .waiting } := by rw [table, waiting]
  have left := writesInFlight_cancelled_iff cancelled
  have eq : t = if v.inbound.writesInFlight c = 0 then drainFree c i why v else setCtx c (.inb (i.drainingFor why)) v := cancelDrain_eq (s := u) bound why
  have staging : StagingCancelled c s v := cancelled
  by_cases idle : v.inbound.writesInFlight c = 0
  · rw [if_pos idle] at eq
    obtain ⟨kept, free, contexts, others, stands, notices, -⟩ := drainFree_effect (c := c) foundV why
    rw [← eq] at kept free contexts others stands notices
    have inboundT : t.inbound = v.inbound := kept .staging (by decide)
    have wanT : t.wan = v.wan := kept .port (by decide)
    have gone : ∀ e ∈ t.inbound.fifo, e.ctx ≠ c := by rw [inboundT]; exact left.mp idle
    rw [freedFrom_of_bound (show ({ r with state := .waiting } : Record).inbound = some c from inbound)] at stands
    have standsFree : StandsOrRetires (v.hasRoom 1) { r with state := .waiting, inbound := none } v t := stands
    obtain ⟨⟨q, standing, body⟩, linger⟩ := standsFree.of_not_settled (show RecState.waiting ≠ .settled by decide)
    refine ⟨keptSV.trans kept (by decide) (by decide), ?_, linger.trans alikeV.linger, ⟨?_, ?_, ?_⟩, ?_, ⟨?_, ?_, ?_, ?_⟩, ?_, fun _ => ⟨?_, ?_⟩⟩
    · exact othersU.trans (.trans (t := v) (fun q _ => by rw [table]) others)
    · exact (HoldingFollows.before follows rfl rfl).after inboundT
    · rw [inboundT]
      exact (frames.before rfl rfl).after wanT
    · rw [wanT]
      exact wan
    · rw [inboundT]
      exact fewer
    · exact staging.after inboundT (kept .engine (by decide))
    · exact fun d hd => (contexts d hd).trans (ctx_congr (keptSV .contexts (by decide)) d)
    · rintro ⟨e, mem, same⟩
      exact absurd same (gone e mem)
    · exact fun _ => free
    · rintro ⟨e, mem, same⟩
      exact absurd same (gone e mem)
    · exact ⟨q, standing, body⟩
    · rw [key]
      rw [alikeV.hasRoom roomV] at notices
      exact notices.before alikeV
  · rw [if_neg idle] at eq
    have some_ : ∃ e ∈ v.inbound.fifo, e.ctx = c := by
      by_contra no
      exact idle (left.mpr fun e mem same => no ⟨e, mem, same⟩)
    rw [eq]
    refine ⟨keptSV.trans (ys := [.contexts]) (keepsAllBut_iff.mpr (by simp)) (by decide) (by decide), ?_, alikeV.linger, ⟨?_, ?_, wan⟩, fewer,
      ⟨staging, ?_, fun _ => ctx_setCtx_self .., ?_⟩, fun _ => ⟨?_, ?_, alikeV.pressure⟩, ?_⟩
    · exact othersU.trans (t := u) fun q _ => by
        show v.table.find q = _
        rw [table]
    · exact (HoldingFollows.before follows rfl rfl).after rfl
    · exact (frames.before rfl rfl).after rfl
    · exact fun d hd => (setCtx_otherContexts c _ v d hd).trans (ctx_congr (keptSV .contexts (by decide)) d)
    · intro gone
      obtain ⟨e, mem, same⟩ := some_
      exact absurd same (gone e mem)
    · exact (congrArg v.table.find key).trans foundV
    · exact keptSV .backlog (by decide)
    · intro gone
      obtain ⟨e, mem, same⟩ := some_
      exact absurd same (gone e mem)

theorem RecordNotices.after {room : Nat → Prop} {k : Key} {ns : List Notice} {tail : List EntryBody} {s t v : State} (h : RecordNotices room k ns tail s t)
    (table : v.table = t.table) (backlog : v.backlog = t.backlog) : RecordNotices room k ns tail s v := by
  unfold RecordNotices NoticesGiven OwedKept PressureKept at h ⊢
  rwa [table, backlog]

/-! ## WITHDRAW and the two timers of an inbound context (R118, R128, R133) -/

theorem exec_withdraw {x : Region} {s : State} (admitted : s.admits x = true) (k : Key) (v : Version) :
    exec (.withdraw x k v) s = .next (withdrawFrame x k v s) := congrArg Host.Outcome.next (if_pos admitted)

theorem exec_acceptTimerExpiry (c : CtxNo) (s : State) : exec (.acceptTimerExpiry c) s = .next (onInTimer c .awaitHost (fun i t =>
    sendCtl i.source (replyBody i.key i.version .timeout)
      (emitRecord i.key (.inCancelled i.key i.version .lapsed) (toWaiting i.key (releaseInbound c i.key t)))) s) := rfl

theorem exec_idleTimerExpiry (c : CtxNo) (s : State) : exec (.idleTimerExpiry c) s =
    .next (onInTimer c .receiving (fun i t => cancelDrain c .idle (toWaiting i.key t)) s) := rfl

theorem onInTimer_of_due {c : CtxNo} {i : InCtx} {s : State} (bound : s.ctx c = .inb i) (due : s.running = true ∧ ∃ d, i.timer = some d ∧ d ≤ s.now)
    (act : InCtx → State → State) : onInTimer c i.state act s = act i s := by
  rw [onInTimer, bound]
  exact if_pos (by rw [due.1, (expired_iff ..).mpr due.2]; simp)

theorem onInTimer_of_not_due {c : CtxNo} {i : InCtx} {s : State} {st : InState} (bound : s.ctx c = .inb i)
    (early : ¬ ((s.running = true ∧ ∃ d, i.timer = some d ∧ d ≤ s.now) ∧ i.state = st)) (act : InCtx → State → State) : onInTimer c st act s = s := by
  rw [onInTimer, bound]
  refine if_neg fun acts => early ?_
  simp only [Bool.and_eq_true, beq_iff_eq, expired_iff] at acts
  obtain ⟨⟨running, state⟩, passed⟩ := acts
  exact ⟨⟨running, passed⟩, state⟩

theorem withdrawable_iff (r : Record) (x : Region) (v : Version) : r.withdrawable x v = true ↔
    r.role = .remoteRole ∧ r.version = v ∧ r.version.origin.toNat = x.val ∧ r.state ∈ [RecState.offered, .receiving, .landed] := by
  simp [Record.withdrawable, and_assoc, or_assoc]

/-- A notice on a record, read from before a change of the record. -/
theorem emitRecord_effect {k : Key} {r : Record} {s u : State} (found : u.table.find k = some r) (alike : Alike s u) (room : RoomKept s u)
    (others : OtherRecords k s u) (n : Notice) :
    let t := emitRecord k n u
    KeepsAllBut [.table, .backlog] u t ∧ OtherRecords k s t ∧ (∃ q, t.table.find k = some q ∧ Record.sameBody r q) ∧ t.table.linger = s.table.linger ∧
      RecordNotices s.hasRoom k [n] [] s t := by
  intro t
  obtain ⟨q, stands, body, -⟩ := emitRecord_record found n
  have given : RecordNotices u.hasRoom k [n] [] u t := (RecordNotices.none k u).emit (.refl u) found n
  rw [alike.hasRoom room] at given
  exact ⟨keepsAllBut_iff.mpr (by simp [t]), others.trans (emitRecord_otherRecords k n u), ⟨q, stands, body⟩, (emitRecord_linger k n u).trans alike.linger,
    given.before alike⟩

/-- R118: the accept deadline passes. -/
theorem lapse_effect {c : CtxNo} {i : InCtx} {r : Record} {s : State} (found : s.table.find i.key = some r) (inbound : r.inbound = some c) :
    let t := sendCtl i.source (replyBody i.key i.version .timeout)
      (emitRecord i.key (.inCancelled i.key i.version .lapsed) (toWaiting i.key (releaseInbound c i.key s)))
    KeepsAllBut [.contexts, .port, .table, .backlog] s t ∧
      OtherRecords i.key s t ∧ OtherContexts c s t ∧ t.ctx c = .free ∧
      (∃ q, t.table.find i.key = some q ∧ Record.sameBody { r with state := .waiting, inbound := none } q) ∧
      t.table.linger = s.table.linger ∧ RecordNotices s.hasRoom i.key [.inCancelled i.key i.version .lapsed] [] s t ∧
      FrameSent i.source (.reply i.key i.version .timeout 0 none) s t := by
  intro t
  obtain ⟨record, others, alike, kept, free, contexts⟩ := releaseInbound_effect found inbound
  let u := toWaiting i.key (releaseInbound c i.key s)
  let v := emitRecord i.key (.inCancelled i.key i.version .lapsed) u
  have waiting : u.table.find i.key = some { r with state := .waiting, inbound := none } := find_modRec_of_found record _
  have keptU : KeepsAllBut [.table, .contexts] s u := kept.trans (ys := [.table]) (keepsAllBut_iff.mpr (by simp [u, toWaiting])) (by decide) (by decide)
  obtain ⟨keptV, othersV, stands, linger, notices⟩ := emitRecord_effect waiting (alike.trans (alike_modRec ..)) (.of_keeps keptU)
    (others.trans (modRec_otherRecords i.key _ (releaseInbound c i.key s))) (.inCancelled i.key i.version .lapsed)
  have keptSV : KeepsAllBut [.contexts, .table, .backlog] s v := keptU.trans keptV (by decide) (by decide)
  have table : t.table = v.table := by simp [t, v, u]
  have backlog : t.backlog = v.backlog := by simp [t, v, u]
  have pool : t.pool = (releaseInbound c i.key s).pool := by simp [t, toWaiting]
  refine ⟨keptSV.trans (ys := [.port]) (keepsAllBut_iff.mpr (by simp [t, v, u])) (by decide) (by decide), ?_, fun d hd => (ctx_congr pool d).trans (contexts d hd),
    (ctx_congr pool c).trans free, ?_, ?_, ?_, ?_⟩
  · exact othersV.after table
  · rw [table]
    exact stands
  · rw [table]
    exact linger
  · exact notices.after table backlog
  · exact (sendCtl_frameSent i.source (replyBody i.key i.version .timeout) v).before (keptSV .regions (by decide))
      (congrArg Wan.carrier (keptSV .port (by decide))) (congrArg Wan.queue (keptSV .port (by decide)))

/-- Settles O52. -/
theorem inboundTransfersAreCalledOff : Obligations.InboundTransfersAreCalledOff := by
  refine ⟨fun x k v s admitted => ?_, fun c i s bound => ?_⟩
  · intro acts called
    rw [exec_withdraw admitted]
    refine ⟨fun none => congrArg Host.Outcome.next ?_, fun r found does => ?_⟩
    · unfold withdrawFrame
      cases found : s.table.find k with
      | none => rfl
      | some r => exact if_neg (mt (withdrawable_iff r x v).mp (none r found))
    · obtain ⟨-, key⟩ := Table.find_some found
      have work : withdrawFrame x k v s = withdrawRecord r s := by
        rw [withdrawFrame, found]
        exact if_pos ((withdrawable_iff r x v).mpr does)
      obtain ⟨-, version, -, state⟩ := does
      rw [work]
      refine ⟨fun landed => ?_, fun c i notLanded inbound bound same => ?_⟩
      · have eq : withdrawRecord r s = emitRecord k (.inCancelled k v .withdrawn) (toWaiting k s) := by
          rw [withdrawRecord, landed, key, version]
        have waiting : (toWaiting k s).table.find k = some { r with state := .waiting } := find_modRec_of_found found _
        have keptU : KeepsAllBut [.table] s (toWaiting k s) := keepsAllBut_iff.mpr (by simp [toWaiting])
        obtain ⟨kept, others, stands, linger, notices⟩ := emitRecord_effect waiting (alike_modRec ..) (.of_keeps keptU)
          (modRec_otherRecords k _ s) (.inCancelled k v .withdrawn)
        rw [eq]
        exact ⟨_, rfl, keptU.trans kept (by decide) (by decide), others, stands, linger, notices⟩
      · subst same
        have eq : withdrawRecord r s = cancelDrain c .withdrawn (toWaiting i.key s) := by
          unfold withdrawRecord
          rw [inbound, key]
          cases st : r.state with
          | landed => exact absurd st notLanded
          | _ => rfl
        obtain ⟨kept, others, linger, calls, -, cancelled, record⟩ := cancelWaiting_effect bound found inbound .withdrawn
        rw [eq]
        exact ⟨_, rfl, kept, others, linger, calls, cancelled, record⟩
  · intro due called
    rw [exec_acceptTimerExpiry, exec_idleTimerExpiry]
    refine ⟨fun early => congrArg Host.Outcome.next (onInTimer_of_not_due bound early _),
      fun early => congrArg Host.Outcome.next (onInTimer_of_not_due bound early _), fun r late found inbound => ⟨fun awaits => ?_, fun receiving => ?_⟩⟩
    · rw [← awaits, onInTimer_of_due bound late]
      exact ⟨_, rfl, lapse_effect found inbound⟩
    · rw [← receiving, onInTimer_of_due bound late]
      obtain ⟨kept, others, linger, calls, -, cancelled, record⟩ := cancelWaiting_effect bound found inbound .idle
      exact ⟨_, rfl, kept, others, linger, calls, cancelled, record⟩

end Sys2Proof.Machine
end

section
/-! PROOFS. The writes of staged segments. -/

namespace Sys2Proof.Machine

/-! ## Handing an entry on (R125) -/

theorem mayIssue_iff (f : Inbound) (e : FifoEntry) : f.mayIssue e = true ↔
    e.op = none ∧ ¬ ∃ d ∈ f.fifo, d.ctx = e.ctx ∧ d.chunk = e.chunk ∧ d.discarded = true ∧ d.op.isSome = true := by
  unfold Inbound.mayIssue
  rw [Bool.and_eq_true, Option.isNone_iff_eq_none, Bool.not_eq_true', ← Bool.not_eq_true, List.any_eq_true]
  simp [and_assoc]

theorem nextIssue_eq_none {f : Inbound} (none : ∀ e ∈ f.fifo, f.mayIssue e = false) : f.nextIssue = Option.none := by
  rw [Inbound.nextIssue, List.find?_eq_none]
  intro e mem
  rw [none e.1 (List.fst_mem_of_mem_zipIdx mem)]
  exact Bool.false_ne_true

theorem nextIssue_eq_some {f : Inbound} {before after : List FifoEntry} {e : FifoEntry} (split : f.fifo = before ++ e :: after)
    (none : ∀ d ∈ before, f.mayIssue d = false) (may : f.mayIssue e = true) : f.nextIssue = some (e, before.length) := by
  rw [Inbound.nextIssue, List.find?_eq_some_iff_append]
  refine ⟨may, before.zipIdx, after.zipIdx (before.length + 1), ?_, fun d mem => ?_⟩
  · rw [split, List.zipIdx_append, List.zipIdx_cons, Nat.zero_add]
  · rw [none d.1 (List.fst_mem_of_mem_zipIdx mem)]
    rfl

theorem exec_fifoWriteIssue (s : State) : exec .fifoWriteIssue s = .next (match s.inbound.nextIssue with
    | some (e, n) => if s.running then issueEntry e n s else s
    | none => s) := rfl

theorem exec_fifoWriteIssue_idle {s : State} (idle : s.running = false ∨ ∀ e ∈ s.inbound.fifo, s.inbound.mayIssue e = false) :
    exec .fifoWriteIssue s = .next s := by
  rw [exec_fifoWriteIssue]
  rcases idle with stopped | none
  · cases s.inbound.nextIssue with
    | none => rfl
    | some e => exact congrArg Host.Outcome.next (if_neg (by rw [stopped]; exact Bool.false_ne_true))
  · rw [nextIssue_eq_none none]

/-! ## The acknowledged point (R126) -/

theorem unwritten_eq_zero_iff (f : Inbound) (c : CtxNo) (ch : Nat) :
    f.unwritten c ch = 0 ↔ ¬ ∃ e ∈ f.fifo, e.ctx = c ∧ e.chunk = ch ∧ e.discarded = false := by
  rw [Inbound.unwritten, length_filter_eq_zero_iff]
  simp [not_and]

/-- The point moves over the chunks written up to the first that is not. -/
theorem ackPoint_eq {f : Inbound} {c : CtxNo} {expected n point p : Nat} (low : point ≤ p) (high : p ≤ expected) (turns : expected - point ≤ n)
    (written : ∀ ch, point ≤ ch → ch < p → f.unwritten c ch = 0) (stops : p < expected → f.unwritten c p ≠ 0) : ackPoint f c expected n point = p := by
  induction n generalizing point with
  | zero =>
    rw [ackPoint]
    omega
  | succ n ih =>
    rw [ackPoint]
    rcases Nat.lt_or_eq_of_le low with more | same
    · rw [if_pos ⟨by omega, written point le_rfl more⟩]
      exact ih more (by omega) fun ch hch => written ch (by omega)
    · subst same
      rw [if_neg fun both => stops both.1 both.2]

/-- R126: the acknowledged point of a context, with its staging as it stands. -/
structure AckReaches (f : Inbound) (c : CtxNo) (i : InCtx) (p : Nat) : Prop where
  low : i.acked ≤ p
  high : p ≤ i.expected
  written : ∀ ch, i.acked ≤ ch → ch < p → ¬ ∃ e ∈ f.fifo, e.ctx = c ∧ e.chunk = ch ∧ e.discarded = false
  stops : p < i.expected → ∃ e ∈ f.fifo, e.ctx = c ∧ e.chunk = p ∧ e.discarded = false

theorem AckReaches.ackPoint_eq {f : Inbound} {c : CtxNo} {i : InCtx} {p : Nat} (h : AckReaches f c i p) :
    ackPoint f c i.expected (i.expected - i.acked) i.acked = p :=
  Machine.ackPoint_eq h.low h.high le_rfl (fun ch low high => (unwritten_eq_zero_iff f c ch).mpr (h.written ch low high))
    fun more zero => (unwritten_eq_zero_iff f c p).mp zero (h.stops more)

theorem ackAdvance_of_same {c : CtxNo} {i : InCtx} {s : State} (bound : s.ctx c = .inb i) (reaches : AckReaches s.inbound c i i.acked) : ackAdvance c s = s := by
  rw [ackAdvance, bound]
  dsimp only
  rw [reaches.ackPoint_eq, if_neg]
  simp

theorem ackAdvance_of_more {c : CtxNo} {i : InCtx} {p : Nat} {s : State} (bound : s.ctx c = .inb i) (receiving : i.state = .receiving)
    (reaches : AckReaches s.inbound c i p) (more : i.acked < p) (inside : p ≠ i.chunks) :
    ackAdvance c s = setCtx c (.inb { i with acked := p }) (sendCtl i.source (.ack i.key i.version p) s) := by
  rw [ackAdvance, bound]
  dsimp only
  rw [reaches.ackPoint_eq, if_pos (by rw [receiving]; simpa using more), if_neg inside]
  rfl

theorem ackAdvance_of_all {c : CtxNo} {i : InCtx} {r : Record} {s : State} (bound : s.ctx c = .inb i) (receiving : i.state = .receiving)
    (reaches : AckReaches s.inbound c i i.chunks) (more : i.acked < i.chunks) (found : s.table.find i.key = some r) (inbound : r.inbound = some c) :
    ackAdvance c s = emitRecord i.key (.landed i.key r.version r.kind r.size)
      (modRec i.key (fun r => { r with state := .landed }) (releaseInbound c i.key (sendCtl i.source (.ack i.key i.version i.chunks) s))) := by
  have foundSent : (sendCtl i.source (.ack i.key i.version i.chunks) s).table.find i.key = some r := by simpa using found
  obtain ⟨record, -⟩ := releaseInbound_effect foundSent inbound
  have landed : (modRec i.key (fun r => { r with state := .landed }) (releaseInbound c i.key (sendCtl i.source (.ack i.key i.version i.chunks) s))).table.find
    i.key = some { r with state := .landed, inbound := none } := find_modRec_of_found record _
  rw [ackAdvance, bound]
  dsimp only
  rw [reaches.ackPoint_eq, if_pos (by rw [receiving]; simpa using more), if_pos rfl]
  show (match (modRec i.key (fun r => { r with state := .landed }) (releaseInbound c i.key (sendCtl i.source (.ack i.key i.version i.chunks) s))).table.find i.key with
    | some r => emitRecord i.key (landedNotice r) _
    | none => _) = _
  rw [landed]
  exact congrArg (fun k => emitRecord i.key (.landed k r.version r.kind r.size) _) (Table.find_some found).2

/-! ## An ended write (R125, R134, R135) -/

theorem writeEnded_effect (id : Nat) (s : State) :
    let rest := s.inbound.fifo.filter fun e => e.op != some id
    let w := writeEnded id s
    KeepsAllBut [.staging, .engine, .port] s w ∧ (w.inbound.fifo = rest ∧ HoldingFollows s w ∧ w.hme = s.hme.without id ∧ w.wan = { s.wan with queue := w.wan.queue }) ∧
      FramesSent (s.resumesAt rest.length) s w := by
  intro rest w
  obtain ⟨kept, fifo, follows, frames, wan⟩ := fifoRemove_effect (fun e => e.op == some id) (dropOp id s)
  have fifoW : w.inbound.fifo = rest := fifo
  refine ⟨(keepsAllBut_iff.mpr (by simp) : KeepsAllBut [.engine] s (dropOp id s)).trans kept (by decide) (by decide),
    ⟨fifo, follows.before rfl rfl, kept .engine (by decide), wan⟩, ?_⟩
  rw [← fifoW]
  exact frames.before rfl rfl

theorem exec_segmentWriteDone {id : Nat} {op : Op} {c : CtxNo} {s : State} (found : (s.hme.ops.find? fun o => o.id == id && o.succeeded) = some op)
    (use : op.use = .segWrite c) (running : s.running = true) : exec (.segmentWriteDone id) s = .next (writeDone c id s) := by
  have write : s.segmentWrite id Op.succeeded = some c := by
    rw [State.segmentWrite, found, Option.bind_some, use]
  show execSegmentWriteDone id s = _
  rw [execSegmentWriteDone, write]
  exact congrArg Host.Outcome.next (if_pos running)

theorem exec_segmentWriteFail {id : Nat} {op : Op} {c : CtxNo} {s : State} (found : (s.hme.ops.find? fun o => o.id == id && o.failed) = some op)
    (use : op.use = .segWrite c) (running : s.running = true) : exec (.segmentWriteFail id) s = .next (writeFailed c id s) := by
  have write : s.segmentWrite id Op.failed = some c := by
    rw [State.segmentWrite, found, Option.bind_some, use]
  show execSegmentWriteFail id s = _
  rw [execSegmentWriteFail, write]
  exact congrArg Host.Outcome.next (if_pos running)

theorem writesInFlight_eq_zero_iff (f : Inbound) (c : CtxNo) : f.writesInFlight c = 0 ↔ ¬ ∃ e ∈ f.fifo, e.ctx = c ∧ e.op.isSome = true := by
  rw [Inbound.writesInFlight, length_filter_eq_zero_iff]
  simp

/-- R134, R10, R20: the end of a write of a DRAINING context. -/
theorem drainCheck_effect {c : CtxNo} {i : InCtx} (id : Nat) {s : State} :
    let rest := s.inbound.fifo.filter fun e => e.op != some id
    let writing := ∃ e ∈ rest, e.ctx = c ∧ e.op.isSome = true
    let staged := fun t : State => t.inbound.fifo = rest ∧ HoldingFollows s t ∧ t.hme = s.hme.without id ∧ t.wan = { s.wan with queue := t.wan.queue }
    let t := drainCheck c i (writeEnded id s)
    (writing → KeepsAllBut [.staging, .engine, .port] s t ∧ staged t ∧ FramesSent (s.resumesAt rest.length) s t) ∧
    (∀ r why, ¬ writing → s.table.find i.key = some r → i.cancel = some why →
      KeepsAllBut [.staging, .engine, .contexts, .table, .backlog, .port] s t ∧ staged t ∧ FramesSent (s.resumesAt rest.length) s t ∧
        t.ctx c = .free ∧ OtherContexts c s t ∧ OtherRecords i.key s t ∧
        StandsOrRetires (s.hasRoom 1) { r with inbound := if r.inbound = some c then none else r.inbound } s t ∧
        RecordNoticesCompared s.hasRoom i.key [.inCancelled i.key i.version why] [] s t) := by
  intro rest writing staged t
  let w := writeEnded id s
  obtain ⟨keptW, ⟨fifo, follows, hme, wan⟩, frames⟩ := writeEnded_effect id s
  have idle : w.inbound.writesInFlight c = 0 ↔ ¬ writing := by rw [writesInFlight_eq_zero_iff, fifo]
  refine ⟨fun some_ => ?_, fun r why none found cancel => ?_⟩
  · have eq : t = w := if_neg fun zero => idle.mp zero some_
    rw [eq]
    exact ⟨keptW, ⟨fifo, follows, hme, wan⟩, frames⟩
  · have eq : t = pressureCheck (drainFree c i why w) := by
      show (if w.inbound.writesInFlight c = 0 then pressureCheck (drainFree c i (i.cancel.getD .fault) w) else w) = _
      rw [if_pos (idle.mpr none), cancel]
      rfl
    have foundW : w.table.find i.key = some r := by rw [show w.table = s.table from keptW .table (by decide), found]
    have alike : Alike s w := .of_keeps keptW
    have room : RoomKept s w := .of_keeps keptW
    obtain ⟨kept, free, contexts, others, stands, notices, keptRoom⟩ := drainFree_effect (c := c) foundW why
    have keptT : KeepsAllBut [.contexts, .table, .backlog] w t := by
      rw [eq]
      exact kept.trans (ys := [.table, .backlog]) (keepsAllBut_iff.mpr (by simp)) (by decide) (by decide)
    have pool : t.pool = (drainFree c i why w).pool := by rw [eq]; simp
    have inbound : t.inbound = w.inbound := keptT .staging (by decide)
    have port : t.wan = w.wan := keptT .port (by decide)
    have given := (notices.compared keptRoom).before alike
    rw [alike.hasRoom room] at given stands
    rw [freedFrom_eq] at stands
    refine ⟨keptW.trans keptT (by decide) (by decide), ⟨?_, follows.after inbound, ?_, ?_⟩, frames.after port, (ctx_congr pool c).trans free, fun d hd => ?_, ?_, ?_, ?_⟩
    · rw [inbound, fifo]
    · rw [show t.hme = w.hme from keptT .engine (by decide), hme]
    · rw [port]
      exact wan
    · exact ((ctx_congr pool d).trans (contexts d hd)).trans (ctx_congr (keptW .contexts (by decide)) d)
    · intro q hq
      rw [eq, find_pressureCheck, others q hq, show w.table = s.table from keptW .table (by decide)]
    · rw [eq]
      exact (stands.before alike.now alike.linger).after (find_pressureCheck ..) (pressureCheck_table _).2 (by simp)
    · rw [eq]
      exact given

theorem CancelledWithDrain.before {c : CtxNo} {i : InCtx} {why : CancelReason} {s u t : State} (h : CancelledWithDrain c i why u t)
    (fifo : u.inbound.fifo = s.inbound.fifo) (hme : u.hme = s.hme) (pool : u.pool = s.pool) : CancelledWithDrain c i why s t := by
  unfold CancelledWithDrain StagingCancelled WriteStays OtherContexts State.ctx at h ⊢
  rwa [fifo, hme, pool] at h

theorem CancelledWithDrain.after {c : CtxNo} {i : InCtx} {why : CancelReason} {s t v : State} (h : CancelledWithDrain c i why s t)
    (inbound : v.inbound = t.inbound) (hme : v.hme = t.hme) (pool : v.pool = t.pool) : CancelledWithDrain c i why s v := by
  unfold CancelledWithDrain StagingCancelled OtherContexts State.ctx at h ⊢
  rwa [inbound, hme, pool]

theorem CancelledRecord.before {r : Record} {c : CtxNo} {v : Version} {why : CancelReason} {s u t : State} (h : CancelledRecord r c v why u t)
    (alike : Alike s u) (room : RoomKept s u) (backlog : u.backlog = s.backlog) : CancelledRecord r c v why s t := by
  obtain ⟨some_, none⟩ := h
  refine ⟨fun left => ?_, fun gone => ?_⟩
  · obtain ⟨record, same, pressure⟩ := some_ left
    exact ⟨record, same.trans backlog, alike.pressure.trans pressure⟩
  · obtain ⟨stands, notices⟩ := none gone
    rw [alike.hasRoom room] at notices
    exact ⟨stands, notices.before alike⟩

theorem CancelledRecord.after {r : Record} {c : CtxNo} {ver : Version} {why : CancelReason} {s t v : State} (h : CancelledRecord r c ver why s t)
    (inbound : v.inbound = t.inbound) (table : v.table = t.table) (backlog : v.backlog = t.backlog) : CancelledRecord r c ver why s v := by
  unfold CancelledRecord PressureKept RecordNotices NoticesGiven OwedKept PressureKept at h ⊢
  rwa [inbound, table, backlog]

end Sys2Proof.Machine
end

section
/-! PROOFS. O51: staged segments are written. -/

namespace Sys2Proof.Machine

theorem sendCtl_framesSent (x : Region) (b : CtlBody) (s : State) : FramesSent [{ dest := x, body := b }] s (sendCtl x b s) := sendCtl_sends x b s

theorem issue_effect {before after : List FifoEntry} {e : FifoEntry} {i : InCtx} {s : State} (running : s.running = true)
    (split : s.inbound.fifo = before ++ e :: after) (none : ∀ d ∈ before, s.inbound.mayIssue d = false) (may : s.inbound.mayIssue e = true)
    (bound : s.ctx e.ctx = .inb i) : ∃ t, exec .fifoWriteIssue s = .next t ∧ KeepsAllBut [.staging, .engine] s t ∧
      t.inbound = { s.inbound with fifo := before ++ { e with op := some s.hme.nextOp } :: after } ∧
      OperationAdded (.segWrite e.ctx) (writeBursts (cutPieces (piecesOf i.landing (262144 * e.chunk + 8192 * e.seg) e.payload.length)) e.payload) s.hme t.hme := by
  have issued : exec .fifoWriteIssue s = .next (issueEntry e before.length s) := by
    rw [exec_fifoWriteIssue, nextIssue_eq_some split none may]
    exact congrArg Host.Outcome.next (if_pos running)
  refine ⟨_, issued, keepsAllBut_iff.mpr (by simp [issueEntry]), ?_, ?_⟩
  · show ({ s.inbound with fifo := s.inbound.fifo.modify before.length fun d => { d with op := some s.hme.nextOp } } : Inbound) = _
    rw [split, modify_append_cons]
  · rw [issueEntry, bound]
    rfl

/-! ## A write that succeeded (R125, R126, R127) -/

theorem writeDone_of_draining {c : CtxNo} {i : InCtx} {id : Nat} {s : State} (bound : s.ctx c = .inb i) (draining : i.state = .draining) :
    writeDone c id s = drainCheck c i (writeEnded id s) := by
  have boundW : (writeEnded id s).ctx c = .inb i := (ctx_congr ((writeEnded_effect id s).1 .contexts (by decide)) c).trans bound
  rw [writeDone, boundW]
  exact if_pos (by rw [draining]; rfl)

theorem writeDone_of_receiving {c : CtxNo} {i : InCtx} {id : Nat} {s : State} (bound : s.ctx c = .inb i) (receiving : i.state = .receiving) :
    writeDone c id s = ackAdvance c (writeEnded id s) := by
  have boundW : (writeEnded id s).ctx c = .inb i := (ctx_congr ((writeEnded_effect id s).1 .contexts (by decide)) c).trans bound
  rw [writeDone, boundW]
  exact if_neg (by rw [receiving]; decide)

theorem writeFailed_of_draining {c : CtxNo} {i : InCtx} {id : Nat} {s : State} (bound : s.ctx c = .inb i) (draining : i.state = .draining) :
    writeFailed c id s = drainCheck c i (writeEnded id s) := by
  have boundW : (writeEnded id s).ctx c = .inb i := (ctx_congr ((writeEnded_effect id s).1 .contexts (by decide)) c).trans bound
  rw [writeFailed, boundW]
  exact if_pos (by rw [draining]; rfl)

theorem writeFailed_of_receiving {c : CtxNo} {i : InCtx} {id : Nat} {s : State} (bound : s.ctx c = .inb i) (receiving : i.state = .receiving) :
    writeFailed c id s = sendCtl i.source (replyBody i.key i.version .aborted) (cancelDrain c .fault (toWaiting i.key (writeEnded id s))) := by
  have boundW : (writeEnded id s).ctx c = .inb i := (ctx_congr ((writeEnded_effect id s).1 .contexts (by decide)) c).trans bound
  rw [writeFailed, boundW]
  exact if_neg (by rw [receiving]; decide)

/-- R126: an acknowledged point inside the object moves, with its ACK. -/
theorem ackAdvance_moves {c : CtxNo} {i : InCtx} {p : Nat} {s : State} (bound : s.ctx c = .inb i) (receiving : i.state = .receiving)
    (reaches : AckReaches s.inbound c i p) (more : i.acked < p) (inside : p ≠ i.chunks) :
    let t := ackAdvance c s
    KeepsAllBut [.contexts, .port] s t ∧ OtherContexts c s t ∧ t.ctx c = .inb { i with acked := p } ∧ t.wan = { s.wan with queue := t.wan.queue } ∧
      FramesSent [{ dest := i.source, body := .ack i.key i.version p }] s t := by
  intro t
  have eq : t = _ := ackAdvance_of_more bound receiving reaches more inside
  rw [eq]
  have others := setCtx_otherContexts c (.inb { i with acked := p }) (sendCtl i.source (.ack i.key i.version p) s)
  refine ⟨keepsAllBut_iff.mpr (by simp), fun d hd => (others d hd).trans (by simp [State.ctx]), ctx_setCtx_self .., ?_, ?_⟩
  · simpa using sendCtl_wan i.source (.ack i.key i.version p) s
  · exact (sendCtl_framesSent _ _ s).after (by simp)

/-- R127: with the last chunk acknowledged the record has landed and its context is FREE. -/
theorem ackAdvance_lands {c : CtxNo} {i : InCtx} {r : Record} {s : State} (bound : s.ctx c = .inb i) (receiving : i.state = .receiving)
    (reaches : AckReaches s.inbound c i i.chunks) (more : i.acked < i.chunks) (found : s.table.find i.key = some r) (inbound : r.inbound = some c) :
    let t := ackAdvance c s
    KeepsAllBut [.contexts, .port, .table, .backlog] s t ∧ OtherContexts c s t ∧ t.ctx c = .free ∧ OtherRecords i.key s t ∧
      t.table.linger = s.table.linger ∧ (∃ q, t.table.find i.key = some q ∧ Record.sameBody { r with state := .landed, inbound := none } q) ∧
      t.wan = { s.wan with queue := t.wan.queue } ∧ FramesSent [{ dest := i.source, body := .ack i.key i.version i.chunks }] s t ∧
      RecordNotices s.hasRoom i.key [.landed i.key r.version r.kind r.size] [] s t := by
  intro t
  let sent := sendCtl i.source (.ack i.key i.version i.chunks) s
  let released := releaseInbound c i.key sent
  let landed := modRec i.key (fun r => { r with state := .landed }) released
  have eq : t = emitRecord i.key (.landed i.key r.version r.kind r.size) landed := ackAdvance_of_all bound receiving reaches more found inbound
  have keptSent : KeepsAllBut [.port] s sent := keepsAllBut_iff.mpr (by simp [sent])
  have foundSent : sent.table.find i.key = some r := by rw [show sent.table = s.table from keptSent .table (by decide), found]
  obtain ⟨record, othersR, alikeR, keptR, free, contexts⟩ := releaseInbound_effect foundSent inbound
  have foundL : landed.table.find i.key = some { r with state := .landed, inbound := none } := find_modRec_of_found record _
  have keptL : KeepsAllBut [.table] released landed := keepsAllBut_iff.mpr (by simp [landed])
  have alikeL : Alike s landed := (Alike.of_keeps keptSent).trans (alikeR.trans (alike_modRec ..))
  have keptAll : KeepsAllBut [.port, .table, .contexts] s landed := (keptSent.trans (zs := [.port, .table, .contexts]) keptR (by decide) (by decide)).trans keptL (by decide) (by decide)
  have others : OtherRecords i.key s landed :=
    .trans (t := sent) (fun q _ => by rw [show sent.table = s.table from keptSent .table (by decide)]) (othersR.trans (modRec_otherRecords i.key _ released))
  obtain ⟨keptT, othersT, stands, linger, notices⟩ := emitRecord_effect foundL alikeL (.of_keeps keptAll) others (.landed i.key r.version r.kind r.size)
  rw [← eq] at keptT othersT stands linger notices
  have pool : t.pool = released.pool := (show t.pool = landed.pool from keptT .contexts (by decide)).trans (keptL .contexts (by decide))
  have port : t.wan = sent.wan := (show t.wan = landed.wan from keptT .port (by decide)).trans ((keptL .port (by decide)).trans (keptR .port (by decide)))
  refine ⟨keptAll.trans keptT (by decide) (by decide), fun d hd => ?_, (ctx_congr pool c).trans free, othersT, linger, stands, ?_, ?_, notices⟩
  · exact (ctx_congr pool d).trans ((contexts d hd).trans (ctx_congr (keptSent .contexts (by decide)) d))
  · rw [port]
    exact sendCtl_wan _ _ s
  · exact (sendCtl_framesSent _ _ s).after port

theorem AckReaches.congr {f g : Inbound} {c : CtxNo} {i : InCtx} {p : Nat} (h : AckReaches f c i p) (fifo : g.fifo = f.fifo) : AckReaches g c i p := by
  obtain ⟨low, high, written, stops⟩ := h
  exact ⟨low, high, by rwa [fifo], by rwa [fifo]⟩

/-! ## A write that failed (R134, R135) -/

theorem failedWrite_effect {c : CtxNo} {i : InCtx} {r : Record} {s : State} (id : Nat) (bound : s.ctx c = .inb i) (found : s.table.find i.key = some r)
    (inbound : r.inbound = some c) :
    let t := sendCtl i.source (replyBody i.key i.version .aborted) (cancelDrain c .fault (toWaiting i.key (writeEnded id s)))
    KeepsAllBut [.staging, .engine, .contexts, .port, .table, .backlog] s t ∧ OtherRecords i.key s t ∧ t.table.linger = s.table.linger ∧
      CancelledWithDrain c i .fault ((s.withHme (s.hme.without id)).withInbound { s.inbound with fifo := s.inbound.fifo.filter fun e => e.op != some id }) t ∧
      HoldingFollows s t ∧ CancelledRecord r c i.version .fault s t ∧ t.wan = { s.wan with queue := t.wan.queue } ∧
      FramesSent (s.resumesAt t.inbound.fifo.length ++ [{ dest := i.source, body := .reply i.key i.version .aborted 0 none }]) s t := by
  intro t
  let w := writeEnded id s
  let u := cancelDrain c .fault (toWaiting i.key w)
  obtain ⟨keptW, ⟨fifo, followsW, hme, wanW⟩, framesW⟩ := writeEnded_effect id s
  have tableW : w.table = s.table := keptW .table (by decide)
  have boundW : w.ctx c = .inb i := (ctx_congr (keptW .contexts (by decide)) c).trans bound
  have foundW : w.table.find i.key = some r := by rw [tableW, found]
  obtain ⟨keptU, others, linger, ⟨followsU, framesU, wanU⟩, fewer, drained, record⟩ := cancelWaiting_effect boundW foundW inbound .fault
  have keptT : KeepsAllBut [.port] u t := keepsAllBut_iff.mpr (by simp [t, u, w])
  have tableT : t.table = u.table := keptT .table (by decide)
  have inboundT : t.inbound = u.inbound := keptT .staging (by decide)
  have keptSU : KeepsAllBut [.staging, .engine, .contexts, .port, .table, .backlog] s u := keptW.trans keptU (by decide) (by decide)
  obtain ⟨follows, resumes⟩ := followsW.trans followsU fewer
  have wanSU : u.wan = { s.wan with queue := u.wan.queue } := by
    rw [wanU, wanW]
  refine ⟨keptSU.trans keptT (by decide) (by decide), fun q hq => ?_, ?_, ?_, follows.after inboundT, ?_, ?_, ?_⟩
  · rw [tableT, others q hq, tableW]
  · rw [tableT, linger, tableW]
  · exact (drained.before (s := (s.withHme (s.hme.without id)).withInbound { s.inbound with fifo := s.inbound.fifo.filter fun e => e.op != some id })
      fifo hme (keptW .contexts (by decide))).after inboundT (keptT .engine (by decide)) (keptT .contexts (by decide))
  · exact (record.before (.of_keeps keptW) (.of_keeps keptW) (keptW .backlog (by decide))).after inboundT tableT (keptT .backlog (by decide))
  · rw [show t.wan = { u.wan with queue := t.wan.queue } from sendCtl_wan _ _ u, wanSU]
  · rw [inboundT, ← resumes]
    have upTo : FramesSent (s.resumesAt w.inbound.fifo.length ++ w.resumesAt u.inbound.fifo.length) s u := by
      refine FramesSent.append ?_ framesU (keptW .regions (by decide)) (by rw [wanW])
      rw [fifo]
      exact framesW
    exact upTo.append (sendCtl_framesSent _ _ u) (keptSU .regions (by decide)) (by rw [wanSU])

/-- R126, R127: the acknowledged point behind an ended write. -/
theorem writtenOn_effect {c : CtxNo} {i : InCtx} {p : Nat} {s : State} (id : Nat) (bound : s.ctx c = .inb i) (receiving : i.state = .receiving)
    (reaches : AckReaches (writeEnded id s).inbound c i p) :
    let rest := s.inbound.fifo.filter fun e => e.op != some id
    let staged := fun t : State => t.inbound.fifo = rest ∧ HoldingFollows s t ∧ t.hme = s.hme.without id ∧ t.wan = { s.wan with queue := t.wan.queue }
    let resumes := s.resumesAt rest.length
    let acks := fun p : Nat => resumes ++ [{ dest := i.source, body := .ack i.key i.version p }]
    let t := ackAdvance c (writeEnded id s)
    (p = i.acked → KeepsAllBut [.staging, .engine, .port] s t ∧ staged t ∧ FramesSent resumes s t) ∧
    (i.acked < p → p ≠ i.chunks → KeepsAllBut [.staging, .engine, .contexts, .port] s t ∧ staged t ∧ OtherContexts c s t ∧
      t.ctx c = .inb { i with acked := p } ∧ FramesSent (acks p) s t) ∧
    (∀ r, i.acked < p → p = i.chunks → s.table.find i.key = some r → r.inbound = some c → ∃ q,
      KeepsAllBut [.staging, .engine, .contexts, .port, .table, .backlog] s t ∧ staged t ∧ OtherContexts c s t ∧ t.ctx c = .free ∧
      OtherRecords i.key s t ∧ t.table.linger = s.table.linger ∧ t.table.find i.key = some q ∧
      Record.sameBody { r with state := .landed, inbound := none } q ∧ FramesSent (acks p) s t ∧
      RecordNotices s.hasRoom i.key [.landed i.key r.version r.kind r.size] [] s t) := by
  intro rest staged resumes acks t
  let w := writeEnded id s
  obtain ⟨keptW, stagedW, framesW⟩ := writeEnded_effect id s
  have boundW : w.ctx c = .inb i := (ctx_congr (keptW .contexts (by decide)) c).trans bound
  have wanW : w.wan = { s.wan with queue := w.wan.queue } := stagedW.2.2.2
  have tableW : w.table = s.table := keptW .table (by decide)
  have stagedOn : ∀ {ts}, KeepsAllBut ts w t → .staging ∉ ts → .engine ∉ ts → t.wan = { w.wan with queue := t.wan.queue } → staged t :=
    fun kept staging engine wan => by
      obtain ⟨fifo, follows, hme, -⟩ := stagedW
      have inbound : t.inbound = w.inbound := kept .staging staging
      refine ⟨by rw [inbound, fifo], follows.after inbound, by rw [kept .engine engine, hme], ?_⟩
      rw [wan, wanW]
  have framesOn : ∀ {fs}, FramesSent fs w t → FramesSent (resumes ++ fs) s t :=
    fun frames => framesW.append frames (keptW .regions (by decide)) (by rw [wanW])
  have contextsOn : OtherContexts c w t → OtherContexts c s t := fun others d hd => (others d hd).trans (ctx_congr (keptW .contexts (by decide)) d)
  refine ⟨fun same => ?_, fun more inside => ?_, fun r more whole found inbound => ?_⟩
  · subst same
    have eq : t = w := ackAdvance_of_same boundW reaches
    rw [eq]
    exact ⟨keptW, stagedW, framesW⟩
  · obtain ⟨kept, contexts, moved, wan, frames⟩ := ackAdvance_moves boundW receiving reaches more inside
    exact ⟨keptW.trans kept (by decide) (by decide), stagedOn kept (by decide) (by decide) wan, contextsOn contexts, moved, framesOn frames⟩
  · subst whole
    have foundW : w.table.find i.key = some r := by rw [tableW, found]
    obtain ⟨kept, contexts, free, others, linger, ⟨q, stands, body⟩, wan, frames, notices⟩ := ackAdvance_lands boundW receiving reaches more foundW inbound
    rw [(Alike.of_keeps keptW).hasRoom (.of_keeps keptW)] at notices
    exact ⟨q, keptW.trans kept (by decide) (by decide), stagedOn kept (by decide) (by decide) wan, contextsOn contexts, free,
      fun k hk => (others k hk).trans (by rw [tableW]), by rw [linger, tableW], stands, body, framesOn frames, notices.before (.of_keeps keptW)⟩

/-- Settles O51: the parts above, over the write client's two answers. -/
theorem stagedSegmentsAreWritten : Obligations.StagedSegmentsAreWritten := by
  unfold Obligations.StagedSegmentsAreWritten
  refine ⟨fun s => ?_, fun id op c i s running use bound => ?_⟩
  · have may := mayIssue_iff s.inbound
    have waits : ∀ {e}, (e.op = none → ∃ d ∈ s.inbound.fifo, d.ctx = e.ctx ∧ d.chunk = e.chunk ∧ d.discarded = true ∧ d.op.isSome = true) →
        s.inbound.mayIssue e = false := fun held => by
      rw [← Bool.not_eq_true, may]
      exact fun ⟨waiting, free⟩ => free (held waiting)
    exact ⟨fun idle => exec_fifoWriteIssue_idle (idle.imp_right fun all e mem => waits (all e mem)),
      fun before e after i running split none waiting free bound =>
        issue_effect running split (fun d mem => waits (none d mem)) ((may e).mpr ⟨waiting, free⟩) bound⟩
  · have fifo : (writeEnded id s).inbound.fifo = s.inbound.fifo.filter fun e => e.op != some id := (writeEnded_effect id s).2.1.1
    obtain ⟨writing, ended⟩ := drainCheck_effect (c := c) (i := i) id (s := s)
    refine ⟨fun found => ⟨fun draining => ?_, fun p receiving low high written stops => ?_⟩, fun found => ⟨fun draining => ?_, fun r receiving known inbound => ?_⟩⟩
    · have ran := exec_segmentWriteDone found use running
      rw [writeDone_of_draining bound draining] at ran
      refine ⟨fun left => ⟨_, ran, writing left⟩, fun r why none known cancel => ⟨_, ran, ?_⟩⟩
      exact ended r why none known cancel
    · have ran := exec_segmentWriteDone found use running
      rw [writeDone_of_receiving bound receiving] at ran
      obtain ⟨same, moves, lands⟩ := writtenOn_effect id bound receiving
        (⟨low, high, by rw [fifo]; exact written, by rw [fifo]; exact stops⟩ : AckReaches (writeEnded id s).inbound c i p)
      refine ⟨fun stays => ⟨_, ran, same stays⟩, fun more inside => ⟨_, ran, moves more inside⟩, fun r more whole known inbound => ?_⟩
      obtain ⟨q, effect⟩ := lands r more whole known inbound
      exact ⟨_, q, ran, effect⟩
    · have ran := exec_segmentWriteFail found use running
      rw [writeFailed_of_draining bound draining] at ran
      refine ⟨fun left => ⟨_, ran, writing left⟩, fun r why none known cancel => ⟨_, ran, ?_⟩⟩
      exact ended r why none known cancel
    · have ran := exec_segmentWriteFail found use running
      rw [writeFailed_of_receiving bound receiving] at ran
      exact ⟨_, ran, failedWrite_effect id bound known inbound⟩

end Sys2Proof.Machine
end

section
/-! PROOFS. Holding (R129, R130), and the tests of a segment. -/

namespace Sys2Proof.Machine

/-! ## Frames that find room (R162) -/

theorem mem_foldl_frames {step : List CtlFrame → CtlFrame → List CtlFrame} (passes : ∀ queue f, step queue f = queue ∨ step queue f = queue ++ [f])
    {f : CtlFrame} {fs queue : List CtlFrame} (stands : f ∈ queue) : f ∈ fs.foldl step queue := by
  induction fs generalizing queue with
  | nil => exact stands
  | cons g rest ih =>
    refine ih ?_
    rcases passes queue g with same | placed
    · rwa [same]
    · rw [placed]
      exact List.mem_append_left _ stands

/-- Frames sent with room for all of them stand in the queue, each whose region takes frames. -/
theorem FramesSent.queued {fs : List CtlFrame} {s t : State} (h : FramesSent fs s t) {f : CtlFrame} (mem : f ∈ fs) (heard : (s.region f.dest).state ≠ .suspended)
    (carrier : s.wan.carrier = true) (room : s.wan.queue.length + fs.length ≤ 128) : f ∈ t.wan.queue := by
  unfold FramesSent at h
  rw [h]
  clear h
  generalize s.wan.queue = queue at room
  induction fs generalizing queue with
  | nil => cases mem
  | cons g rest ih =>
    rw [List.length_cons] at room
    rw [List.foldl_cons]
    rcases List.mem_cons.mp mem with same | later
    · subst same
      rw [if_neg (by rw [carrier]; simp [heard]; omega)]
      refine mem_foldl_frames (fun queue f => ?_) (List.mem_append_right _ List.mem_cons_self)
      split
      · exact .inl rfl
      · exact .inr rfl
    · refine ih later _ ?_
      split
      · omega
      · rw [List.length_append, List.length_singleton]
        omega

theorem FramesSent.frameSent {x : Region} {b : CtlBody} {s t : State} (h : FramesSent [{ dest := x, body := b }] s t) : FrameSent x b s t := by
  have sent : t.wan.queue = if (s.region x).state = .suspended ∨ s.wan.carrier = false ∨ 128 ≤ s.wan.queue.length then s.wan.queue
    else s.wan.queue ++ [{ dest := x, body := b }] := h
  unfold FrameSent
  rw [sent]
  split
  · rfl
  · rfl

/-! ## HOLD -/

theorem sendHold_effect (x : Region) (s : State) :
    let t := sendHold x s
    KeepsAllBut [.staging, .port] s t ∧ t.inbound = { s.inbound with holdSent := vset s.inbound.holdSent x (some s.now) } ∧
      FramesSent [{ dest := x, body := .hold (s.setting 9) }] s t ∧ t.wan = { s.wan with queue := t.wan.queue } := by
  intro t
  refine ⟨keepsAllBut_iff.mpr (by simp [t, sendHold]), ?_, (sendCtl_framesSent x (.hold (s.setting 9)) s).after rfl, sendCtl_wan x (.hold (s.setting 9)) s⟩
  show ({ (sendCtl x (.hold (s.setting 9)) s).inbound with
      holdSent := vset (sendCtl x (.hold (s.setting 9)) s).inbound.holdSent x (some s.now) } : Inbound) = _
  simp

theorem holdTest_of_due {x : Region} {s : State} (due : HoldDue x s) : holdTest x s = sendHold x s := by
  obtain ⟨holding, late⟩ := due
  rw [holdTest, if_pos holding]
  cases sent : vget s.inbound.holdSent x with
  | none => rfl
  | some at_ => exact if_pos (late at_ sent)

theorem holdTest_of_not_due {x : Region} {s : State} (quiet : ¬ HoldDue x s) : holdTest x s = s := by
  rw [holdTest]
  by_cases holding : s.inbound.holding = true
  · rw [if_pos holding]
    cases sent : vget s.inbound.holdSent x with
    | none => exact absurd ⟨holding, fun at_ h => by rw [sent] at h; cases h⟩ quiet
    | some at_ => exact if_neg fun late => quiet ⟨holding, fun at' h => by rw [sent] at h; cases h; exact late⟩
  · rw [if_neg holding]

theorem sendHold_not_due (x : Region) (s : State) : ¬ HoldDue x (sendHold x s) := by
  obtain ⟨kept, inbound, -, -⟩ := sendHold_effect x s
  rintro ⟨-, late⟩
  have clock : (sendHold x s).now = s.now := kept .clock (by decide)
  have sent := late s.now (by rw [inbound]; exact vget_vset_self _ x _)
  rw [clock, Nat.sub_self, Nat.mul_zero] at sent
  exact Nat.not_lt_zero _ sent

/-- HOLD to one region after the other. -/
theorem foldl_sendHold_effect (l : List Region) (s : State) :
    let t := l.foldl (fun t x => sendHold x t) s
    KeepsAllBut [.staging, .port] s t ∧ t.inbound.fifo = s.inbound.fifo ∧ t.inbound.holding = s.inbound.holding ∧
      (∀ y, vget t.inbound.holdSent y = if y ∈ l then some s.now else vget s.inbound.holdSent y) ∧
      FramesSent (l.map fun y => { dest := y, body := .hold (s.setting 9) }) s t ∧ t.wan = { s.wan with queue := t.wan.queue } := by
  induction l generalizing s with
  | nil => exact ⟨.refl _ s, rfl, rfl, fun y => (if_neg List.not_mem_nil).symm, .nil s, rfl⟩
  | cons x rest ih =>
    obtain ⟨kept, inbound, frames, wan⟩ := sendHold_effect x s
    obtain ⟨keptR, fifo, holding, flags, framesR, wanR⟩ := ih (sendHold x s)
    have clock : (sendHold x s).now = s.now := kept .clock (by decide)
    have time : (sendHold x s).setting 9 = s.setting 9 := by rw [State.setting, State.setting, show (sendHold x s).settings = s.settings from kept .settings (by decide)]
    refine ⟨kept.trans keptR (by decide) (by decide), by rw [List.foldl_cons, fifo, inbound], by rw [List.foldl_cons, holding, inbound], fun y => ?_, ?_, ?_⟩
    · rw [List.foldl_cons, flags, clock, inbound]
      show (if y ∈ rest then some s.now else vget (vset s.inbound.holdSent x (some s.now)) y) = _
      rw [vget_vset]
      by_cases later : y ∈ rest
      · rw [if_pos later, if_pos (List.mem_cons_of_mem _ later)]
      · rw [if_neg later]
        exact if_congr (by simp [later]) rfl rfl
    · rw [time] at framesR
      exact frames.append framesR (kept .regions (by decide)) (by rw [wan])
    · rw [List.foldl_cons, wanR]
      rw [wan]

theorem mem_sendingHere_iff (s : State) (y : Region) : y ∈ s.sendingHere ↔ ∃ d e, s.ctx d = .inb e ∧ e.state = .receiving ∧ e.source = y := by
  rw [State.sendingHere, List.mem_filter, List.any_eq_true]
  refine ⟨fun ⟨_, c, mem, sends⟩ => ?_, fun ⟨d, e, bound, receiving, source⟩ => ⟨List.mem_finRange y, s.ctx d, ?_, ?_⟩⟩
  · obtain ⟨n, less, at_⟩ := List.mem_iff_getElem.mp mem
    cases c with
    | inb e =>
      rw [Vector.length_toList] at less
      refine ⟨⟨n, less⟩, e, ?_, ?_⟩
      · rw [State.ctx, vget, Fin.getElem_fin, ← at_, Vector.getElem_toList]
      · simpa [Ctx.in?] using sends
    | free => cases sends
    | out o => cases sends
  · exact Vector.mem_toList_iff.mpr (Vector.getElem_mem d.isLt)
  · rw [bound]
    simp [Ctx.in?, receiving, source]

/-- R129: the entry about to be added makes the part hold. -/
abbrev HoldStarts (s : State) : Prop := s.inbound.holding = false ∧ s.inbound.fifo.length + 1 = 48

/-- R129: the HOLD frames of an entry's addition, in rising region order. -/
def holdsOf (s : State) : List CtlFrame := if HoldStarts s then s.sendingHere.map fun y => { dest := y, body := .hold (s.setting 9) } else []

theorem holdsOf_length (s : State) : (holdsOf s).length ≤ 8 := by
  unfold holdsOf
  split
  · rw [List.length_map, State.sendingHere]
    exact (List.length_filter_le _ _).trans (by rw [List.length_finRange])
  · exact Nat.zero_le _

theorem startHolding_of_starts {s : State} (holding : s.inbound.holding = false) (full : s.inbound.fifo.length = 48) :
    startHolding s = s.sendingHere.foldl (fun t x => sendHold x t) (s.withInbound { s.inbound with holding := true }) := by
  rw [startHolding, if_pos (by rw [holding, full]; rfl)]

theorem startHolding_of_not {s : State} (stays : ¬ (s.inbound.holding = false ∧ s.inbound.fifo.length = 48)) : startHolding s = s := by
  rw [startHolding, if_neg]
  rw [Bool.and_eq_true, Bool.not_eq_true', beq_iff_eq]
  exact stays

end Sys2Proof.Machine
end

section
/-! PROOFS. O50: segments are tested and staged. -/

namespace Sys2Proof.Machine

/-- R124: the context with the segment in its received set. -/
def InCtx.withSegment (i : InCtx) (g : SegmentFrame) (j : Fin 32) (s : State) : InCtx :=
  { i with received := vset i.received j (some g.payload),
           carried := if g.seg.toNat + 1 = segmentCount i.size g.chunk.toNat then some g.chunkCheck else i.carried,
           timer := some (s.now + s.settingTime 4) }

/-- R124: the entry a segment makes in the Staging FIFO. -/
def segmentEntry (c : CtxNo) (g : SegmentFrame) : FifoEntry :=
  { ctx := c, chunk := g.chunk.toNat, seg := g.seg.toNat, payload := g.payload, op := none, discarded := false }

/-- A context in RECEIVING takes the region's segments. -/
def Sends (s : State) (y : Region) : Prop := ∃ d e, s.ctx d = .inb e ∧ e.state = .receiving ∧ e.source = y

/-- A frame to the region stands in the Control Queue, if the region takes frames and there was room for the claim's frames. -/
def Queued (s : State) (y : Region) (body : CtlBody) (t : State) : Prop :=
  (s.region y).state ≠ .suspended → s.wan.carrier = true → s.wan.queue.length ≤ 100 → { dest := y, body := body } ∈ t.wan.queue

/-- R129: the Staging FIFO with its holding after an entry's addition. -/
def StagedAs (s : State) (fifo : List FifoEntry) (t : State) : Prop :=
  t.inbound.fifo = fifo ∧ (t.inbound.holding = true ↔ s.inbound.holding = true ∨ HoldStarts s) ∧
    (¬ HoldStarts s → t.inbound.holdSent = s.inbound.holdSent) ∧
    (HoldStarts s → (∀ y, Sends s y → Queued s y (.hold (s.setting 9)) t) ∧
      ∀ y, (Sends s y → vget t.inbound.holdSent y = some s.now) ∧ (¬ Sends s y → vget t.inbound.holdSent y = vget s.inbound.holdSent y))

theorem FramesSent.queuedOf {fs : List CtlFrame} {s t : State} (h : FramesSent fs s t) {y : Region} {body : CtlBody} (mem : { dest := y, body := body } ∈ fs)
    (few : fs.length ≤ 28) : Queued s y body t := fun heard carrier room => h.queued mem heard carrier (by omega)

theorem mem_holdsOf {s : State} (starts : HoldStarts s) {y : Region} (sends : Sends s y) : { dest := y, body := .hold (s.setting 9) } ∈ holdsOf s := by
  rw [holdsOf, if_pos starts]
  exact List.mem_map_of_mem ((mem_sendingHere_iff s y).mpr sends)

theorem holdsOf_of_not {s : State} (stays : ¬ HoldStarts s) : holdsOf s = [] := if_neg stays

/-- R123, R129: the context takes the segment, the FIFO its entry. -/
def stage (c : CtxNo) (i : InCtx) (g : SegmentFrame) (j : Fin 32) (s : State) : State :=
  startHolding ((setCtx c (.inb (i.withSegment g j s)) s).withInbound { s.inbound with fifo := s.inbound.fifo ++ [segmentEntry c g] })

theorem stage_effect {c : CtxNo} {i : InCtx} {s : State} (g : SegmentFrame) (j : Fin 32) (bound : s.ctx c = .inb i) :
    let t := stage c i g j s
    KeepsAllBut [.contexts, .staging, .port] s t ∧ OtherContexts c s t ∧ t.ctx c = .inb (i.withSegment g j s) ∧
      StagedAs s (s.inbound.fifo ++ [segmentEntry c g]) t ∧ FramesSent (holdsOf s) s t ∧ t.wan = { s.wan with queue := t.wan.queue } ∧ (¬ HoldStarts s → t.wan = s.wan) := by
  intro t
  let u := (setCtx c (.inb (i.withSegment g j s)) s).withInbound { s.inbound with fifo := s.inbound.fifo ++ [segmentEntry c g] }
  have keptU : KeepsAllBut [.contexts, .staging] s u := keepsAllBut_iff.mpr (by simp [u])
  have others : OtherContexts c s u := setCtx_otherContexts c _ s
  have taken : u.ctx c = .inb (i.withSegment g j s) := ctx_setCtx_self ..
  have length : u.inbound.fifo.length = s.inbound.fifo.length + 1 := List.length_append
  have senders : ∀ y, y ∈ u.sendingHere ↔ Sends s y := fun y => by
    rw [mem_sendingHere_iff]
    constructor
    · rintro ⟨d, e, at_, receiving, source⟩
      by_cases same : d = c
      · subst same
        cases taken.symm.trans at_
        exact ⟨d, i, bound, receiving, source⟩
      · exact ⟨d, e, (others d same).symm.trans at_, receiving, source⟩
    · rintro ⟨d, e, at_, receiving, source⟩
      by_cases same : d = c
      · subst same
        cases bound.symm.trans at_
        exact ⟨d, _, taken, receiving, source⟩
      · exact ⟨d, e, (others d same).trans at_, receiving, source⟩
  have sameSenders : u.sendingHere = s.sendingHere := List.filter_congr fun y _ => by
    have iff := (senders y).trans (mem_sendingHere_iff s y).symm
    rw [State.sendingHere, State.sendingHere, List.mem_filter, List.mem_filter] at iff
    simpa using iff
  by_cases starts : HoldStarts s
  · have eq : t = _ := startHolding_of_starts (s := u) starts.1 (by rw [length]; exact starts.2)
    obtain ⟨kept, fifo, holding, flags, frames, wan⟩ := foldl_sendHold_effect u.sendingHere (u.withInbound { u.inbound with holding := true })
    rw [← eq] at kept fifo holding flags frames wan
    have all : FramesSent (holdsOf s) s t := by
      rw [holdsOf, if_pos starts, ← sameSenders]
      exact frames.before rfl rfl
    have keptT : KeepsAllBut [.staging, .port] u t := (show KeepsAllBut [.staging] u (u.withInbound { u.inbound with holding := true }) from
      keepsAllBut_iff.mpr (by simp)).trans kept (by decide) (by decide)
    have pool : t.pool = u.pool := keptT .contexts (by decide)
    refine ⟨keptU.trans keptT (by decide) (by decide), fun d hd => (ctx_congr pool d).trans (others d hd), (ctx_congr pool c).trans taken,
      ⟨fifo, iff_of_true holding (.inr starts), fun stays => absurd starts stays, fun _ => ⟨fun y sends => all.queuedOf (mem_holdsOf starts sends)
        ((holdsOf_length s).trans (by decide)), fun y => ⟨fun sends => ?_, fun silent => ?_⟩⟩⟩, all, wan, fun stays => absurd starts stays⟩
    · rw [flags, if_pos ((senders y).mpr sends)]
      rfl
    · rw [flags, if_neg (mt (senders y).mp silent)]
      rfl
  · have eq : t = u := startHolding_of_not (s := u) (by rw [length]; exact starts)
    rw [eq, holdsOf_of_not starts]
    exact ⟨keptU.weaken (by decide), others, taken, ⟨rfl, (or_iff_left starts).symm, fun _ => rfl, fun other => absurd other starts⟩, .nil s, rfl, fun _ => rfl⟩

theorem complete_iff (i : InCtx) : i.complete = true ↔ ∀ m : Fin 32, m.val < segmentCount i.size i.expected → (vget i.received m).isSome = true := by
  rw [InCtx.complete, List.all_eq_true]
  simp only [List.mem_finRange, forall_const, Bool.or_eq_true, decide_eq_true_eq]
  exact forall_congr' fun m => ⟨fun either less => either.resolve_left (by omega), fun all => (Nat.lt_or_ge m.val _).elim (fun less => .inr (all less)) .inl⟩

theorem segmentShapeOk_iff (i : InCtx) (g : SegmentFrame) : segmentShapeOk i g = true ↔
    g.chunk.toNat < i.chunks ∧ g.seg.toNat < segmentCount i.size g.chunk.toNat ∧ g.payload.length = segmentLength i.size g.chunk.toNat g.seg.toNat ∧
      g.presence = (if g.seg.toNat + 1 = segmentCount i.size g.chunk.toNat then 1 else 0) := by
  unfold segmentShapeOk
  by_cases last : g.seg.toNat + 1 = segmentCount i.size g.chunk.toNat
  · simp [last, and_assoc]
  · simp [last, and_assoc]

theorem chunkComplete_of_incomplete {c : CtxNo} {i : InCtx} {s : State} (bound : s.ctx c = .inb i) (open_ : i.complete = false) : chunkComplete c s = s := by
  rw [chunkComplete, bound]
  exact if_neg (by rw [open_]; exact Bool.false_ne_true)

theorem chunkComplete_of_good {c : CtxNo} {i : InCtx} {s : State} (bound : s.ctx c = .inb i) (complete : i.complete = true)
    (good : i.carried = some (crc32c i.chunkBytes)) : chunkComplete c s = ackAdvance c (setCtx c (.inb i.takeChunk) s) := by
  rw [chunkComplete, bound]
  exact (if_pos complete).trans (if_pos (beq_iff_eq.mpr good))

theorem chunkComplete_of_bad {c : CtxNo} {i : InCtx} {s : State} (bound : s.ctx c = .inb i) (complete : i.complete = true)
    (bad : i.carried ≠ some (crc32c i.chunkBytes)) : chunkComplete c s = discardChunk c i s := by
  rw [chunkComplete, bound]
  exact (if_pos complete).trans (if_neg (mt beq_iff_eq.mp bad))

/-- R123: a segment in its turn is staged and its chunk looked at. -/
theorem segmentTaken_eq {c : CtxNo} {i : InCtx} {g : SegmentFrame} {s : State} (shape : segmentShapeOk i g = true) (j : Fin 32) :
    segmentTaken c i g j s = chunkComplete c (stage c i g j s) := by
  obtain ⟨-, -, -, presence⟩ := (segmentShapeOk_iff i g).mp shape
  have carried : (if g.presence = 1 then some g.chunkCheck else i.carried) =
      if g.seg.toNat + 1 = segmentCount i.size g.chunk.toNat then some g.chunkCheck else i.carried := by
    rw [presence]
    by_cases last : g.seg.toNat + 1 = segmentCount i.size g.chunk.toNat
    · rw [if_pos last, if_pos last, if_pos rfl]
    · rw [if_neg last, if_neg last, if_neg (by decide)]
  rw [segmentTaken, carried]
  rfl

theorem StagedAs.after {s u t : State} {fifo : List FifoEntry} {more : List CtlFrame} (h : StagedAs s fifo u) (inbound : t.inbound = u.inbound)
    (frames : FramesSent (holdsOf s ++ more) s t) (few : more.length ≤ 20) : StagedAs s fifo t := by
  obtain ⟨stands, holding, stays, starts⟩ := h
  have short := holdsOf_length s
  refine ⟨by rw [inbound, stands], by rw [inbound]; exact holding, fun no => by rw [inbound]; exact stays no, fun yes => ⟨fun y sends => ?_, ?_⟩⟩
  · exact frames.queuedOf (List.mem_append_left _ (mem_holdsOf yes sends)) (by rw [List.length_append]; omega)
  · rw [inbound]
    exact (starts yes).2

/-- R124, R126: the chunk is taken whole. -/
theorem chunkTaken_effect {c : CtxNo} {i : InCtx} {g : SegmentFrame} {j : Fin 32} {s : State} {p : Nat} (bound : s.ctx c = .inb i) (receiving : i.state = .receiving)
    (turn : g.chunk.toNat = i.expected) (inside : i.expected < i.chunks) (low : i.acked ≤ p) (high : p ≤ i.expected)
    (written : ∀ ch, i.acked ≤ ch → ch < p → ¬ ∃ e ∈ s.inbound.fifo ++ [segmentEntry c g], e.ctx = c ∧ e.chunk = ch ∧ e.discarded = false)
    (stops : p < i.expected → ∃ e ∈ s.inbound.fifo ++ [segmentEntry c g], e.ctx = c ∧ e.chunk = p ∧ e.discarded = false) :
    let t := ackAdvance c (setCtx c (.inb (i.withSegment g j s).takeChunk) (stage c i g j s))
    KeepsAllBut [.contexts, .staging, .port] s t ∧ OtherContexts c s t ∧ StagedAs s (s.inbound.fifo ++ [segmentEntry c g]) t ∧
      t.ctx c = .inb { (i.withSegment g j s).takeChunk with acked := p } ∧ (¬ HoldStarts s → p = i.acked → t.wan = s.wan) ∧
      (¬ HoldStarts s → i.acked < p → FrameSent i.source (.ack i.key i.version p) s t) ∧ (i.acked < p → Queued s i.source (.ack i.key i.version p) t) := by
  intro t
  let u := stage c i g j s
  let v := setCtx c (.inb (i.withSegment g j s).takeChunk) u
  obtain ⟨keptU, others, taken, staged, frames, wan, quiet⟩ := stage_effect g j bound
  have keptV : KeepsAllBut [.contexts] u v := keepsAllBut_iff.mpr (by simp [v])
  have boundV : v.ctx c = .inb (i.withSegment g j s).takeChunk := ctx_setCtx_self ..
  have othersV : OtherContexts c s v := fun d hd => (setCtx_otherContexts c _ u d hd).trans (others d hd)
  have inboundV : v.inbound = u.inbound := keptV .staging (by decide)
  have portV : v.wan = u.wan := keptV .port (by decide)
  have framesV : FramesSent (holdsOf s) s v := frames.after portV
  have keptSV : KeepsAllBut [.contexts, .staging, .port] s v := keptU.trans keptV (by decide) (by decide)
  have reaches : AckReaches v.inbound c (i.withSegment g j s).takeChunk p := by
    refine ⟨low, high.trans (Nat.le_succ _), ?_, fun before => ?_⟩
    · rw [inboundV, staged.1]
      exact written
    · rw [inboundV, staged.1]
      rcases Nat.lt_or_eq_of_le high with earlier | last
      · exact stops earlier
      · exact ⟨_, List.mem_append_right _ (List.mem_singleton_self _), rfl, turn.trans last.symm, rfl⟩
  rcases Nat.lt_or_eq_of_le low with more | same
  · obtain ⟨kept, othersT, moved, wanT, acked⟩ := ackAdvance_moves boundV receiving reaches more (Nat.ne_of_lt (Nat.lt_of_le_of_lt high inside))
    have all : FramesSent (holdsOf s ++ [{ dest := i.source, body := .ack i.key i.version p }]) s t :=
      framesV.append acked (keptSV .regions (by decide)) (by rw [portV, wan])
    have short := holdsOf_length s
    refine ⟨keptSV.trans kept (by decide) (by decide), fun d hd => (othersT d hd).trans (othersV d hd),
      staged.after ((kept .staging (by decide) : t.inbound = v.inbound).trans inboundV) all (by simp), moved, fun _ same => absurd same (by omega), fun stays _ => ?_, fun _ => ?_⟩
    · rw [holdsOf_of_not stays] at all
      exact all.frameSent
    · exact all.queuedOf (List.mem_append_right _ (List.mem_singleton_self _)) (by rw [List.length_append, List.length_singleton]; omega)
  · subst same
    have eq : t = v := ackAdvance_of_same boundV reaches
    rw [eq]
    refine ⟨keptSV, othersV, staged.after inboundV (more := []) (by rw [List.append_nil]; exact framesV) (by simp), boundV, fun stays _ => portV.trans (quiet stays),
      fun _ more => absurd more (Nat.lt_irrefl _), fun more => absurd more (Nat.lt_irrefl _)⟩

/-! ## A chunk that fails its check (R124) -/

/-- R124: the entries of the chunk that wait are gone, those in writing are marked. -/
def discardedFrom (c : CtxNo) (ch : Nat) (fifo : List FifoEntry) : List FifoEntry :=
  (fifo.filter fun e => !(e.ctx == c && e.chunk == ch && e.op.isNone)).map fun e => if e.ctx = c ∧ e.chunk = ch then { e with discarded := true } else e

theorem discarded_fifo (c : CtxNo) (ch : Nat) (fifo : List FifoEntry) (entry : FifoEntry) (waits : entry.ctx = c ∧ entry.chunk = ch ∧ entry.op = none) :
    (((fifo ++ [entry]).map fun e => if (e.ctx == c && e.chunk == ch) && e.op.isSome then { e with discarded := true } else e).filter
      fun e => !((e.ctx == c && e.chunk == ch) && e.op.isNone)) = discardedFrom c ch fifo := by
  obtain ⟨ctx, chunk, op⟩ := waits
  have last : ([entry].map fun e => if (e.ctx == c && e.chunk == ch) && e.op.isSome then { e with discarded := true } else e).filter
      (fun e => !((e.ctx == c && e.chunk == ch) && e.op.isNone)) = [] := by simp [ctx, chunk, op]
  rw [List.map_append, List.filter_append, last, List.append_nil]
  induction fifo with
  | nil => rfl
  | cons e rest ih =>
    rw [List.map_cons, discardedFrom, List.filter_cons, List.filter_cons, ih]
    by_cases mine : e.ctx = c ∧ e.chunk = ch
    · cases held : e.op with
      | none => simp [mine, held, discardedFrom]
      | some id => simp [mine, held, discardedFrom]
    · have other : (e.ctx == c && e.chunk == ch) = false := by
        rw [← Bool.not_eq_true, Bool.and_eq_true, beq_iff_eq, beq_iff_eq]
        exact mine
      simp [other, mine, discardedFrom]

/-- R124, R131: the whole chunk is discarded. -/
theorem chunkDiscarded_effect {c : CtxNo} {i : InCtx} {g : SegmentFrame} {j : Fin 32} {s : State} (bound : s.ctx c = .inb i) (turn : g.chunk.toNat = i.expected) :
    let rest := discardedFrom c g.chunk.toNat s.inbound.fifo
    let ends := (s.inbound.holding = true ∨ HoldStarts s) ∧ rest.length ≤ 16
    let t := discardChunk c (i.withSegment g j s) (stage c i g j s)
    KeepsAllBut [.contexts, .staging, .port] s t ∧ OtherContexts c s t ∧
      t.ctx c = .inb { i.withSegment g j s with received := Vector.replicate 32 none, carried := none } ∧ (¬ ends → StagedAs s rest t) ∧
      (¬ HoldStarts s → ¬ ends → t.wan = s.wan) ∧
      (ends → t.inbound = { fifo := rest, holding := false, holdSent := Vector.replicate 8 none } ∧ (HoldStarts s → ∀ y, Sends s y → Queued s y (.hold (s.setting 9)) t) ∧
        ∀ y, ((vget s.inbound.holdSent y).isSome = true ∨ (HoldStarts s ∧ Sends s y)) → Queued s y .resume t) := by
  intro rest ends t
  let u := stage c i g j s
  let ofChunk := fun e : FifoEntry => e.ctx == c && e.chunk == i.expected
  let v := setCtx c (.inb { i.withSegment g j s with received := Vector.replicate 32 none, carried := none }) u
  let w := v.withInbound { v.inbound with fifo := v.inbound.fifo.map fun e => if ofChunk e && e.op.isSome then { e with discarded := true } else e }
  obtain ⟨keptU, others, taken, ⟨fifo, holding, stays, starts⟩, frames, wan, quiet⟩ := stage_effect g j bound
  obtain ⟨kept, fifoT, follows, resumes, wanT⟩ := fifoRemove_effect (fun e => ofChunk e && e.op.isNone) w
  have keptW : KeepsAllBut [.contexts, .staging] u w := keepsAllBut_iff.mpr (by simp [w, v])
  have restT : t.inbound.fifo = rest := by
    refine fifoT.trans ?_
    show ((u.inbound.fifo.map fun e => if ofChunk e && e.op.isSome then { e with discarded := true } else e).filter fun e => !(ofChunk e && e.op.isNone)) = _
    rw [fifo]
    show _ = discardedFrom c g.chunk.toNat s.inbound.fifo
    rw [turn]
    exact discarded_fifo c i.expected s.inbound.fifo (segmentEntry c g) ⟨rfl, turn, rfl⟩
  have followsU : HoldingFollows u t := follows.before rfl rfl
  have resumesU : FramesSent (u.resumesAt rest.length) u t := by
    rw [← restT]
    exact resumes.before rfl rfl
  have all : FramesSent (holdsOf s ++ u.resumesAt rest.length) s t := frames.append resumesU (keptU .regions (by decide)) (by rw [wan])
  have endsU : u.inbound.holding = true ∧ t.inbound.fifo.length ≤ 16 ↔ ends := by
    rw [restT]
    exact and_congr_left' holding
  have short := holdsOf_length s
  have few : (u.resumesAt rest.length).length ≤ 8 := by
    unfold State.resumesAt
    split
    · rw [List.length_map]
      exact (List.length_filter_le _ _).trans (by rw [List.length_finRange])
    · exact Nat.zero_le _
  have allFew : (holdsOf s ++ u.resumesAt rest.length).length ≤ 28 := by
    rw [List.length_append]
    omega
  have heldBack : HoldStarts s → ∀ y, Sends s y → Queued s y (.hold (s.setting 9)) t :=
    fun yes y sends => all.queuedOf (List.mem_append_left _ (mem_holdsOf yes sends)) allFew
  have poolT : t.pool = v.pool := kept .contexts (by decide)
  refine ⟨(keptU.trans (zs := [.contexts, .staging, .port]) keptW (by decide) (by decide)).trans kept (by decide) (by decide), fun d hd => ?_, ?_, fun on => ?_, fun no on => ?_, fun below => ⟨?_, heldBack, fun y held => ?_⟩⟩
  · exact (ctx_congr poolT d).trans ((setCtx_otherContexts c _ u d hd).trans (others d hd))
  · exact (ctx_congr poolT c).trans (ctx_setCtx_self ..)
  · obtain ⟨sameHolding, sameFlags⟩ := followsU.2 (mt endsU.mp on)
    exact ⟨restT, by rw [sameHolding]; exact holding, fun no => by rw [sameFlags]; exact stays no,
      fun yes => ⟨heldBack yes, fun y => by rw [sameFlags]; exact (starts yes).2 y⟩⟩
  · have queue : t.wan.queue = u.wan.queue := by
      have none : u.resumesAt rest.length = [] := if_neg fun both => on (endsU.mp (by rw [restT]; exact both))
      rw [none] at resumesU
      exact resumesU
    have port : t.wan = { u.wan with queue := t.wan.queue } := wanT
    rw [port, queue]
    exact quiet no
  · obtain ⟨ended, flags⟩ := followsU.1 (endsU.mpr below)
    have none : t.inbound.holdSent = Vector.replicate 8 none := Vector.ext fun n less => (flags ⟨n, less⟩).trans (Vector.getElem_replicate less).symm
    rw [← restT, ← ended, ← none]
  · have flag : (vget u.inbound.holdSent y).isSome = true := by
      by_cases yes : HoldStarts s
      · obtain ⟨-, flags⟩ := starts yes
        by_cases sends : Sends s y
        · rw [(flags y).1 sends]
          rfl
        · rw [(flags y).2 sends]
          exact held.resolve_right fun both => sends both.2
      · rw [stays yes]
        exact held.resolve_right fun both => yes both.1
    refine all.queuedOf (List.mem_append_right _ ?_) allFew
    rw [State.resumesAt, if_pos (by rw [← restT]; exact endsU.mpr below)]
    exact List.mem_map_of_mem (List.mem_filter.mpr ⟨List.mem_finRange y, flag⟩)

end Sys2Proof.Machine
end

section
/-! PROOFS. O50: the theorem. -/

namespace Sys2Proof.Machine

/-! ## Which tests a segment meets (R122, R123, R130) -/

theorem exec_segment {x : Region} {g : SegmentFrame} {s : State} (admits : s.admits x = true) :
    exec (.segment x g) s = .next (segmentFrame x g (SegmentFrame.computed g x.val s.ownIndex) s) := congrArg Host.Outcome.next (if_pos admits)

theorem sendHold_admits (x y : Region) (s : State) : (sendHold x s).admits y = s.admits y := by
  obtain ⟨kept, -⟩ := sendHold_effect x s
  rw [State.admits, State.admits, State.running, State.running, State.region, State.region, show (sendHold x s).start = s.start from kept .startUp (by decide),
    show (sendHold x s).regions = s.regions from kept .regions (by decide)]

theorem exec_segment_of_due {x : Region} {g : SegmentFrame} {s : State} (admits : s.admits x = true) (due : HoldDue x s) :
    exec (.segment x g) s = exec (.segment x g) (sendHold x s) := by
  have own : (sendHold x s).ownIndex = s.ownIndex := by
    rw [State.ownIndex, State.ownIndex, show (sendHold x s).start = s.start from (sendHold_effect x s).1 .startUp (by decide)]
  rw [exec_segment admits, exec_segment ((sendHold_admits x x s).trans admits), own, segmentFrame, segmentFrame, holdTest_of_due due,
    holdTest_of_not_due (sendHold_not_due x s)]

theorem receivingFor_congr {s t : State} (pool : t.pool = s.pool) (x : Region) (k : Key) (v : Version) : t.receivingFor x k v = s.receivingFor x k v := by
  unfold State.receivingFor State.ctx
  rw [pool]

theorem segmentFrame_of_none {x : Region} {g : SegmentFrame} {s : State} (computed : BitVec 32) (quiet : ¬ HoldDue x s)
    (unclaimed : s.receivingFor x g.key g.version = none) : segmentFrame x g computed s = segmentUnclaimed x g s := by
  rw [segmentFrame, holdTest_of_not_due quiet, unclaimed]

theorem segmentFrame_of_some {x : Region} {g : SegmentFrame} {c : CtxNo} {i : InCtx} {s : State} (computed : BitVec 32) (quiet : ¬ HoldDue x s)
    (claimed : s.receivingFor x g.key g.version = some c) (bound : s.ctx c = .inb i) : segmentFrame x g computed s = segmentTests c i g computed s := by
  rw [segmentFrame, holdTest_of_not_due quiet, claimed]
  dsimp only
  rw [bound]

theorem receiving_of_receivingFor {x : Region} {k : Key} {v : Version} {c : CtxNo} {i : InCtx} {s : State} (claimed : s.receivingFor x k v = some c)
    (bound : s.ctx c = .inb i) : i.state = .receiving := by
  have test := List.find?_some claimed
  rw [bound] at test
  simp only [Ctx.in?, Option.any_some, Bool.and_eq_true, beq_iff_eq] at test
  exact test.1.1.1

/-- R122: the record that answers a segment no context takes. -/
def AnswersSegment (x : Region) (g : SegmentFrame) (r : Record) : Prop :=
  r.role = .remoteRole ∧ r.version = g.version ∧ r.version.origin.toNat = x.val ∧ r.state ∈ [RecState.landed, .settled]

theorem answersSegment_iff (x : Region) (g : SegmentFrame) (r : Record) : (r.role == .remoteRole && r.version == g.version && r.version.origin.toNat == x.val &&
    (r.state == .landed || r.state == .settled)) = true ↔ AnswersSegment x g r := by
  simp [AnswersSegment, and_assoc]

theorem segmentUnclaimed_of_answers {x : Region} {g : SegmentFrame} {r : Record} {s : State} (found : s.table.find g.key = some r) (answers : AnswersSegment x g r) :
    segmentUnclaimed x g s = sendCtl x (.ack g.key g.version r.chunks) s := by
  rw [segmentUnclaimed, found]
  exact if_pos ((answersSegment_iff x g r).mpr answers)

theorem segmentUnclaimed_of_none {x : Region} {g : SegmentFrame} {s : State} (none : ∀ r, s.table.find g.key = some r → ¬ AnswersSegment x g r) :
    segmentUnclaimed x g s = s := by
  rw [segmentUnclaimed]
  cases found : s.table.find g.key with
  | none => rfl
  | some r => exact if_neg fun acts => none r found ((answersSegment_iff x g r).mp acts)

section
variable {c : CtxNo} {i : InCtx} {g : SegmentFrame} {computed : BitVec 32} {s : State}

theorem segmentTests_of_bad (bad : ¬ (segmentShapeOk i g = true ∧ computed = g.check)) : segmentTests c i g computed s = s := by
  rw [segmentTests]
  by_cases shape : segmentShapeOk i g = true
  · rw [if_neg (by rw [shape]; decide), if_pos fun checked => bad ⟨shape, checked⟩]
  · rw [if_pos (by rw [Bool.not_eq_true] at shape; rw [shape]; rfl)]

variable (shape : segmentShapeOk i g = true) (checked : computed = g.check)
include shape checked

theorem segmentTests_of_earlier (earlier : g.chunk.toNat < i.expected) : segmentTests c i g computed s = sendCtl i.source (.ack i.key i.version i.acked) s := by
  rw [segmentTests, if_neg (by rw [shape]; decide), if_neg (not_not_intro checked), if_pos earlier]
  rfl

theorem segmentTests_of_later (later : i.expected < g.chunk.toNat) : segmentTests c i g computed s = s := by
  rw [segmentTests, if_neg (by rw [shape]; decide), if_neg (not_not_intro checked), if_neg (by omega), if_pos later]

theorem segmentTests_of_taken {j : Fin 32} (turn : g.chunk.toNat = i.expected) (at_ : j.val = g.seg.toNat)
    (no : (vget i.received j).isSome = true ∨ 64 ≤ s.inbound.fifo.length) : segmentTests c i g computed s = s := by
  have less : g.seg.toNat < 32 := at_ ▸ j.isLt
  have same : (⟨g.seg.toNat, less⟩ : Fin 32) = j := Fin.ext at_.symm
  rw [segmentTests, if_neg (by rw [shape]; decide), if_neg (not_not_intro checked), if_neg (by omega), if_neg (by omega), dif_pos less, same]
  by_cases held : (vget i.received j).isSome = true
  · rw [if_pos held]
  · rw [if_neg held, if_pos (show Config.fifoPlaces ≤ _ from no.resolve_left held)]

theorem segmentTests_of_turn {j : Fin 32} (turn : g.chunk.toNat = i.expected) (at_ : j.val = g.seg.toNat)
    (open_ : vget i.received j = none) (room : s.inbound.fifo.length < 64) : segmentTests c i g computed s = chunkComplete c (stage c i g j s) := by
  have less : g.seg.toNat < 32 := at_ ▸ j.isLt
  have same : (⟨g.seg.toNat, less⟩ : Fin 32) = j := Fin.ext at_.symm
  rw [segmentTests, if_neg (by rw [shape]; decide), if_neg (not_not_intro checked), if_neg (by omega), if_neg (by omega), dif_pos less, same,
    if_neg (by rw [open_]; decide), if_neg (show ¬ Config.fifoPlaces ≤ _ from Nat.not_le.mpr room), segmentTaken_eq shape]

end

/-- Settles O50: by the tests a segment meets in their order. -/
theorem segmentsAreTestedAndStaged : Obligations.SegmentsAreTestedAndStaged := by
  unfold Obligations.SegmentsAreTestedAndStaged
  refine ⟨fun x g s admits due => ?_, fun x g c i s admits quiet claimed bound => ?_, fun x g s admits unclaimed => ⟨fun r quiet found answers => ?_, fun none => ?_⟩⟩
  · obtain ⟨kept, inbound, frames, wan⟩ := sendHold_effect x s
    exact ⟨_, kept, frames.frameSent, wan, sendHold_not_due x s, inbound, exec_segment_of_due admits due⟩
  · have receiving := receiving_of_receivingFor claimed bound
    have ran : ∀ {t}, segmentTests c i g (SegmentFrame.computed g x.val s.ownIndex) s = t → exec (.segment x g) s = .next t := fun tests => by
      rw [exec_segment admits, segmentFrame_of_some _ quiet claimed bound, tests]
    refine ⟨fun bad => ?_, fun shape checked earlier => ?_, fun shape checked later => ?_, fun j shape checked turn at_ => ⟨fun no => ?_, fun open_ room => ?_⟩⟩
    · exact ran (segmentTests_of_bad fun both => bad ⟨(segmentShapeOk_iff i g).mp both.1, both.2⟩)
    · exact ⟨_, ran (segmentTests_of_earlier ((segmentShapeOk_iff i g).mpr shape) checked earlier), keepsAllBut_iff.mpr (by simp), sendCtl_frameSent ..⟩
    · exact ran (segmentTests_of_later ((segmentShapeOk_iff i g).mpr shape) checked later)
    · exact ran (segmentTests_of_taken ((segmentShapeOk_iff i g).mpr shape) checked turn at_ no)
    · have step := segmentTests_of_turn (c := c) ((segmentShapeOk_iff i g).mpr shape) checked turn at_ open_ room
      obtain ⟨kept, others, taken, staged, -, -, still⟩ := stage_effect g j bound
      have complete := complete_iff (i.withSegment g j s)
      refine ⟨fun part => ?_, fun p whole good low high written stops => ?_, fun whole bad => ?_⟩
      · rw [chunkComplete_of_incomplete taken (by rw [← Bool.not_eq_true, complete]; rw [turn] at part; exact part)] at step
        exact ⟨_, ran step, kept, others, taken, staged, still⟩
      · rw [chunkComplete_of_good taken (complete.mpr (by rw [turn] at whole; exact whole)) good] at step
        have inside : i.expected < i.chunks := turn ▸ shape.1
        obtain ⟨keptT, othersT, stagedT, movedT, stillT, ackT, queuedT⟩ := chunkTaken_effect (j := j) bound receiving turn inside low high written stops
        exact ⟨_, ran step, keptT, othersT, stagedT, movedT, stillT, ackT, queuedT⟩
      · rw [chunkComplete_of_bad taken (complete.mpr (by rw [turn] at whole; exact whole)) bad] at step
        exact ⟨_, ran step, chunkDiscarded_effect bound turn⟩
  · refine ⟨_, ?_, keepsAllBut_iff.mpr (by simp), sendCtl_frameSent x (.ack g.key g.version r.chunks) s⟩
    rw [exec_segment admits, segmentFrame_of_none _ quiet unclaimed, segmentUnclaimed_of_answers found answers]
  · refine ⟨fun quiet => ?_, fun due => ?_⟩
    · rw [exec_segment admits, segmentFrame_of_none _ quiet unclaimed, segmentUnclaimed_of_none none]
    · obtain ⟨kept, inbound, frames, -⟩ := sendHold_effect x s
      refine ⟨_, ?_, kept, frames.frameSent, inbound⟩
      have unclaimedH := (receivingFor_congr (kept .contexts (by decide)) x g.key g.version).trans unclaimed
      have noneH : ∀ r, (sendHold x s).table.find g.key = some r → ¬ AnswersSegment x g r := by
        rw [show (sendHold x s).table = s.table from kept .table (by decide)]
        exact none
      rw [exec_segment_of_due admits due, exec_segment ((sendHold_admits x x s).trans admits), segmentFrame_of_none _ (sendHold_not_due x s) unclaimedH,
        segmentUnclaimed_of_none noneH]

end Sys2Proof.Machine
end

section
/-! PROOFS. Requests in flight, their completions, and the turns of a load (R29, R38, R50). -/

namespace Sys2Proof.Machine

theorem reqKind_code (p : Pub) : p.reqKind.code = BitVec.ofNat 8 p.code := by
  unfold Pub.reqKind Pub.code
  cases p.kind with
  | content => rfl
  | tombstone => rfl

/-- R58, R185: a request in flight completes. -/
theorem answerPub_completes (p : Pub) (status : Status) (body : CompBody) (s : State) :
    KeepsAllBut [.backlog] s (answerPub p status body s) ∧ Completed p.ring p.tag p.code status body s (answerPub p status body s) := by
  refine ⟨keepsAllBut_iff.mpr (by simp [answerPub, answer]), ?_⟩
  rw [answerPub, answer, reqKind_code]
  rfl

/-- The Backlog with completions of requests in flight at its tail. -/
def Backlog.completing (b : Backlog) (done : List EntryBody) : Backlog :=
  { b with entries := b.entries ++ waitingEntries done, reservations := b.reservations - done.length }

theorem completing_nil (b : Backlog) : b.completing [] = b := by simp [Backlog.completing, waitingEntries]

theorem completing_append (b : Backlog) (done more : List EntryBody) : (b.completing done).completing more = b.completing (done ++ more) := by
  simp [Backlog.completing, waitingEntries, Nat.sub_sub]

theorem answerPub_backlog (p : Pub) (status : Status) (body : CompBody) (s : State) :
    (answerPub p status body s).backlog = s.backlog.completing [p.completion status body] := (answerPub_completes p status body s).2

theorem modPub_pubs (id : Nat) (f : Pub → Pub) (s : State) : (modPub id f s).reqs.pubs = s.reqs.pubs.map fun p => if p.id = id then f p else p :=
  List.map_congr_left fun p _ => by
    by_cases same : p.id = id
    · rw [if_pos same, if_pos (beq_iff_eq.mpr same)]
    · rw [if_neg same, if_neg (mt beq_iff_eq.mp same)]

/-! ## A request with its placement (R29, R50) -/

theorem placementCheck_refuses {p : Pub} {pl : Placement} {load : Option Nat} {status : Status} {body : CompBody} (stage : p.stage = .placed pl load)
    (refused : p.refusal = some (status, body)) (s : State) : placementCheck p pl s = answerPub p status body (dropPub p.id s) := by
  rw [Pub.refusal, stage] at refused
  rw [placementCheck]
  by_cases readOnly : pl.readOnly = true
  · rw [if_pos readOnly]
    cases (if_pos readOnly).symm.trans refused
    rfl
  · have large := (if_neg readOnly).symm.trans refused
    rw [if_neg readOnly]
    by_cases tooLarge : pl.maxSize.toNat < p.size
    · rw [if_pos tooLarge]
      cases (if_pos tooLarge).symm.trans large
      rfl
    · cases (if_neg tooLarge).symm.trans large

theorem placementCheck_passes {p : Pub} {pl : Placement} {load : Option Nat} (stage : p.stage = .placed pl load) (passed : p.refusal = none) (s : State) :
    placementCheck p pl s = modPub p.id (fun p => { p with stage := .ready pl }) s := by
  rw [Pub.refusal, stage] at passed
  rw [placementCheck]
  by_cases readOnly : pl.readOnly = true
  · cases (if_pos readOnly).symm.trans passed
  · have large := (if_neg readOnly).symm.trans passed
    rw [if_neg readOnly]
    by_cases tooLarge : pl.maxSize.toNat < p.size
    · cases (if_pos tooLarge).symm.trans large
    · rw [if_neg tooLarge]

/-! ## The turns of a load (R38) -/

/-- The request in flight once those of `turn` have had theirs. -/
def afterTurns (turn : List Pub) (w : Pub) : Option Pub :=
  (turn.find? fun v => v.id == w.id).elim (some w) fun v => if v.refusal.isSome = true then none else some v.turned

/-- The completions of the requests a turn refuses. -/
def refusals (turn : List Pub) : List EntryBody := turn.filterMap fun p => p.refusal.map fun x => p.completion x.1 x.2

theorem refusals_append (turn more : List Pub) : refusals (turn ++ more) = refusals turn ++ refusals more := List.filterMap_append

theorem handedOn_iff {first last : List EntryBody} {turn pubs : List Pub} {s t : State} : HandedOn first turn last pubs s t ↔
    t.backlog = { s.backlog with entries := s.backlog.entries ++ waitingEntries (first ++ refusals turn ++ last),
                                 reservations := s.backlog.reservations - (first ++ refusals turn).length } ∧
      t.reqs.pubs = pubs.filterMap (afterTurns turn) := by
  have same : afterTurns turn = fun w => match turn.find? fun v => v.id == w.id with
      | none => some w
      | some v => if v.refusal.isSome = true then none else some v.turned := by
    funext w
    rw [afterTurns]
    cases turn.find? fun v => v.id == w.id <;> rfl
  rw [same]
  exact Iff.rfl

theorem eq_of_id {pubs : List Pub} (single : (pubs.map (·.id)).Nodup) {v w : Pub} (hv : v ∈ pubs) (hw : w ∈ pubs) (same : v.id = w.id) : v = w :=
  List.inj_on_of_nodup_map single hv hw same

theorem turned_id (p : Pub) : p.turned.id = p.id := by
  unfold Pub.turned
  cases p.stage <;> rfl

theorem afterTurns_of_none {turn : List Pub} {w : Pub} (none : ∀ v ∈ turn, v.id ≠ w.id) : afterTurns turn w = some w := by
  rw [afterTurns, List.find?_eq_none.mpr fun v mem => by rw [beq_iff_eq]; exact none v mem]
  rfl

theorem afterTurns_cons_self {p : Pub} {turn : List Pub} {w : Pub} (same : p.id = w.id) :
    afterTurns (p :: turn) w = if p.refusal.isSome = true then none else some p.turned := by
  rw [afterTurns, List.find?_cons_of_pos (p := fun v : Pub => v.id == w.id) (show (p.id == w.id) = true from beq_iff_eq.mpr same)]
  rfl

theorem afterTurns_cons_of_ne {p : Pub} {turn : List Pub} {w : Pub} (other : p.id ≠ w.id) : afterTurns (p :: turn) w = afterTurns turn w := by
  rw [afterTurns, afterTurns, List.find?_cons_of_neg (p := fun v : Pub => v.id == w.id) (show ¬ (p.id == w.id) = true from mt beq_iff_eq.mp other)]

/-- The turns of a load, one after the other. -/
theorem filterMap_afterTurns_cons {p : Pub} {turn pubs : List Pub} (other : ∀ v ∈ turn, v.id ≠ p.id) :
    (pubs.filterMap (afterTurns [p])).filterMap (afterTurns turn) = pubs.filterMap (afterTurns (p :: turn)) := by
  rw [List.filterMap_filterMap]
  refine List.filterMap_congr fun w _ => ?_
  by_cases same : p.id = w.id
  · rw [afterTurns_cons_self same, afterTurns_cons_self same]
    by_cases refused : p.refusal.isSome = true
    · rw [if_pos refused]
      rfl
    · rw [if_neg refused]
      exact afterTurns_of_none fun v mem => by rw [turned_id]; exact other v mem
  · rw [afterTurns_cons_of_ne same, afterTurns_cons_of_ne same, afterTurns_of_none (turn := []) fun v mem => absurd mem List.not_mem_nil]
    rfl

theorem afterTurns_id {turn : List Pub} {w u : Pub} (h : afterTurns turn w = some u) : u.id = w.id := by
  induction turn with
  | nil =>
    cases h
    rfl
  | cons p rest ih =>
    by_cases same : p.id = w.id
    · rw [afterTurns_cons_self same] at h
      by_cases refused : p.refusal.isSome = true
      · cases (if_pos refused).symm.trans h
      · cases (if_neg refused).symm.trans h
        exact (turned_id p).trans same
    · exact ih (by rwa [afterTurns_cons_of_ne same] at h)

theorem afterTurns_ids (turn pubs : List Pub) : ((pubs.filterMap (afterTurns turn)).map (·.id)).Sublist (pubs.map (·.id)) := by
  induction pubs with
  | nil => exact List.Sublist.slnil
  | cons w rest ih =>
    rw [List.filterMap_cons]
    cases after : afterTurns turn w with
    | none => exact ih.cons _
    | some u =>
      rw [List.map_cons, List.map_cons, afterTurns_id after]
      exact ih.cons_cons _

theorem afterTurns_nil (w : Pub) : afterTurns [] w = some w := rfl

theorem placementCheck_turn {p : Pub} {pl : Placement} {load : Option Nat} {s : State} (single : (s.reqs.pubs.map (·.id)).Nodup) (mem : p ∈ s.reqs.pubs)
    (stage : p.stage = .placed pl load) : let t := placementCheck p pl s
    KeepsAllBut [.backlog, .requests] s t ∧ t.reqs = { s.reqs with pubs := s.reqs.pubs.filterMap (afterTurns [p]) } ∧
      t.backlog = s.backlog.completing (refusals [p]) := by
  intro t
  cases refused : p.refusal with
  | none =>
    have eq : t = _ := placementCheck_passes stage refused s
    have pubs : (modPub p.id (fun p => { p with stage := .ready pl }) s).reqs.pubs = s.reqs.pubs.filterMap (afterTurns [p]) := by
      rw [modPub_pubs, ← List.filterMap_eq_map]
      refine List.filterMap_congr fun w hw => ?_
      by_cases same : p.id = w.id
      · have here : w = p := eq_of_id single hw mem same.symm
        subst here
        rw [afterTurns_cons_self rfl, refused, if_neg (by decide), Pub.turned, stage]
        exact congrArg some (if_pos rfl)
      · rw [afterTurns_cons_of_ne same]
        exact congrArg some (if_neg (Ne.symm same))
    rw [eq, ← pubs, show refusals [p] = [] by simp [refusals, refused], completing_nil]
    exact ⟨keepsAllBut_iff.mpr (by simp [modPub]), rfl, rfl⟩
  | some outcome =>
    have eq : t = _ := placementCheck_refuses stage refused s
    have pubs : (dropPub p.id s).reqs.pubs = s.reqs.pubs.filterMap (afterTurns [p]) := by
      show (s.reqs.pubs.filter fun u => u.id != p.id) = _
      rw [← List.filterMap_eq_filter]
      refine List.filterMap_congr fun w hw => ?_
      by_cases same : p.id = w.id
      · rw [afterTurns_cons_self same, refused, if_pos Option.isSome_some]
        simp [Option.guard, same]
      · rw [afterTurns_cons_of_ne same, afterTurns_nil]
        simp [Option.guard, Ne.symm same]
    obtain ⟨kept, -⟩ := answerPub_completes p outcome.1 outcome.2 (dropPub p.id s)
    rw [eq, ← pubs, show refusals [p] = [p.completion outcome.1 outcome.2] by simp [refusals, refused], answerPub_backlog]
    exact ⟨(keepsAllBut_iff.mpr (by simp [dropPub]) : KeepsAllBut [.requests] s (dropPub p.id s)).trans kept (by decide) (by decide),
      kept .requests (by decide), rfl⟩

theorem waitsIn_iff (load : Nat) (p : Pub) : p.waitsIn load = true ↔ ∃ pl, p.stage = .placed pl (some load) := by
  unfold Pub.waitsIn
  cases p.stage with
  | placed pl l =>
    cases l with
    | none => simp
    | some l => simp
  | parked => simp
  | doomed denied => simp
  | ready pl => simp

/-- Whoever has had its turn waits no longer; the others wait on. -/
theorem filter_afterTurns {p : Pub} {pl : Placement} {l : Option Nat} (stage : p.stage = .placed pl l) (load : Nat) (pubs : List Pub) :
    (pubs.filterMap (afterTurns [p])).filter (Pub.waitsIn load) = (pubs.filter (Pub.waitsIn load)).filter fun w => w.id != p.id := by
  induction pubs with
  | nil => rfl
  | cons w rest ih =>
    rw [List.filterMap_cons]
    by_cases same : p.id = w.id
    · rw [afterTurns_cons_self same]
      have gone : ((w :: rest).filter (Pub.waitsIn load)).filter (fun w => w.id != p.id) = (rest.filter (Pub.waitsIn load)).filter fun w => w.id != p.id := by
        rw [List.filter_cons]
        split
        · rw [List.filter_cons_of_neg (by simp [same])]
        · rfl
      have idle : p.turned.waitsIn load = false := by rw [Pub.turned, stage]; rfl
      rw [gone, ← ih]
      by_cases refused : p.refusal.isSome = true
      · rw [if_pos refused]
      · rw [if_neg refused]
        exact List.filter_cons_of_neg (by rw [idle]; exact Bool.false_ne_true)
    · rw [afterTurns_cons_of_ne same, afterTurns_nil]
      dsimp only
      rw [List.filter_cons, List.filter_cons, ih]
      split
      · rw [List.filter_cons_of_pos (by simp [Ne.symm same])]
      · rfl

theorem turnsOf_of_none {load : Nat} {pubs : List Pub} (none : pubs.find? (Pub.waitsIn load) = none) : turnsOf load pubs = [] := by
  rw [turnsOf, List.filter_eq_nil_iff.mpr fun w mem => List.find?_eq_none.mp none w mem]
  rfl

theorem filter_of_find {α : Type} {p : α → Bool} {l : List α} {a : α} (found : l.find? p = some a) : ∃ rest, l.filter p = a :: rest := by
  have head : (l.filter p).head? = some a := by rw [List.head?_filter, found]
  cases split : l.filter p with
  | nil => rw [split] at head; cases head
  | cons b rest =>
    rw [split] at head
    cases head
    exact ⟨rest, rfl⟩

theorem turnsOf_of_reading {load : Nat} {pubs : List Pub} {p : Pub} (found : pubs.find? (Pub.waitsIn load) = some p) (reading : p.extents = .reading) :
    turnsOf load pubs = [] := by
  obtain ⟨rest, split⟩ := filter_of_find found
  rw [turnsOf, split, List.takeWhile_cons_of_neg (by simp [reading])]

theorem turnsOf_of_good {load : Nat} {pubs : List Pub} {p : Pub} {pl : Placement} {xs : List Extent} (single : (pubs.map (·.id)).Nodup)
    (found : pubs.find? (Pub.waitsIn load) = some p) (stage : p.stage = .placed pl (some load)) (good : p.extents = .good xs) :
    turnsOf load pubs = p :: turnsOf load (pubs.filterMap (afterTurns [p])) ∧ ∀ v ∈ turnsOf load (pubs.filterMap (afterTurns [p])), v.id ≠ p.id := by
  obtain ⟨rest, split⟩ := filter_of_find found
  have sub : ((p :: rest).map (·.id)).Nodup := split ▸ (List.filter_sublist.map _).nodup single
  have others : ∀ v ∈ rest, v.id ≠ p.id := fun v mem same => (List.nodup_cons.mp sub).1 (List.mem_map.mpr ⟨v, mem, same⟩)
  have later : turnsOf load (pubs.filterMap (afterTurns [p])) = rest.takeWhile fun p => p.extents != .reading := by
    rw [turnsOf, filter_afterTurns stage, split, List.filter_cons_of_neg (by simp),
      List.filter_eq_self.mpr fun v mem => bne_iff_ne.mpr (others v mem)]
  rw [later]
  refine ⟨?_, fun v mem => others v (List.takeWhile_subset _ mem)⟩
  rw [turnsOf, split, List.takeWhile_cons_of_pos (by simp [good])]

theorem advanceLoad_of_none {load : Nat} {s : State} (none : s.reqs.pubs.find? (Pub.waitsIn load) = none) (n : Nat) : advanceLoad load n s = s := by
  cases n with
  | zero => rfl
  | succ n => rw [advanceLoad, none]

theorem advanceLoad_of_reading {load : Nat} {s : State} {p : Pub} (found : s.reqs.pubs.find? (Pub.waitsIn load) = some p) (reading : p.extents = .reading) (n : Nat) :
    advanceLoad load n s = s := by
  cases n with
  | zero => rfl
  | succ n =>
    rw [advanceLoad, found]
    dsimp only
    rw [reading]

theorem advanceLoad_of_good {load : Nat} {s : State} {p : Pub} {pl : Placement} {xs : List Extent} (found : s.reqs.pubs.find? (Pub.waitsIn load) = some p)
    (good : p.extents = .good xs) (stage : p.stage = .placed pl (some load)) (n : Nat) :
    advanceLoad load (n + 1) s = advanceLoad load n (placementCheck p pl s) := by
  rw [advanceLoad, found]
  dsimp only
  rw [good, stage]

/-- R38: what the requests in flight, their table and the Backlog are once those of `turn` have had theirs. -/
def TurnsTaken (turn : List Pub) (s t : State) : Prop :=
  KeepsAllBut [.backlog, .requests] s t ∧ t.reqs = { s.reqs with pubs := s.reqs.pubs.filterMap (afterTurns turn) } ∧ t.backlog = s.backlog.completing (refusals turn)

theorem TurnsTaken.nil (s : State) : TurnsTaken [] s s := by
  refine ⟨.refl _ s, ?_, (completing_nil _).symm⟩
  rw [show s.reqs.pubs.filterMap (afterTurns []) = s.reqs.pubs from List.filterMap_some]

/-- R38: the requests of a load whose turn has come have it. -/
theorem advanceLoad_effect (load n : Nat) {s : State} (single : (s.reqs.pubs.map (·.id)).Nodup) (enough : (turnsOf load s.reqs.pubs).length ≤ n) :
    TurnsTaken (turnsOf load s.reqs.pubs) s (advanceLoad load n s) := by
  induction n generalizing s with
  | zero =>
    rw [List.length_eq_zero_iff.mp (Nat.le_zero.mp enough)]
    exact .nil s
  | succ n ih =>
    cases found : s.reqs.pubs.find? (Pub.waitsIn load) with
    | none =>
      rw [turnsOf_of_none found, advanceLoad_of_none found]
      exact .nil s
    | some p =>
      cases extents : p.extents with
      | reading =>
        rw [turnsOf_of_reading found extents, advanceLoad_of_reading found extents]
        exact .nil s
      | good xs =>
        obtain ⟨pl, stage⟩ := (waitsIn_iff load p).mp (List.find?_some found)
        obtain ⟨kept, reqs, backlog⟩ := placementCheck_turn single (List.mem_of_find?_eq_some found) stage
        obtain ⟨split, others⟩ := turnsOf_of_good single found stage extents
        have pubs : (placementCheck p pl s).reqs.pubs = s.reqs.pubs.filterMap (afterTurns [p]) := by rw [reqs]
        have singleT : ((placementCheck p pl s).reqs.pubs.map (·.id)).Nodup := by
          rw [pubs]
          exact (afterTurns_ids _ _).nodup single
        rw [split, List.length_cons] at enough
        obtain ⟨keptT, reqsT, backlogT⟩ := ih singleT (by rw [pubs]; omega)
        rw [advanceLoad_of_good found extents stage, split]
        refine ⟨kept.trans keptT (by decide) (by decide), ?_, ?_⟩
        · rw [reqsT, pubs, filterMap_afterTurns_cons others, reqs]
        · rw [backlogT, pubs, backlog, completing_append, ← refusals_append]
          rfl

theorem turnsOf_length (load : Nat) (pubs : List Pub) : (turnsOf load pubs).length ≤ pubs.length :=
  (List.takeWhile_sublist _).length_le.trans (List.length_filter_le _ _)

theorem advance_effect (load : Nat) {s : State} (single : (s.reqs.pubs.map (·.id)).Nodup) : TurnsTaken (turnsOf load s.reqs.pubs) s (advance load s) :=
  advanceLoad_effect load _ single (turnsOf_length load _)

theorem TurnsTaken.handedOn {turn pubs : List Pub} {first : List EntryBody} {s u t : State} (h : TurnsTaken turn u t) (reqs : u.reqs.pubs = pubs)
    (backlog : u.backlog = s.backlog.completing first) : HandedOn first turn [] pubs s t := by
  obtain ⟨-, pubsT, backlogT⟩ := h
  refine handedOn_iff.mpr ⟨?_, by rw [pubsT, reqs]⟩
  rw [backlogT, backlog, completing_append, List.append_nil]
  rfl

/-! ## A load's requests, whatever their numbers -/

/-- Entries joined the Backlog's tail, and nothing joined the requests in flight. -/
def OnlyLeaves (s t : State) : Prop :=
  KeepsAllBut [.backlog, .requests] s t ∧ (∃ more, t.backlog.entries = s.backlog.entries ++ more) ∧ ∀ u ∈ t.reqs.pubs, ∃ w ∈ s.reqs.pubs, w.id = u.id

theorem OnlyLeaves.refl (s : State) : OnlyLeaves s s := ⟨.refl _ s, ⟨[], (List.append_nil _).symm⟩, fun u mem => ⟨u, mem, rfl⟩⟩

theorem OnlyLeaves.trans {s t u : State} (h : OnlyLeaves s t) (g : OnlyLeaves t u) : OnlyLeaves s u := by
  obtain ⟨kept, ⟨more, entries⟩, pubs⟩ := h
  obtain ⟨keptG, ⟨moreG, entriesG⟩, pubsG⟩ := g
  refine ⟨kept.trans keptG (by decide) (by decide), ⟨more ++ moreG, by rw [entriesG, entries, List.append_assoc]⟩, fun v mem => ?_⟩
  obtain ⟨w, memW, same⟩ := pubsG v mem
  obtain ⟨x, memX, sameX⟩ := pubs w memW
  exact ⟨x, memX, sameX.trans same⟩

theorem dropPub_leaves (id : Nat) (s : State) : OnlyLeaves s (dropPub id s) :=
  ⟨keepsAllBut_iff.mpr (by simp [dropPub]), ⟨[], (List.append_nil _).symm⟩, fun u mem => ⟨u, List.mem_of_mem_filter mem, rfl⟩⟩

theorem answerPub_leaves (p : Pub) (status : Status) (body : CompBody) (s : State) : OnlyLeaves s (answerPub p status body s) := by
  obtain ⟨kept, -⟩ := answerPub_completes p status body s
  refine ⟨kept.weaken (by decide), ⟨waitingEntries [p.completion status body], by rw [answerPub_backlog]; rfl⟩, fun u mem => ⟨u, ?_, rfl⟩⟩
  rwa [show (answerPub p status body s).reqs = s.reqs from kept .requests (by decide)] at mem

theorem placementCheck_leaves {p : Pub} {pl : Placement} {load : Option Nat} (stage : p.stage = .placed pl load) (s : State) :
    OnlyLeaves s (placementCheck p pl s) := by
  cases refused : p.refusal with
  | none =>
    rw [placementCheck_passes stage refused]
    refine ⟨keepsAllBut_iff.mpr (by simp [modPub]), ⟨[], (List.append_nil _).symm⟩, fun u mem => ?_⟩
    rw [modPub_pubs] at mem
    obtain ⟨w, memW, rfl⟩ := List.mem_map.mp mem
    refine ⟨w, memW, ?_⟩
    split
    · rfl
    · rfl
  | some outcome =>
    rw [placementCheck_refuses stage refused]
    exact (dropPub_leaves p.id s).trans (answerPub_leaves ..)

theorem advanceLoad_leaves (load n : Nat) (s : State) : OnlyLeaves s (advanceLoad load n s) := by
  induction n generalizing s with
  | zero => exact .refl s
  | succ n ih =>
    cases found : s.reqs.pubs.find? (Pub.waitsIn load) with
    | none =>
      rw [advanceLoad_of_none found]
      exact .refl s
    | some p =>
      cases extents : p.extents with
      | reading =>
        rw [advanceLoad_of_reading found extents]
        exact .refl s
      | good xs =>
        obtain ⟨pl, stage⟩ := (waitsIn_iff load p).mp (List.find?_some found)
        rw [advanceLoad_of_good found extents stage]
        exact (placementCheck_leaves stage s).trans (ih _)

theorem advanceAfter_leaves (p : Pub) (s : State) : OnlyLeaves s (advanceAfter p s) := by
  unfold advanceAfter
  split
  · exact advanceLoad_leaves ..
  · exact .refl s

theorem advanceAfter_of_placed {p : Pub} {pl : Placement} {load : Nat} (stage : p.stage = .placed pl (some load)) (s : State) : advanceAfter p s = advance load s := by
  rw [advanceAfter, stage]

end Sys2Proof.Machine
end

section
/-! PROOFS. O31: the end of an extent table's read. -/

namespace Sys2Proof.Machine

section
variable {id : Nat} {op : Op} {s : State} (running : s.running = true)
include running

theorem exec_tableDone_parked (found : s.hme.find (.extents id) Op.succeeded = some op) {n : Fin 4} {p : Parked} (held : s.bmc.heldAt id = some (n, p)) :
    exec (.extentTableReadDone id) s = .next (parkedTableRead n p (readExtents op) (dropOp op.id s)) := by
  show execExtentTableReadDone id s = _
  rw [execExtentTableReadDone, found]
  dsimp only
  rw [if_pos running, held]

theorem exec_tableDone_flying (found : s.hme.find (.extents id) Op.succeeded = some op) (none : s.bmc.heldAt id = none) {p : Pub}
    (flying : (s.reqs.pubs.find? fun p => p.id == id) = some p) :
    exec (.extentTableReadDone id) s = .next (tableRead p (readExtents op) (dropOp op.id s)) := by
  show execExtentTableReadDone id s = _
  rw [execExtentTableReadDone, found]
  dsimp only
  rw [if_pos running, none]
  dsimp only
  rw [flying]

theorem exec_tableFail_parked (found : s.hme.find (.extents id) Op.failed = some op) {n : Fin 4} {p : Parked} (held : s.bmc.heldAt id = some (n, p)) :
    exec (.extentTableReadFail id) s = .next (answerPub p.pub .hostMemoryError (.memory 0 op.failedAt) (freePlace n (dropOp op.id s))) := by
  show execExtentTableReadFail id s = _
  rw [execExtentTableReadFail, found]
  dsimp only
  rw [if_pos running, held]

theorem exec_tableFail_flying (found : s.hme.find (.extents id) Op.failed = some op) (none : s.bmc.heldAt id = none) {p : Pub}
    (flying : (s.reqs.pubs.find? fun p => p.id == id) = some p) : exec (.extentTableReadFail id) s =
      .next (advanceAfter p (answerPub p .hostMemoryError (.memory 0 op.failedAt) (dropPub p.id (dropOp op.id s)))) := by
  show execExtentTableReadFail id s = _
  rw [execExtentTableReadFail, found]
  dsimp only
  rw [if_pos running, none]
  dsimp only
  rw [flying]

end

theorem id_of_find {pubs : List Pub} {id : Nat} {p : Pub} (found : (pubs.find? fun p => p.id == id) = some p) : p.id = id := by
  have named := List.find?_some found
  exact beq_iff_eq.mp named

theorem dropOp_keepsAllBut (id : Nat) (s : State) : KeepsAllBut [.engine] s (dropOp id s) := keepsAllBut_iff.mpr (by simp)

/-- R31, R58: a parked request completes and its place is free. -/
theorem parkedAnswer_effect {n : Fin 4} {p : Parked} {s : State} (id : Nat) (held : vget s.bmc.hold n = some p) (status : Status) (body : CompBody) :
    let t := answerPub p.pub status body (freePlace n (dropOp id s))
    KeepsAllBut [.backlog, .cache, .engine] s t ∧ t.hme = s.hme.without id ∧ PlaceFreed n p s t ∧ Completed p.pub.ring p.pub.tag p.pub.code status body s t := by
  intro t
  let u := freePlace n (dropOp id s)
  have freed : PlaceFreed n p s u := freePlace_frees (s := dropOp id s) held
  have keptU : KeepsAllBut [.cache, .engine] s u := (dropOp_keepsAllBut id s).trans (ys := [.cache]) (keepsAllBut_iff.mpr (by simp [u])) (by decide) (by decide)
  obtain ⟨kept, completed⟩ := answerPub_completes p.pub status body u
  have hmeU : u.hme = s.hme.without id := (freePlace_frame n (dropOp id s)).2.2.2.2.2.2.2.2.2.2.2.2.2.1
  refine ⟨keptU.trans kept (by decide) (by decide), (kept .engine (by decide) : t.hme = u.hme).trans hmeU, ?_, ?_⟩
  · unfold PlaceFreed at freed ⊢
    rwa [show t.bmc = u.bmc from kept .cache (by decide)]
  · unfold Completed at completed ⊢
    rwa [show u.backlog = s.backlog from keptU .backlog (by decide)] at completed

/-- R38, R58: a request completes and leaves its load's order. -/
theorem flyingAnswer_effect {p : Pub} {id : Nat} {s : State} (same : p.id = id) (opId : Nat) (status : Status) (body : CompBody) :
    let gone := s.reqs.pubs.filter fun u => u.id != id
    let t := advanceAfter p (answerPub p status body (dropPub p.id (dropOp opId s)))
    KeepsAllBut [.backlog, .requests, .engine] s t ∧ t.hme = s.hme.without opId ∧ CompletedFirst p.ring p.tag p.code status body s t ∧
      (∀ u ∈ t.reqs.pubs, u.id ≠ id) ∧
      ∀ pl load, p.stage = .placed pl (some load) → (gone.map (·.id)).Nodup → HandedOn [p.completion status body] (turnsOf load gone) [] gone s t := by
  subst same
  intro gone t
  let d := dropPub p.id (dropOp opId s)
  let u := answerPub p status body d
  obtain ⟨keptU, -⟩ := answerPub_completes p status body d
  have backlogU : u.backlog = s.backlog.completing [p.completion status body] := answerPub_backlog ..
  have reqsU : u.reqs = d.reqs := keptU .requests (by decide)
  have pubsU : u.reqs.pubs = gone := by rw [reqsU]; rfl
  have keptSU : KeepsAllBut [.backlog, .requests, .engine] s u :=
    (keepsAllBut_iff.mpr (by simp [d, dropPub]) : KeepsAllBut [.requests, .engine] s d).trans keptU (by decide) (by decide)
  obtain ⟨kept, ⟨more, entries⟩, leaves⟩ := advanceAfter_leaves p u
  refine ⟨keptSU.trans kept (by decide) (by decide), ?_, ⟨more, ?_⟩, fun w mem => ?_, fun pl load stage single => ?_⟩
  · exact (kept .engine (by decide) : t.hme = u.hme).trans (keptU .engine (by decide) : u.hme = d.hme)
  · rw [show t.backlog.entries = u.backlog.entries ++ more from entries, backlogU]
    rfl
  · obtain ⟨v, memV, same⟩ := leaves w mem
    rw [pubsU] at memV
    rw [← same]
    exact bne_iff_ne.mp (List.mem_filter.mp memV).2
  · have turns := advance_effect load (s := u) (by rw [pubsU]; exact single)
    have eq : t = advance load u := advanceAfter_of_placed stage u
    rw [eq]
    rw [pubsU] at turns
    exact turns.handedOn pubsU backlogU

theorem parkedTableRead_of_fails {n : Fin 4} {p : Parked} {xs : List Extent} {d : ExtentDetail} {i : Nat} (fails : TableFails xs p.pub.size d i) (s : State) :
    parkedTableRead n p xs s = answerPub p.pub .badExtents (.extents d i) (freePlace n s) := by
  rw [parkedTableRead, tableFault_of_fails fails]

theorem parkedTableRead_of_good {n : Fin 4} {p : Parked} {xs : List Extent} (good : TableGood xs p.pub.size) (s : State) :
    parkedTableRead n p xs s = s.withBmc { s.bmc with hold := vset s.bmc.hold n (some { p with pub := { p.pub with extents := .good xs } }) } := by
  rw [parkedTableRead, tableFault_of_good good]

theorem tableRead_of_fails {p : Pub} {xs : List Extent} {d : ExtentDetail} {i : Nat} (fails : TableFails xs p.size d i) (s : State) :
    tableRead p xs s = advanceAfter p (answerPub p .badExtents (.extents d i) (dropPub p.id s)) := by
  rw [tableRead, tableFault_of_fails fails]

theorem tableRead_of_good {p : Pub} {xs : List Extent} (good : TableGood xs p.size) (s : State) :
    tableRead p xs s = goOn { p with extents := .good xs } (modPub p.id (fun _ => { p with extents := .good xs }) s) := by
  rw [tableRead, tableFault_of_good good]

/-! ## A good table (R33, R38, R50) -/

/-- The state with the request's table read and good. -/
def tableKnown (p : Pub) (xs : List Extent) (opId : Nat) (s : State) : State := modPub p.id (fun _ => { p with extents := .good xs }) (dropOp opId s)

theorem tableKnown_effect (p : Pub) (xs : List Extent) (opId : Nat) (s : State) : let t := tableKnown p xs opId s
    KeepsAllBut [.requests, .engine] s t ∧ t.hme = s.hme.without opId ∧
      t.reqs.pubs = s.reqs.pubs.map fun w => if w.id = p.id then { p with extents := .good xs } else w :=
  ⟨keepsAllBut_iff.mpr (by simp [tableKnown, modPub]), rfl, modPub_pubs ..⟩

/-- R58: a request in flight leaves with its completion. -/
theorem knownAnswer_effect (p q : Pub) (xs : List Extent) (opId : Nat) (s : State) (same : q.id = p.id) (status : Status) (body : CompBody) :
    let t := answerPub q status body (dropPub q.id (tableKnown p xs opId s))
    KeepsAllBut [.backlog, .requests, .engine] s t ∧ t.hme = s.hme.without opId ∧ t.reqs.pubs = (s.reqs.pubs.filter fun u => u.id != p.id) ∧
      Completed q.ring q.tag q.code status body s t := by
  intro t
  let d := dropPub q.id (tableKnown p xs opId s)
  obtain ⟨keptK, hme, pubs⟩ := tableKnown_effect p xs opId s
  obtain ⟨kept, completed⟩ := answerPub_completes q status body d
  have keptD : KeepsAllBut [.requests, .engine] s d := keptK.trans (ys := [.requests]) (keepsAllBut_iff.mpr (by simp [d, dropPub])) (by decide) (by decide)
  refine ⟨keptD.trans kept (by decide) (by decide), (kept .engine (by decide) : t.hme = d.hme).trans hme, ?_, ?_⟩
  · rw [show t.reqs = d.reqs from kept .requests (by decide)]
    show (tableKnown p xs opId s).reqs.pubs.filter (fun u => u.id != q.id) = _
    rw [pubs, same]
    generalize s.reqs.pubs = l
    induction l with
    | nil => rfl
    | cons w rest ih =>
      rw [List.map_cons, List.filter_cons, List.filter_cons, ih]
      by_cases here : w.id = p.id
      · simp [here]
      · simp [here]
  · unfold Completed at completed ⊢
    rwa [show d.backlog = s.backlog from keptD .backlog (by decide)] at completed

theorem goOn_of_doomed {p : Pub} {denied : Bool} (stage : p.stage = .doomed denied) (s : State) :
    goOn p s = answerPub p (if denied then .noBucket else .missTimeout) .plain (dropPub p.id s) := by
  rw [goOn, stage]

theorem goOn_of_alone {p : Pub} {pl : Placement} (stage : p.stage = .placed pl none) (s : State) : goOn p s = placementCheck p pl s := by
  rw [goOn, stage]

theorem goOn_of_loaded {p : Pub} {pl : Placement} {load : Nat} (stage : p.stage = .placed pl (some load)) (s : State) : goOn p s = advance load s := by
  rw [goOn, stage]

/-- A request that goes before this one in its load stands before it still when its table is known. -/
theorem find_waitsIn_known {pubs : List Pub} {p q u : Pub} {load : Nat} (first : (pubs.find? fun w => w.id == p.id) = some p) (waits : p.waitsIn load = true)
    (before : pubs.find? (Pub.waitsIn load) = some u) (other : u.id ≠ p.id) :
    (pubs.map fun w => if w.id = p.id then q else w).find? (Pub.waitsIn load) = some u := by
  obtain ⟨waitsU, earlier, later, rfl, idle⟩ := List.find?_eq_some_iff_append.mp before
  have none : ∀ w ∈ earlier, w.id ≠ p.id := fun w mem same => by
    have named : (earlier.find? fun w => w.id == p.id).isSome = true := List.find?_isSome.mpr ⟨w, mem, beq_iff_eq.mpr same⟩
    obtain ⟨v, foundV⟩ := Option.isSome_iff_exists.mp named
    rw [List.find?_append, foundV, Option.some_or] at first
    cases first
    have still := idle p (List.mem_of_find?_eq_some foundV)
    rw [waits] at still
    cases still
  have unchanged : (earlier.map fun w => if w.id = p.id then q else w) = earlier :=
    (List.map_congr_left fun w mem => if_neg (none w mem)).trans (List.map_id' earlier)
  rw [List.map_append, List.map_cons, unchanged, if_neg other]
  exact List.find?_eq_some_iff_append.mpr ⟨waitsU, earlier, _, rfl, idle⟩

theorem refusal_of_readOnly {p : Pub} {pl : Placement} {load : Option Nat} (stage : p.stage = .placed pl load) (readOnly : pl.readOnly = true) :
    p.refusal = some (.readOnly, .plain) := by
  rw [Pub.refusal, stage]
  exact if_pos readOnly

theorem refusal_of_large {p : Pub} {pl : Placement} {load : Option Nat} (stage : p.stage = .placed pl load) (open_ : pl.readOnly = false)
    (large : pl.maxSize.toNat < p.size) : p.refusal = some (.tooLarge, .maxSize pl.maxSize.toNat) := by
  rw [Pub.refusal, stage]
  exact (if_neg (by rw [open_]; exact Bool.false_ne_true)).trans (if_pos large)

theorem refusal_of_fits {p : Pub} {pl : Placement} {load : Option Nat} (stage : p.stage = .placed pl load) (open_ : pl.readOnly = false)
    (fits : p.size ≤ pl.maxSize.toNat) : p.refusal = none := by
  rw [Pub.refusal, stage]
  exact (if_neg (by rw [open_]; exact Bool.false_ne_true)).trans (if_neg fits.not_gt)

/-- Settles O31: by where the request waits for its table. -/
theorem extentTableReadEnds : Obligations.ExtentTableReadEnds := by
  unfold Obligations.ExtentTableReadEnds
  intro id op s running xs
  have read : readExtents op = xs := readExtents_eq op
  refine ⟨fun found => ⟨fun n p held => ?_, fun p none flying => ?_⟩, fun kind addr found failure => ⟨fun n p held => ?_, fun p none flying => ?_⟩⟩
  · have ran := exec_tableDone_parked running found held
    obtain ⟨place, -⟩ := Bmc.heldAt_some held
    rw [read] at ran
    refine ⟨fun d i fails => ?_, fun good => ?_⟩
    · rw [parkedTableRead_of_fails fails] at ran
      exact ⟨_, ran, parkedAnswer_effect op.id place _ _⟩
    · rw [parkedTableRead_of_good good] at ran
      exact ⟨_, ran, keepsAllBut_iff.mpr (by simp), rfl, vget_vset_self .., fun m other => vget_vset_of_ne _ other _, rfl⟩
  · have ran := exec_tableDone_flying running found none flying
    have same : p.id = id := id_of_find flying
    rw [read] at ran
    refine ⟨fun d i fails => ?_, fun good => ?_⟩
    · rw [tableRead_of_fails fails] at ran
      exact ⟨_, ran, flyingAnswer_effect same op.id _ _⟩
    · let q : Pub := { p with extents := .good xs }
      have went : exec (.extentTableReadDone id) s = .next (goOn q (tableKnown p xs op.id s)) := by rw [ran, tableRead_of_good good]; rfl
      obtain ⟨kept, hme, pubs⟩ := tableKnown_effect p xs op.id s
      have answered := fun status body => knownAnswer_effect p q xs op.id s rfl status body
      subst same
      refine ⟨fun stage => ?_, fun stage => ?_, fun pl stage => ⟨fun readOnly => ?_, fun open_ large => ?_, fun open_ fits => ?_⟩,
        fun pl load u stage first other reading => ?_, fun pl load stage single => ?_⟩
      · rw [goOn_of_doomed (p := q) stage] at went
        exact ⟨_, went, answered .noBucket .plain⟩
      · rw [goOn_of_doomed (p := q) stage] at went
        exact ⟨_, went, answered .missTimeout .plain⟩
      · rw [goOn_of_alone (p := q) stage, placementCheck_refuses (p := q) stage (refusal_of_readOnly (p := q) stage readOnly)] at went
        exact ⟨_, went, answered ..⟩
      · rw [goOn_of_alone (p := q) stage, placementCheck_refuses (p := q) stage (refusal_of_large (p := q) stage open_ large)] at went
        exact ⟨_, went, answered ..⟩
      · rw [goOn_of_alone (p := q) stage, placementCheck_passes (p := q) stage (refusal_of_fits (p := q) stage open_ fits)] at went
        refine ⟨_, went, kept.trans (ys := [.requests]) (keepsAllBut_iff.mpr (by simp [modPub])) (by decide) (by decide), hme, ?_⟩
        rw [modPub_pubs, pubs, List.map_map]
        refine List.map_congr_left fun w _ => ?_
        show (if (if w.id = p.id then q else w).id = p.id then ({ (if w.id = p.id then q else w) with stage := .ready pl } : Pub)
          else if w.id = p.id then q else w) = _
        by_cases here : w.id = p.id
        · rw [if_pos here, if_pos rfl, if_pos here]
        · rw [if_neg here, if_neg here, if_neg here]
      · have still : advance load (tableKnown p xs op.id s) = tableKnown p xs op.id s :=
          advanceLoad_of_reading (by rw [pubs]; exact find_waitsIn_known flying ((waitsIn_iff load p).mpr ⟨pl, stage⟩) first other) reading _
        rw [goOn_of_loaded (p := q) stage, still] at went
        exact ⟨_, went, kept, hme, pubs⟩
      · have ids : ((tableKnown p xs op.id s).reqs.pubs.map (·.id)).Nodup := by
          rw [pubs, List.map_map]
          refine (congrArg List.Nodup (List.map_congr_left fun w _ => ?_)).mpr single
          show (if w.id = p.id then q else w).id = w.id
          by_cases here : w.id = p.id
          · rw [if_pos here, here]
          · rw [if_neg here]
        have turns := advance_effect load ids
        rw [goOn_of_loaded (p := q) stage] at went
        refine ⟨_, went, kept.trans turns.1 (by decide) (by decide), (turns.1 .engine (by decide) : _ = (tableKnown p xs op.id s).hme).trans hme, ?_⟩
        rw [pubs] at turns
        exact turns.handedOn pubs (completing_nil s.backlog).symm
  · have ran := exec_tableFail_parked running found held
    obtain ⟨place, -⟩ := Bmc.heldAt_some held
    rw [failedAt_of_failure failure] at ran
    exact ⟨_, ran, parkedAnswer_effect op.id place _ _⟩
  · have ran := exec_tableFail_flying running found none flying
    rw [failedAt_of_failure failure] at ran
    exact ⟨_, ran, flyingAnswer_effect (id_of_find flying) op.id _ _⟩

end Sys2Proof.Machine
end

section
/-! PROOFS. The places of the Miss Hold in park order (R30 to R39). -/

namespace Sys2Proof.Machine

/-! ## The places of a bucket key, in park order -/

/-- The place holds a request of the bucket key. -/
def HoldsKey (b : Bmc) (key : Byte × BitVec 32) (m : Fin 4) : Prop := ∃ p, vget b.hold m = some p ∧ p.bucket = key

theorem bucket_iff (p : Parked) (tenant : Byte) (bucket : BitVec 32) :
    p.bucket = (tenant, bucket) ↔ p.pub.key.tenant = tenant ∧ p.pub.key.bucket = bucket := Prod.ext_iff

theorem any_bucket_iff (b : Bmc) (tenant : Byte) (bucket : BitVec 32) (m : Fin 4) :
    ((vget b.hold m).any fun p => p.pub.key.tenant == tenant && p.pub.key.bucket == bucket) = true ↔ HoldsKey b (tenant, bucket) m := by
  unfold HoldsKey
  cases vget b.hold m with
  | none => simp
  | some p => simp [bucket_iff]

theorem Bmc.parkedOn_length (b : Bmc) (tenant : Byte) (bucket : BitVec 32) : (b.parkedOn (tenant, bucket)).length =
    ((List.finRange 4).filter fun m => (vget b.hold m).any fun p => p.pub.key.tenant == tenant && p.pub.key.bucket == bucket).length := by
  rw [Bmc.parkedOn, List.length_insertionSort, List.length_filterMap_eq_countP, List.countP_eq_length_filter]
  refine congrArg List.length (List.filter_congr fun m _ => ?_)
  cases vget b.hold m with
  | none => rfl
  | some p =>
    by_cases same : p.bucket = (tenant, bucket)
    · obtain ⟨here, there⟩ := (bucket_iff p tenant bucket).mp same
      simp [same, here, there]
    · have other := mt (bucket_iff p tenant bucket).mpr same
      simpa [same] using other

theorem Bmc.mem_parkedOn_of (b : Bmc) (tenant : Byte) (bucket : BitVec 32) (m : Fin 4) :
    HoldsKey b (tenant, bucket) m ↔ m ∈ (b.parkedOn (tenant, bucket)).map Prod.fst := by
  rw [List.mem_map]
  constructor
  · rintro ⟨p, held, same⟩
    exact ⟨(m, p), Bmc.mem_parkedOn.mpr ⟨held, same⟩, rfl⟩
  · rintro ⟨x, mem, rfl⟩
    obtain ⟨held, same⟩ := Bmc.mem_parkedOn.mp mem
    exact ⟨x.2, held, same⟩

/-- A list of the same places, in strict park order, is the model's. -/
theorem Bmc.parkedOn_eq {b : Bmc} {key : Byte × BitVec 32} {ps : List (Fin 4 × Parked)} (same : ∀ x, x ∈ ps ↔ vget b.hold x.1 = some x.2 ∧ x.2.bucket = key)
    (sorted : ps.Pairwise fun x y => x.2.order < y.2.order) : b.parkedOn key = ps := by
  have single : ps.Nodup := sorted.imp fun less same => by rw [same] at less; exact Nat.lt_irrefl _ less
  have perm : (b.parkedOn key).Perm ps := (List.perm_ext_iff_of_nodup (List.Nodup.of_map _ (Bmc.nodup_parkedOn b key)) single).mpr fun x =>
    Bmc.mem_parkedOn.trans (same x).symm
  have orders : (ps.map fun x => x.2.order).Nodup := List.Pairwise.map _ (fun _ _ less => Nat.ne_of_lt less) sorted
  have rising : (b.parkedOn key).Pairwise fun x y => x.2.order ≤ y.2.order := by
    rw [Bmc.parkedOn]
    exact List.pairwise_insertionSort (r := fun x y : Fin 4 × Parked => x.2.order ≤ y.2.order) _
  refine List.Perm.eq_of_pairwise (le := fun x y => x.2.order ≤ y.2.order) (fun x y hx hy less more => ?_) rising (sorted.imp fun less => Nat.le_of_lt less) perm
  exact List.inj_on_of_nodup_map orders (perm.mem_iff.mp hx) hy (Nat.le_antisymm less more)

/-! ## Places freed one after the other -/

/-- R31: the places of a bucket key that leave the Miss Hold leave the other keys' places and the entries as they were. -/
structure PlacesFreed (l : List (Fin 4)) (key : Byte × BitVec 32) (b c : Bmc) : Prop where
  freed : ∀ m ∈ l, vget c.hold m = none
  others : ∀ m, ¬ HoldsKey b key m → vget c.hold m = vget b.hold m
  rest : c = { b with hold := c.hold }

theorem foldl_places_frees {f : State → Fin 4 × Parked → State} (frees : ∀ t x, (f t x).bmc = (freePlace x.1 t).bmc) {key : Byte × BitVec 32}
    (l : List (Fin 4 × Parked)) (s : State) (single : (l.map Prod.fst).Nodup) (held : ∀ x ∈ l, HoldsKey s.bmc key x.1) :
    PlacesFreed (l.map Prod.fst) key s.bmc (l.foldl f s).bmc := by
  induction l generalizing s with
  | nil => exact ⟨fun m mem => absurd mem List.not_mem_nil, fun m _ => rfl, rfl⟩
  | cons x rest ih =>
    obtain ⟨apart, singleR⟩ := List.nodup_cons.mp single
    obtain ⟨p, heldX, bucket⟩ := held x List.mem_cons_self
    have freed := freePlace_frees heldX
    have bmc : (f s x).bmc = (freePlace x.1 s).bmc := frees s x
    rw [PlaceFreed, ← bmc] at freed
    obtain ⟨gone, emptyStays, moves, entries, pointer, recent, order⟩ := freed
    have stands : ∀ m, ¬ HoldsKey s.bmc key m → vget (f s x).bmc.hold m = vget s.bmc.hold m := fun m free => by
      have other : m ≠ x.1 := by
        rintro rfl
        exact free ⟨p, heldX, bucket⟩
      cases heldM : vget s.bmc.hold m with
      | none => exact emptyStays m other heldM
      | some q => exact (moves m q other heldM).2 fun inherits => free ⟨q, heldM, inherits.2.1.trans bucket⟩
    have heldOn : ∀ y ∈ rest, HoldsKey (f s x).bmc key y.1 := fun y mem => by
      obtain ⟨q, heldY, bucketY⟩ := held y (List.mem_cons_of_mem _ mem)
      have other : y.1 ≠ x.1 := fun same => apart (same ▸ List.mem_map_of_mem mem)
      by_cases inherits : p.owed = true ∧ q.bucket = p.bucket ∧ ∀ l u, l < y.1 → l ≠ x.1 → vget s.bmc.hold l = some u → u.bucket ≠ p.bucket
      · exact ⟨_, (moves y.1 q other heldY).1 inherits, bucketY⟩
      · exact ⟨_, (moves y.1 q other heldY).2 inherits, bucketY⟩
    obtain ⟨freedR, othersR, restR⟩ := ih (f s x) singleR heldOn
    have none : ¬ HoldsKey (f s x).bmc key x.1 := fun ⟨q, still, _⟩ => by rw [gone] at still; cases still
    refine ⟨fun m mem => ?_, fun m free => ?_, ?_⟩
    · rcases List.mem_cons.mp mem with rfl | later
      · exact (othersR x.1 none).trans gone
      · exact freedR m later
    · refine (othersR m fun ⟨q, still, same⟩ => free ⟨q, ?_, same⟩).trans (stands m free)
      rw [← stands m free]
      exact still
    · rw [List.foldl_cons, restR, entries, pointer, recent, order]

/-- R38, R39: the requests of a bucket key, one after the other in park order, leave their places. -/
theorem foldl_parkedOn_frees {f : State → Fin 4 × Parked → State} (frees : ∀ t x, (f t x).bmc = (freePlace x.1 t).bmc) (key : Byte × BitVec 32) (s : State) :
    PlacesFreed ((s.bmc.parkedOn key).map Prod.fst) key s.bmc ((s.bmc.parkedOn key).foldl f s).bmc :=
  foldl_places_frees frees _ s (Bmc.nodup_parkedOn ..) fun x mem => ⟨x.2, (Bmc.mem_parkedOn.mp mem).1, (Bmc.mem_parkedOn.mp mem).2⟩

/-! ## The end of a wait (R33) -/

theorem endWait_of_good {denied : Bool} {n : Fin 4} {p : Parked} {xs : List Extent} (good : p.pub.extents = .good xs) (s : State) :
    endWait denied n p s = answerPub p.pub (if denied then .noBucket else .missTimeout) .plain (freePlace n s) := by
  rw [endWait, good]

theorem endWait_of_reading {denied : Bool} {n : Fin 4} {p : Parked} (reading : p.pub.extents = .reading) (s : State) :
    endWait denied n p s = addPub { p.pub with stage := .doomed denied } (freePlace n s) := by
  rw [endWait, reading]

/-- R33: the completions of the requests whose wait ends with their tables known, and those that wait on for theirs. -/
def deniedOf (ps : List (Fin 4 × Parked)) : List EntryBody :=
  (ps.filter fun x => !(x.2.pub.extents == .reading)).map fun x => x.2.pub.completion .noBucket .plain

def doomedOf (ps : List (Fin 4 × Parked)) : List Pub :=
  (ps.filter fun x => x.2.pub.extents == .reading).map fun x => { x.2.pub with stage := .doomed true }

theorem endWait_effect (n : Fin 4) (p : Parked) (s : State) : let t := endWait true n p s
    KeepsAllBut [.backlog, .cache, .requests] s t ∧ t.bmc = (freePlace n s).bmc ∧ t.backlog = s.backlog.completing (deniedOf [(n, p)]) ∧
      t.reqs = { s.reqs with pubs := s.reqs.pubs ++ doomedOf [(n, p)] } := by
  intro t
  have keptF : KeepsAllBut [.cache] s (freePlace n s) := keepsAllBut_iff.mpr (by simp)
  have reqsF : (freePlace n s).reqs = s.reqs := keptF .requests (by decide)
  have backlogF : (freePlace n s).backlog = s.backlog := keptF .backlog (by decide)
  cases extents : p.pub.extents with
  | good xs =>
    have eq : t = answerPub p.pub .noBucket .plain (freePlace n s) := endWait_of_good extents s
    obtain ⟨kept, -⟩ := answerPub_completes p.pub .noBucket .plain (freePlace n s)
    have done : deniedOf [(n, p)] = [p.pub.completion .noBucket .plain] := by simp [deniedOf, extents]
    have doomed : doomedOf [(n, p)] = [] := by simp [doomedOf, extents]
    rw [eq, done, doomed, List.append_nil]
    refine ⟨keptF.trans kept (by decide) (by decide), kept .cache (by decide), ?_, (kept .requests (by decide)).trans reqsF⟩
    exact (answerPub_backlog ..).trans (by rw [backlogF])
  | reading =>
    have eq : t = _ := endWait_of_reading extents s
    have done : deniedOf [(n, p)] = [] := by simp [deniedOf, extents]
    have doomed : doomedOf [(n, p)] = [{ p.pub with stage := .doomed true }] := by simp [doomedOf, extents]
    rw [eq, done, doomed, completing_nil]
    refine ⟨keptF.trans (ys := [.requests]) (keepsAllBut_iff.mpr (by simp [addPub])) (by decide) (by decide), rfl, backlogF, ?_⟩
    show ({ (freePlace n s).reqs with pubs := (freePlace n s).reqs.pubs ++ [{ p.pub with stage := .doomed true }] } : Requests) = _
    rw [reqsF]

theorem foldl_endWait_effect (ps : List (Fin 4 × Parked)) (s : State) : let t := ps.foldl (fun t x => endWait true x.1 x.2 t) s
    KeepsAllBut [.backlog, .cache, .requests] s t ∧ t.backlog = s.backlog.completing (deniedOf ps) ∧ t.reqs = { s.reqs with pubs := s.reqs.pubs ++ doomedOf ps } := by
  induction ps generalizing s with
  | nil => exact ⟨.refl _ s, (completing_nil _).symm, by simp [doomedOf]⟩
  | cons x rest ih =>
    obtain ⟨kept, -, backlog, reqs⟩ := endWait_effect x.1 x.2 s
    obtain ⟨keptR, backlogR, reqsR⟩ := ih (endWait true x.1 x.2 s)
    have denied : deniedOf (x :: rest) = deniedOf [x] ++ deniedOf rest := by
      rw [deniedOf, deniedOf, deniedOf, ← List.map_append, ← List.filter_append, List.singleton_append]
    have doomed : doomedOf (x :: rest) = doomedOf [x] ++ doomedOf rest := by
      rw [doomedOf, doomedOf, doomedOf, ← List.map_append, ← List.filter_append, List.singleton_append]
    refine ⟨kept.trans keptR (by decide) (by decide), ?_, ?_⟩
    · rw [List.foldl_cons, backlogR, backlog, completing_append, denied]
    · rw [List.foldl_cons, reqsR, reqs, doomed, ← List.append_assoc]

/-- R39: a BUCKET.DENY taken. -/
theorem takeBucketDeny_effect (tag : Word) (tenant : Byte) (bucket : BitVec 32) (s : State) :
    let ps := s.bmc.parkedOn (tenant, bucket)
    let t := takeBucketDeny .management tag tenant bucket (reserve s)
    KeepsAllBut [.backlog, .cache, .requests] s t ∧ PlacesFreed (ps.map Prod.fst) (tenant, bucket) s.bmc t.bmc ∧
      t.backlog = { s.backlog with
        entries := s.backlog.entries ++ waitingEntries (deniedOf ps ++
          [.completion { ring := .management, tag := tag, kind := 0x23, status := .ok, body := .count ps.length }]),
        reservations := s.backlog.reservations - (deniedOf ps).length } ∧
      t.reqs = { s.reqs with pubs := s.reqs.pubs ++ doomedOf ps } := by
  intro ps t
  let u := ps.foldl (fun t x => endWait true x.1 x.2 t) (reserve s)
  have eq : t = answer .management tag .bucketDeny .ok (.count ps.length) u := rfl
  obtain ⟨kept, backlog, reqs⟩ := foldl_endWait_effect ps (reserve s)
  have freed : PlacesFreed (ps.map Prod.fst) (tenant, bucket) s.bmc u.bmc :=
    foldl_parkedOn_frees (f := fun t x => endWait true x.1 x.2 t) (fun t x => (endWait_effect x.1 x.2 t).2.1) (tenant, bucket) (reserve s)
  have keptU : KeepsAllBut [.backlog, .cache, .requests] s u :=
    (keepsAllBut_iff.mpr (by simp [reserve]) : KeepsAllBut [.backlog] s (reserve s)).trans kept (by decide) (by decide)
  rw [eq]
  refine ⟨keptU.trans (ys := [.backlog]) (keepsAllBut_iff.mpr (by simp [answer])) (by decide) (by decide), ?_, ?_, ?_⟩
  · rwa [show (answer .management tag .bucketDeny .ok (.count ps.length) u).bmc = u.bmc by simp [answer]]
  · have placed : (answer .management tag .bucketDeny .ok (.count ps.length) u).backlog =
        u.backlog.completing [.completion { ring := .management, tag := tag, kind := 0x23, status := .ok, body := .count ps.length }] := rfl
    have taken : (reserve s).backlog = { s.backlog with reservations := s.backlog.reservations + 1 } := rfl
    rw [placed, backlog, taken, completing_append, Backlog.completing, List.length_append, List.length_singleton, Nat.add_sub_add_right]
  · rw [show (answer .management tag .bucketDeny .ok (.count ps.length) u).reqs = u.reqs by simp [answer], reqs]
    rfl

theorem exec_missDeadline_of {n : Fin 4} {p : Parked} {s : State} (held : vget s.bmc.hold n = some p) :
    exec (.missDeadlineExpiry n) s = .next (if s.running && p.deadline ≤ s.now then endWait false n p s else s) := by
  show execMissDeadlineExpiry n s = _
  rw [execMissDeadlineExpiry, held]

/-- Settles O27: with the effect of a BUCKET.DENY, and the two ends of a wait at the deadline. -/
theorem denyAndDeadlineEndTheWait : Obligations.DenyAndDeadlineEndTheWait := by
  unfold Obligations.DenyAndDeadlineEndTheWait
  refine ⟨fun tag tenant bucket s ok => ?_, fun n p s running held => ⟨fun early => ?_, fun due => ?_⟩⟩
  · have on := any_bucket_iff s.bmc tenant bucket
    obtain ⟨kept, freed, backlog, reqs⟩ := takeBucketDeny_effect tag tenant bucket s
    have length := s.bmc.parkedOn_length tenant bucket
    have mem : ∀ {m p}, ((vget s.bmc.hold m).any fun p => p.pub.key.tenant == tenant && p.pub.key.bucket == bucket) = true → vget s.bmc.hold m = some p →
        (m, p) ∈ s.bmc.parkedOn (tenant, bucket) := fun {m p} yes held => by
      obtain ⟨q, heldQ, same⟩ := (on m).mp yes
      cases held.symm.trans heldQ
      exact Bmc.mem_parkedOn.mpr ⟨held, same⟩
    refine ⟨_, (exec_bucketDeny ..).trans (congrArg Host.Outcome.next (taking_of_takeOk ok _)), kept, ⟨waitingEntries (deniedOf (s.bmc.parkedOn (tenant, bucket))), ?_⟩,
      by rw [freed.rest], by rw [freed.rest], by rw [freed.rest], fun m yes => freed.freed m ((s.bmc.mem_parkedOn_of tenant bucket m).mp ((on m).mp yes)),
      fun m no => freed.others m fun holds => Bool.false_ne_true (no.symm.trans ((on m).mpr holds)),
      fun m p yes held => ⟨fun xs good => ⟨{ body := p.pub.completion .noBucket .plain, write := .waiting }, ?_, rfl⟩, fun reading => ?_⟩, fun ps same sorted => ?_⟩
    · rw [backlog, length, List.append_assoc]
      exact congrArg (s.backlog.entries ++ ·) List.map_append
    · rw [backlog]
      refine List.mem_append_right _ (List.mem_map_of_mem (List.mem_append_left _ (List.mem_map.mpr ⟨(m, p), List.mem_filter.mpr ⟨mem yes held, ?_⟩, rfl⟩)))
      simp [good]
    · rw [reqs]
      exact List.mem_append_right _ (List.mem_map.mpr ⟨(m, p), List.mem_filter.mpr ⟨mem yes held, by simp [reading]⟩, rfl⟩)
    · have equal : s.bmc.parkedOn (tenant, bucket) = ps := Bmc.parkedOn_eq (fun x => (same x.1 x.2).trans ⟨fun ⟨yes, held⟩ =>
        Bmc.mem_parkedOn.mp (mem yes held), fun ⟨held, bucketX⟩ => ⟨(on x.1).mpr ⟨x.2, held, bucketX⟩, held⟩⟩) sorted
      rw [← length, equal]
      rw [equal] at backlog reqs
      exact ⟨backlog, reqs, freed.rest⟩
  · rw [exec_missDeadline_of held, if_neg (by rw [running]; simpa using early)]
  · have ran : exec (.missDeadlineExpiry n) s = .next (endWait false n p s) := by
      rw [exec_missDeadline_of held, if_pos (by rw [running]; simpa using due)]
    have freed := freePlace_frees held
    have keptF : KeepsAllBut [.cache] s (freePlace n s) := keepsAllBut_iff.mpr (by simp)
    cases extents : p.pub.extents with
    | good xs =>
      obtain ⟨kept, completed⟩ := answerPub_completes p.pub .missTimeout .plain (freePlace n s)
      rw [endWait_of_good extents] at ran
      refine ⟨_, ran, ?_, fun _ _ => ⟨keptF.trans kept (by decide) (by decide), ?_⟩, fun reading => ?_⟩
      · unfold PlaceFreed at freed ⊢
        rwa [← show (answerPub p.pub .missTimeout .plain (freePlace n s)).bmc = (freePlace n s).bmc from kept .cache (by decide)] at freed
      · unfold Completed at completed ⊢
        rwa [show (freePlace n s).backlog = s.backlog from keptF .backlog (by decide)] at completed
      · cases reading
    | reading =>
      rw [endWait_of_reading extents] at ran
      refine ⟨_, ran, freed, fun xs good => ?_, fun _ => ⟨keptF.trans (ys := [.requests]) (keepsAllBut_iff.mpr (by simp [addPub])) (by decide) (by decide), ?_⟩⟩
      · cases good
      · show ({ (freePlace n s).reqs with pubs := (freePlace n s).reqs.pubs ++ [{ p.pub with stage := .doomed false }] } : Requests) = _
        rw [show (freePlace n s).reqs = s.reqs from keptF .requests (by decide)]

end Sys2Proof.Machine
end

section
/-! PROOFS. O26: BUCKET.LOAD. -/

namespace Sys2Proof.Machine

/-! ## Where an entry stands or goes (R26, R36, R37) -/

theorem position_eq_some_iff (s : State) (key : Key) (i : Fin 32) : s.bmc.position key.tenant key.bucket = some i ↔ ∃ e, HitAt s key i e := by
  rw [Bmc.position, find?_finRange_eq_some_iff]
  constructor
  · rintro ⟨here, below⟩
    cases held : vget s.bmc.entries i with
    | none => rw [held] at here; cases here
    | some e =>
      rw [held] at here
      simp only [Option.any_some, Bool.and_eq_true, beq_iff_eq] at here
      refine ⟨e, held, here.1, here.2, fun j f less heldF same => ?_⟩
      have no := below j less
      rw [heldF] at no
      simp [same] at no
  · rintro ⟨e, held, tenant, bucket, below⟩
    refine ⟨by rw [held]; simp [tenant, bucket], fun j less => ?_⟩
    cases heldF : vget s.bmc.entries j with
    | none => rfl
    | some f =>
      have no := below j f less heldF
      simpa using no

theorem position_eq_none_iff (s : State) (key : Key) : s.bmc.position key.tenant key.bucket = none ↔ MissFor s key := by
  rw [Bmc.position, find?_finRange_eq_none_iff]
  refine forall_congr' fun i => ?_
  cases vget s.bmc.entries i with
  | none => simp
  | some e => simp

theorem HitAt.unique {s : State} {key : Key} {i j : Fin 32} {e f : BucketEntry} (h : HitAt s key i e) (g : HitAt s key j f) : i = j :=
  Option.some.inj (((position_eq_some_iff s key i).mpr ⟨e, h⟩).symm.trans ((position_eq_some_iff s key j).mpr ⟨f, g⟩))

theorem HitAt.not_miss {s : State} {key : Key} {i : Fin 32} {e : BucketEntry} (h : HitAt s key i e) : ¬ MissFor s key :=
  fun none => none i e h.1 ⟨h.2.1, h.2.2.1⟩

/-- R36, R37: the position an entry takes, and the cache with it. -/
theorem install_effect (e : BucketEntry) (key : Key) (tenant : e.tenant = key.tenant) (bucket : e.bucket = key.bucket) (s : State) : ∃ t i,
    install e s = (t, i) ∧ t = s.withBmc { s.bmc with entries := vset s.bmc.entries i (some e), pointer := t.bmc.pointer } ∧
      (∀ j f, HitAt s key j f → i = j ∧ t.bmc.pointer = s.bmc.pointer) ∧
      (MissFor s key → ∀ j, vget s.bmc.entries j = none → (∀ l, l < j → vget s.bmc.entries l ≠ none) → i = j ∧ t.bmc.pointer = s.bmc.pointer) ∧
      (MissFor s key → (∀ j, vget s.bmc.entries j ≠ none) →
        i = (if s.bmc.recent = some s.bmc.pointer then s.bmc.pointer + 1 else s.bmc.pointer) ∧ t.bmc.pointer = i + 1) := by
  rw [install, tenant, bucket]
  cases position : s.bmc.position key.tenant key.bucket with
  | some i =>
    obtain ⟨g, hit⟩ := (position_eq_some_iff s key i).mp position
    exact ⟨_, i, rfl, rfl, fun j f other => ⟨hit.unique other, rfl⟩, fun miss => absurd miss hit.not_miss, fun miss => absurd miss hit.not_miss⟩
  | none =>
    have miss := (position_eq_none_iff s key).mp position
    cases free : s.bmc.freePosition with
    | some i =>
      obtain ⟨empty, below⟩ := find?_finRange_eq_some_iff.mp free
      have emptyI : vget s.bmc.entries i = none := Option.isNone_iff_eq_none.mp empty
      refine ⟨_, i, rfl, rfl, fun j f hit => absurd miss hit.not_miss, fun _ j emptyJ belowJ => ⟨?_, rfl⟩, fun _ full => absurd emptyI (full i)⟩
      rcases lt_trichotomy i j with less | same | more
      · exact absurd emptyI (belowJ i less)
      · exact same
      · have no := below j more
        rw [emptyJ] at no
        cases no
    | none =>
      refine ⟨_, s.bmc.victim, rfl, rfl, fun j f hit => absurd miss hit.not_miss, fun _ j emptyJ _ => ?_, fun _ _ => ⟨rfl, rfl⟩⟩
      have no := find?_finRange_eq_none_iff.mp free j
      rw [emptyJ] at no
      cases no

/-! ## The requests a BUCKET.LOAD resumes (R38) -/

/-- The requests with their placement, as a BUCKET.LOAD hands them on. -/
def resumedOf (pl : Placement) (load : Nat) (ps : List (Fin 4 × Parked)) : List Pub := ps.map fun x => { x.2.pub with stage := .placed pl (some load) }

theorem foldl_resume_effect (pl : Placement) (load : Nat) (ps : List (Fin 4 × Parked)) (s : State) : let t := ps.foldl (fun t x => resumeParked pl load x t) s
    KeepsAllBut [.cache, .requests] s t ∧ t.reqs = { s.reqs with pubs := s.reqs.pubs ++ resumedOf pl load ps } := by
  induction ps generalizing s with
  | nil => exact ⟨.refl _ s, by simp [resumedOf]⟩
  | cons x rest ih =>
    have keptF : KeepsAllBut [.cache] s (freePlace x.1 s) := keepsAllBut_iff.mpr (by simp)
    have kept : KeepsAllBut [.cache, .requests] s (resumeParked pl load x s) :=
      keptF.trans (ys := [.requests]) (keepsAllBut_iff.mpr (by simp [resumeParked, addPub])) (by decide) (by decide)
    have reqs : (resumeParked pl load x s).reqs = { s.reqs with pubs := s.reqs.pubs ++ resumedOf pl load [x] } := by
      show ({ (freePlace x.1 s).reqs with pubs := (freePlace x.1 s).reqs.pubs ++ _ } : Requests) = _
      rw [show (freePlace x.1 s).reqs = s.reqs from keptF .requests (by decide)]
      rfl
    obtain ⟨keptR, reqsR⟩ := ih (resumeParked pl load x s)
    refine ⟨kept.trans keptR (by decide) (by decide), ?_⟩
    rw [List.foldl_cons, reqsR, reqs, show resumedOf pl load (x :: rest) = resumedOf pl load [x] ++ resumedOf pl load rest from rfl, ← List.append_assoc]

/-! ## The checks (R35) -/

theorem badBucketRegion_eq_false_iff (n : Nat) (q : BucketLoadReq) : badBucketRegion n q = false ↔
    q.home.toNat < n ∧ q.allowFirst.toNat < n ∧ q.allowLast.toNat < n ∧ ∀ p, q.template.getLsbD p = true → p < n := by
  rw [badBucketRegion, Bool.or_eq_false_iff, Bool.or_eq_false_iff, Bool.or_eq_false_iff, decide_eq_false_iff_not, decide_eq_false_iff_not, decide_eq_false_iff_not,
    Nat.not_le, Nat.not_le, Nat.not_le, and_assoc, and_assoc, List.any_eq_false]
  refine and_congr_right fun _ => and_congr_right fun _ => and_congr_right fun _ => ⟨fun all p set => ?_, fun all p _ => ?_⟩
  · have few : p < 8 := BitVec.lt_of_getLsbD set
    have no := all p (List.mem_range.mpr few)
    simpa [set] using no
  · rw [Bool.and_eq_true, decide_eq_true_eq]
    exact fun ⟨beyond, set⟩ => absurd (all p set) (Nat.not_lt.mpr beyond)

theorem takeBucketLoad_of_badRegion {q : BucketLoadReq} {s : State} (bad : badBucketRegion s.regionCount q = true) :
    takeBucketLoad .management q (reserve s) = s.answered .management q.tag 0x22 .badRegion .plain := by
  rw [takeBucketLoad, managed_management, if_pos (show badBucketRegion (reserve s).regionCount q = true from bad)]
  exact complete_reserve ..

theorem takeBucketLoad_of_badSize {q : BucketLoadReq} {s : State} (good : badBucketRegion s.regionCount q = false)
    (bad : q.maxSize.toNat = 0 ∨ 67108864 < q.maxSize.toNat) : takeBucketLoad .management q (reserve s) = s.answered .management q.tag 0x22 .badSetting .plain := by
  have goodR : ¬ badBucketRegion (reserve s).regionCount q = true := by
    rw [show (reserve s).regionCount = s.regionCount from rfl, good]
    exact Bool.false_ne_true
  rw [takeBucketLoad, managed_management, if_neg goodR, if_pos (show q.maxSize.toNat = 0 ∨ Config.maxObject < q.maxSize.toNat from bad)]
  exact complete_reserve ..

/-- The state with the entry in its position and the requests of its key resumed. -/
def loaded (q : BucketLoadReq) (s : State) : State :=
  (s.bmc.parkedOn (q.tenant, q.bucket)).foldl (fun t x => resumeParked (BucketLoadReq.entry q).placement s.reqs.nextLoad x t)
    (s.withReqs { s.reqs with nextLoad := s.reqs.nextLoad + 1 })

theorem takeBucketLoad_of_good {q : BucketLoadReq} {s : State} (good : badBucketRegion s.regionCount q = false)
    (size : ¬ (q.maxSize.toNat = 0 ∨ 67108864 < q.maxSize.toNat)) {t : State} {i : Fin 32} (installed : install (BucketLoadReq.entry q) (reserve s) = (t, i)) :
    takeBucketLoad .management q (reserve s) = answer .management q.tag .bucketLoad .ok (.position i.val (t.bmc.parkedOn (q.tenant, q.bucket)).length)
      (advance t.reqs.nextLoad (loaded q t)) := by
  have goodR : ¬ badBucketRegion (reserve s).regionCount q = true := by
    rw [show (reserve s).regionCount = s.regionCount from rfl, good]
    exact Bool.false_ne_true
  rw [takeBucketLoad, managed_management, if_neg goodR, if_neg (show ¬ (q.maxSize.toNat = 0 ∨ Config.maxObject < q.maxSize.toNat) from size)]
  dsimp only
  rw [installed]
  rfl

/-- R36, R38: a BUCKET.LOAD taken whose checks pass. -/
theorem bucketLoad_effect {q : BucketLoadReq} {s t1 : State} {i : Fin 32} (good : badBucketRegion s.regionCount q = false)
    (size : ¬ (q.maxSize.toNat = 0 ∨ 67108864 < q.maxSize.toNat)) (installed : install (BucketLoadReq.entry q) (reserve s) = (t1, i))
    (cache : t1 = (reserve s).withBmc { s.bmc with entries := vset s.bmc.entries i (some (BucketLoadReq.entry q)), pointer := t1.bmc.pointer }) :
    let ps := s.bmc.parkedOn (q.tenant, q.bucket)
    let pubs := s.reqs.pubs ++ resumedOf (BucketLoadReq.entry q).placement s.reqs.nextLoad ps
    let last : List EntryBody := [.completion { ring := .management, tag := q.tag, kind := 0x22, status := .ok, body := .position i.val ps.length }]
    let t := takeBucketLoad .management q (reserve s)
    KeepsAllBut [.backlog, .cache, .requests] s t ∧ PlacesFreed (ps.map Prod.fst) (q.tenant, q.bucket) t1.bmc t.bmc ∧
      ∃ u, t.reqs = (advance s.reqs.nextLoad u).reqs ∧ t.backlog = (advance s.reqs.nextLoad u).backlog.completing last ∧ u.reqs.pubs = pubs ∧
        u.backlog = { s.backlog with reservations := s.backlog.reservations + 1 } := by
  intro ps pubs last t
  let u := loaded q t1
  let v := advance s.reqs.nextLoad u
  have reqs1 : t1.reqs = s.reqs := by rw [cache]; rfl
  have hold1 : t1.bmc.parkedOn (q.tenant, q.bucket) = ps := by rw [cache]; rfl
  have kept1 : KeepsAllBut [.backlog, .cache] s t1 := by
    rw [cache]
    exact keepsAllBut_iff.mpr (by simp [reserve])
  have backlog1 : t1.backlog = { s.backlog with reservations := s.backlog.reservations + 1 } := by rw [cache]; rfl
  have numbered : KeepsAllBut [.requests] t1 (t1.withReqs { t1.reqs with nextLoad := t1.reqs.nextLoad + 1 }) := keepsAllBut_iff.mpr (by simp)
  have freed : PlacesFreed (ps.map Prod.fst) (q.tenant, q.bucket) t1.bmc u.bmc := by
    rw [← hold1]
    exact foldl_parkedOn_frees (f := fun t x => resumeParked (BucketLoadReq.entry q).placement t1.reqs.nextLoad x t) (fun _ _ => rfl) (q.tenant, q.bucket)
      (t1.withReqs { t1.reqs with nextLoad := t1.reqs.nextLoad + 1 })
  obtain ⟨keptU, reqsU⟩ := foldl_resume_effect (BucketLoadReq.entry q).placement t1.reqs.nextLoad (t1.bmc.parkedOn (q.tenant, q.bucket))
    (t1.withReqs { t1.reqs with nextLoad := t1.reqs.nextLoad + 1 })
  have keptSU : KeepsAllBut [.backlog, .cache, .requests] s u := kept1.trans (numbered.trans (zs := [.cache, .requests]) keptU (by decide) (by decide)) (by decide) (by decide)
  obtain ⟨keptV, -, -⟩ := advanceLoad_leaves s.reqs.nextLoad u.reqs.pubs.length u
  have eq : t = answer .management q.tag .bucketLoad .ok (.position i.val ps.length) v := by
    show takeBucketLoad .management q (reserve s) = _
    rw [takeBucketLoad_of_good good size installed, hold1, reqs1]
  have keptT : KeepsAllBut [.backlog] v t := by
    rw [eq]
    exact keepsAllBut_iff.mpr (by simp [answer])
  refine ⟨(keptSU.trans (zs := [.backlog, .cache, .requests]) keptV (by decide) (by decide)).trans keptT (by decide) (by decide), ?_, u,
    keptT .requests (by decide), ?_, ?_, ?_⟩
  · rwa [show t.bmc = u.bmc from (keptT .cache (by decide) : t.bmc = v.bmc).trans (keptV .cache (by decide))]
  · rw [eq]
    rfl
  · rw [show u.reqs = _ from reqsU, hold1, reqs1]
    rfl
  · exact (keptU .backlog (by decide) : u.backlog = _).trans backlog1

theorem waitsIn_resumed (pl : Placement) (load : Nat) (p : Pub) : ({ p with stage := .placed pl (some load) } : Pub).waitsIn load = true :=
  (waitsIn_iff load _).mpr ⟨pl, rfl⟩

/-- Settles O26: by the checks of R35, then over the position the entry takes. -/
theorem bucketLoadInstallsAndResumes : Obligations.BucketLoadInstallsAndResumes := by
  unfold Obligations.BucketLoadInstallsAndResumes
  intro q s ok fresh n regionsGood sizeGood pl e key parked
  have ran : exec (.bucketLoad .management q) s = .next (takeBucketLoad .management q (reserve s)) :=
    (exec_bucketLoad ..).trans (congrArg Host.Outcome.next (taking_of_takeOk ok _))
  have regions := badBucketRegion_eq_false_iff n q
  refine ⟨fun bad => ?_, fun good bad => ?_, fun good size => ?_⟩
  · rw [ran, takeBucketLoad_of_badRegion (by rw [← Bool.not_eq_false]; exact mt regions.mp bad)]
  · rw [ran, takeBucketLoad_of_badSize (regions.mpr good) (by by_contra no; exact bad ⟨by omega, by omega⟩)]
  · obtain ⟨t1, i, installed, cache, hits, misses, full⟩ := install_effect e key rfl rfl (reserve s)
    obtain ⟨low, high⟩ := size
    obtain ⟨kept, freed, u, reqs, backlog, pubs, reserved⟩ := bucketLoad_effect (regions.mpr good) (by omega) installed cache
    obtain ⟨keptA, ⟨more, entries⟩, -⟩ := advanceLoad_leaves s.reqs.nextLoad u.reqs.pubs.length u
    let ps := s.bmc.parkedOn (q.tenant, q.bucket)
    let t := takeBucketLoad .management q (reserve s)
    have parkedIff : ∀ m, parked m ↔ HoldsKey s.bmc (q.tenant, q.bucket) m := fun m =>
      exists_congr fun p => and_congr_right fun _ => (bucket_iff p q.tenant q.bucket).symm
    have hold1 : t1.bmc.hold = s.bmc.hold := by rw [cache]; rfl
    have bmc : t.bmc = { s.bmc with entries := vset s.bmc.entries i (some e), pointer := t1.bmc.pointer, hold := t.bmc.hold } := by
      rw [freed.rest, cache]
      rfl
    have pointer : t.bmc.pointer = t1.bmc.pointer := by rw [bmc]
    have tail : t.backlog.entries = s.backlog.entries ++ more ++
        waitingEntries [.completion { ring := .management, tag := q.tag, kind := 0x22, status := .ok, body := .position i.val ps.length }] := by
      rw [show t.backlog = _ from backlog]
      show (advance s.reqs.nextLoad u).backlog.entries ++ _ = _
      rw [show (advance s.reqs.nextLoad u).backlog.entries = u.backlog.entries ++ more from entries, reserved]
    refine ⟨t, i, ps.length, ran, kept, ⟨more, tail⟩, ?_, fun j other => ?_, ?_, fun j f hit => ?_, fun miss j empty below => ?_, fun miss all => ?_,
      s.bmc.parkedOn_length q.tenant q.bucket, fun m holds => ?_, fun m free => ?_, fun none => ?_, fun m p xs held holds alone empty known open_ fits => ?_,
      fun qs same sorted => ?_⟩
    · rw [bmc]
      exact vget_vset_self ..
    · rw [bmc]
      exact vget_vset_of_ne _ other _
    · rw [bmc]
    · rw [pointer]
      exact hits j f hit
    · rw [pointer]
      exact misses miss j empty below
    · rw [pointer]
      exact full miss all
    · exact freed.freed m ((s.bmc.mem_parkedOn_of q.tenant q.bucket m).mp ((parkedIff m).mp holds))
    · rw [freed.others m fun ⟨p, held, same⟩ => free ((parkedIff m).mpr ⟨p, by rw [← hold1]; exact held, same⟩), hold1]
    · have nobody : ps = [] := List.eq_nil_iff_forall_not_mem.mpr fun x mem =>
        none x.1 ((parkedIff x.1).mpr ⟨x.2, (Bmc.mem_parkedOn.mp mem).1, (Bmc.mem_parkedOn.mp mem).2⟩)
      have pubsU : u.reqs.pubs = s.reqs.pubs := by
        rw [pubs, show s.bmc.parkedOn (q.tenant, q.bucket) = [] from nobody]
        exact List.append_nil _
      have idle : advance s.reqs.nextLoad u = u := advanceLoad_of_none (by
        rw [pubsU, List.find?_eq_none]
        intro p mem waits
        obtain ⟨pl, stage⟩ := (waitsIn_iff _ p).mp waits
        exact Nat.lt_irrefl _ (fresh p mem pl _ stage)) _
      refine ⟨?_, ?_⟩
      · rw [show t.reqs = _ from reqs, idle, pubsU]
      · rw [show t.backlog = _ from backlog, idle, reserved, show s.bmc.parkedOn (q.tenant, q.bucket) = [] from nobody]
        rfl
    · have one : ps = [(m, p)] := Bmc.parkedOn_eq (fun x => by
        rw [List.mem_singleton]
        constructor
        · rintro rfl
          obtain ⟨w, heldW, sameW⟩ := (parkedIff m).mp holds
          cases held.symm.trans heldW
          exact ⟨held, sameW⟩
        · rintro ⟨heldX, sameX⟩
          have here := alone x.1 ((parkedIff x.1).mpr ⟨x.2, heldX, sameX⟩)
          rw [here] at heldX
          exact Prod.ext here (Option.some.inj (heldX.symm.trans held))) (List.pairwise_singleton _ _)
      let w : Pub := { p.pub with stage := .placed pl (some s.reqs.nextLoad) }
      have pubsU : u.reqs.pubs = [w] := by
        rw [pubs, empty, show s.bmc.parkedOn (q.tenant, q.bucket) = [(m, p)] from one]
        rfl
      have turn : turnsOf s.reqs.nextLoad [w] = [w] := by
        rw [turnsOf, List.filter_cons_of_pos (waitsIn_resumed pl _ p.pub), List.filter_nil, List.takeWhile_cons_of_pos (by simp [known]), List.takeWhile_nil]
      have turns := advance_effect s.reqs.nextLoad (s := u) (by rw [pubsU]; exact List.nodup_singleton _)
      have passed : w.refusal = Option.none := refusal_of_fits (p := w) (load := some s.reqs.nextLoad) rfl open_ fits
      obtain ⟨-, reqsA, -⟩ := turns
      rw [show t.reqs = _ from reqs, reqsA, pubsU, turn]
      show [w].filterMap (afterTurns [w]) = _
      have after : afterTurns [w] w = some w.turned := by rw [afterTurns_cons_self rfl, passed, if_neg (by decide)]
      rw [List.filterMap_cons, after]
      rfl
    · intro numbered single
      have equal : ps = qs := Bmc.parkedOn_eq (fun x => (same x.1 x.2).trans ⟨fun ⟨held, holds⟩ => by
          obtain ⟨w, heldW, sameW⟩ := (parkedIff x.1).mp holds
          cases held.symm.trans heldW
          exact ⟨held, sameW⟩,
        fun ⟨held, sameX⟩ => ⟨held, (parkedIff x.1).mpr ⟨x.2, held, sameX⟩⟩⟩) sorted
      have pubsU : u.reqs.pubs = numbered := by
        rw [pubs, show s.bmc.parkedOn (q.tenant, q.bucket) = qs from equal]
        rfl
      have turns := advance_effect s.reqs.nextLoad (s := u) (by rw [pubsU]; exact single)
      rw [pubsU] at turns
      obtain ⟨-, reqsA, backlogA⟩ := turns
      refine handedOn_iff.mpr ⟨?_, ?_⟩
      · rw [show t.backlog = _ from backlog, backlogA, reserved, completing_append, Backlog.completing, List.nil_append, List.length_append, List.length_singleton,
          Nat.add_sub_add_right]
      · rw [show t.reqs = _ from reqs, reqsA, pubsU]

end Sys2Proof.Machine
end

section
/-! PROOFS. O29: a PUBLISH or DELETE that hits an entry. -/

namespace Sys2Proof.Machine

/-! ## The take (R28) -/

theorem exec_publish (ring : ReqRing) (q : PublishReq) (s : State) : exec (.publish ring q) s = .next (taking ring (takePublish ring q) s) := rfl
theorem exec_delete (ring : ReqRing) (q : DeleteReq) (s : State) : exec (.delete ring q) s = .next (taking ring (takeDelete ring q) s) := rfl

/-- The state with one request number used. -/
def numbered (s : State) : State := s.withReqs { s.reqs with nextId := s.reqs.nextId + 1 }

theorem takePub_of_hit {p : Pub} {i : Fin 32} {e : BucketEntry} {s : State} (hit : HitAt s p.key i e) (fault : Option ExtentDetail) (table : Addr) (count : Nat) :
    takePub p fault table count s = takeHit p fault table count i e (numbered s) := by
  rw [takePub, (position_eq_some_iff s p.key i).mpr ⟨e, hit⟩]
  dsimp only
  rw [hit.1]
  rfl

theorem entryFault_eq_none {count size : Nat} (few : count ≤ 16) (small : size ≤ 67108864) (some_ : 1 ≤ count ∨ size = 0) : entryFault count size = none := by
  rw [entryFault, if_neg (show ¬ Config.maxExtents < count from few.not_gt), if_neg (show ¬ Config.maxObject < size from small.not_gt), if_neg (by omega)]

theorem entryFault_eq_some {count size : Nat} (bad : ¬ (count ≤ 16 ∧ size ≤ 67108864) ∨ (count = 0 ∧ 0 < size)) :
    entryFault count size = some (if 16 < count then .count else if 67108864 < size then .size else .empty) := by
  rw [entryFault]
  by_cases many : 16 < count
  · rw [if_pos (show Config.maxExtents < count from many), if_pos many]
  · rw [if_neg (show ¬ Config.maxExtents < count from many), if_neg many]
    by_cases large : 67108864 < size
    · rw [if_pos (show Config.maxObject < size from large), if_pos large]
    · rw [if_neg (show ¬ Config.maxObject < size from large), if_neg large, if_pos (by omega)]

/-! ## The request at its entry (R28, R29, R47) -/

section
variable {p : Pub} {table : Addr} {count : Nat} {i : Fin 32} {e : BucketEntry} {s : State}

/-- What a take that hits an entry does besides the request's own way. -/
def TakenAt (i : Fin 32) (s t : State) : Prop :=
  t.bmc = { s.bmc with recent := some i } ∧ t.reqs.nextId = s.reqs.nextId + 1 ∧ t.reqs.accepts = s.reqs.accepts ∧ t.reqs.batches = s.reqs.batches

theorem takeHit_fault_effect (fault : ExtentDetail) : let t := takeHit p (some fault) table count i e (numbered (reserve s))
    KeepsAllBut [.backlog, .cache, .requests] s t ∧ TakenAt i s t ∧ t.backlog = (s.answered p.ring p.tag p.code .badExtents (.extents fault 0)).backlog ∧
      t.reqs.pubs = s.reqs.pubs := by
  intro t
  let u := (numbered (reserve s)).withBmc { s.bmc with recent := some i }
  obtain ⟨kept, -⟩ := answerPub_completes p .badExtents (.extents fault 0) u
  have keptU : KeepsAllBut [.backlog, .cache, .requests] s u := keepsAllBut_iff.mpr (by simp [u, numbered, reserve])
  have reqs : t.reqs = u.reqs := kept .requests (by decide)
  refine ⟨keptU.trans kept (by decide) (by decide), ⟨kept .cache (by decide), ?_, ?_, ?_⟩, ?_, ?_⟩
  · rw [reqs]
    rfl
  · rw [reqs]
    rfl
  · rw [reqs]
    rfl
  · exact answerPub_backlog ..
  · rw [reqs]
    rfl

/-- The request stands among those in flight with the entry's placement. -/
def placedAt (p : Pub) (i : Fin 32) (e : BucketEntry) (s : State) : State :=
  addPub { p with stage := .placed e.placement none } ((numbered (reserve s)).withBmc { s.bmc with recent := some i })

theorem takeHit_of_good {xs : List Extent} (good : p.extents = .good xs) :
    takeHit p none table count i e (numbered (reserve s)) = placementCheck { p with stage := .placed e.placement none } e.placement (placedAt p i e s) := by
  cases p
  cases good
  rfl

theorem takeHit_of_reading (reading : p.extents = .reading) :
    takeHit p none table count i e (numbered (reserve s)) = addRead (.extents p.id) table (16 * count) (placedAt p i e s) := by
  cases p
  cases reading
  rfl

theorem placedAt_effect : let t := placedAt p i e s
    KeepsAllBut [.backlog, .cache, .requests] s t ∧ TakenAt i s t ∧ t.backlog = { s.backlog with reservations := s.backlog.reservations + 1 } ∧
      t.reqs.pubs = s.reqs.pubs ++ [{ p with stage := .placed e.placement none }] :=
  ⟨keepsAllBut_iff.mpr (by simp [placedAt, addPub, numbered, reserve]), ⟨rfl, rfl, rfl, rfl⟩, rfl, rfl⟩

theorem takeHit_reading_effect (reading : p.extents = .reading) : let t := takeHit p none table count i e (numbered (reserve s))
    KeepsAllBut [.backlog, .cache, .requests, .engine] s t ∧ TakenAt i s t ∧ t.backlog = { s.backlog with reservations := s.backlog.reservations + 1 } ∧
      t.reqs.pubs = s.reqs.pubs ++ [{ p with stage := .placed e.placement none }] ∧
      OperationAdded (.extents p.id) (readBursts (cutPieces [(table, 16 * count)])) s.hme t.hme := by
  intro t
  have eq : t = _ := takeHit_of_reading reading
  obtain ⟨kept, taken, backlog, pubs⟩ := placedAt_effect (p := p) (i := i) (e := e) (s := s)
  rw [eq]
  exact ⟨kept.trans (ys := [.engine]) (addRead_adds ..).1 (by decide) (by decide), taken, backlog, pubs, rfl⟩

theorem takeHit_readOnly_effect {xs : List Extent} (good : p.extents = .good xs) (fresh : ∀ w ∈ s.reqs.pubs, w.id ≠ p.id) (readOnly : e.placement.readOnly = true) :
    let t := takeHit p none table count i e (numbered (reserve s))
    KeepsAllBut [.backlog, .cache, .requests] s t ∧ TakenAt i s t ∧ t.backlog = (s.answered p.ring p.tag p.code .readOnly .plain).backlog ∧
      t.reqs.pubs = s.reqs.pubs := by
  intro t
  let q : Pub := { p with stage := .placed e.placement none }
  let d := dropPub q.id (placedAt p i e s)
  have eq : t = answerPub q .readOnly .plain d :=
    (takeHit_of_good good).trans (placementCheck_refuses (p := q) rfl (refusal_of_readOnly (p := q) rfl readOnly) _)
  obtain ⟨kept, ⟨cache, number, accepts, batches⟩, backlog, pubs⟩ := placedAt_effect (p := p) (i := i) (e := e) (s := s)
  obtain ⟨keptA, -⟩ := answerPub_completes q .readOnly .plain d
  have reqs : (answerPub q .readOnly .plain d).reqs = d.reqs := keptA .requests (by decide)
  have keptD : KeepsAllBut [.requests] (placedAt p i e s) d := keepsAllBut_iff.mpr (by simp [d, dropPub])
  rw [eq]
  refine ⟨(kept.trans (zs := [.backlog, .cache, .requests]) keptD (by decide) (by decide)).trans keptA (by decide) (by decide), ⟨?_, ?_, ?_, ?_⟩, ?_, ?_⟩
  · exact (keptA .cache (by decide)).trans ((keptD .cache (by decide)).trans cache)
  · rw [reqs]
    exact number
  · rw [reqs]
    exact accepts
  · rw [reqs]
    exact batches
  · exact (answerPub_backlog ..).trans (by rw [keptD .backlog (by decide), backlog]; rfl)
  · rw [reqs]
    show (placedAt p i e s).reqs.pubs.filter (fun u => u.id != p.id) = _
    rw [pubs, List.filter_append, List.filter_cons_of_neg (by simp), List.filter_nil, List.append_nil,
      List.filter_eq_self.mpr fun w mem => bne_iff_ne.mpr (fresh w mem)]

theorem takeHit_ready_effect {xs : List Extent} (good : p.extents = .good xs) (fresh : ∀ w ∈ s.reqs.pubs, w.id ≠ p.id) (open_ : e.placement.readOnly = false)
    (empty : p.size = 0) : let t := takeHit p none table count i e (numbered (reserve s))
    KeepsAllBut [.backlog, .cache, .requests] s t ∧ TakenAt i s t ∧ t.backlog = { s.backlog with reservations := s.backlog.reservations + 1 } ∧
      t.reqs.pubs = s.reqs.pubs ++ [{ p with stage := .ready e.placement }] := by
  intro t
  let q : Pub := { p with stage := .placed e.placement none }
  have eq : t = modPub q.id (fun p => { p with stage := .ready e.placement }) (placedAt p i e s) :=
    (takeHit_of_good good).trans (placementCheck_passes (p := q) rfl (refusal_of_fits (p := q) rfl open_ (show p.size ≤ _ by omega)) _)
  obtain ⟨kept, ⟨cache, number, accepts, batches⟩, backlog, pubs⟩ := placedAt_effect (p := p) (i := i) (e := e) (s := s)
  rw [eq]
  refine ⟨kept.trans (ys := [.requests]) (keepsAllBut_iff.mpr (by simp [modPub])) (by decide) (by decide), ⟨cache, number, accepts, batches⟩, backlog, ?_⟩
  rw [modPub_pubs, pubs, List.map_append, List.map_singleton, if_pos rfl,
    (List.map_congr_left fun w mem => if_neg (fresh w mem)).trans (List.map_id' s.reqs.pubs)]

end

/-- Settles O29: by the way the request takes at its entry. -/
theorem publishAndDeleteThatHit : Obligations.PublishAndDeleteThatHit := by
  unfold Obligations.PublishAndDeleteThatHit
  intro ring i e s ok fresh hit reserved
  have unused : ∀ w ∈ s.reqs.pubs, w.id ≠ s.reqs.nextId := fun w mem => Nat.ne_of_lt (fresh.1 w mem)
  refine ⟨fun q at_ => ?_, fun q at_ => ?_⟩
  · let p : Pub := { id := s.reqs.nextId, ring := ring, tag := q.tag, kind := .tombstone, key := q.key, seq := q.seq, contentTag := q.contentTag, size := 0,
                     extents := .good [], stage := .parked }
    have ran : exec (.delete ring q) s = .next (takeHit p none 0 0 i e (numbered (reserve s))) := by
      rw [exec_delete, taking_of_takeOk ok]
      exact congrArg Host.Outcome.next (takePub_of_hit (p := p) (s := reserve s) at_ none 0 0)
    exact ⟨fun readOnly => ⟨_, ran, takeHit_readOnly_effect (p := p) rfl unused readOnly⟩, fun open_ => ⟨_, ran, takeHit_ready_effect (p := p) rfl unused open_ rfl⟩⟩
  · let taken := fun extents => ({ id := s.reqs.nextId, ring := ring, tag := q.tag, kind := .content, key := q.key, seq := q.seq, contentTag := q.contentTag,
                                   size := q.size.toNat, extents := extents, stage := .parked } : Pub)
    have ran : ∀ extents, (if q.extentCount.toNat = 0 then ExtentStage.good [] else .reading) = extents → exec (.publish ring q) s =
        .next (takeHit (taken extents) (entryFault q.extentCount.toNat q.size.toNat) q.table q.extentCount.toNat i e (numbered (reserve s))) :=
      fun extents known => by
        subst known
        rw [exec_publish, taking_of_takeOk ok]
        exact congrArg Host.Outcome.next (takePub_of_hit (p := taken _) (s := reserve s) at_ _ _ _)
    have bad : ∀ d, entryFault q.extentCount.toNat q.size.toNat = some d → ∃ t, exec (.publish ring q) s = .next t ∧ KeepsAllBut [.backlog, .cache, .requests] s t ∧
        TakenAt i s t ∧ t.backlog = (s.answered ring q.tag 0x01 .badExtents (.extents d 0)).backlog ∧ t.reqs.pubs = s.reqs.pubs := fun d fault => by
      have went := ran _ rfl
      rw [fault] at went
      exact ⟨_, went, takeHit_fault_effect d⟩
    refine ⟨fun many => bad _ ?_, fun few large => bad _ ?_, fun none_ some_ small => bad _ ?_, fun none_ empty readOnly => ?_, fun none_ empty open_ => ?_,
      fun some_ few small => ?_⟩
    · rw [entryFault_eq_some (.inl fun both => by omega), if_pos many]
    · rw [entryFault_eq_some (.inl fun both => by omega), if_neg (by omega), if_pos large]
    · rw [entryFault_eq_some (.inr ⟨none_, some_⟩), if_neg (by omega), if_neg (by omega)]
    · have went := ran _ (if_pos none_)
      rw [entryFault_eq_none (by omega) (by omega) (.inr empty)] at went
      exact ⟨_, went, takeHit_readOnly_effect (p := taken (.good [])) rfl unused readOnly⟩
    · have went := ran _ (if_pos none_)
      rw [entryFault_eq_none (by omega) (by omega) (.inr empty)] at went
      exact ⟨_, went, takeHit_ready_effect (p := taken (.good [])) rfl unused open_ empty⟩
    · have went := ran _ (if_neg (by omega))
      rw [entryFault_eq_none few small (.inl some_)] at went
      exact ⟨_, went, takeHit_reading_effect (p := taken .reading) rfl⟩

end Sys2Proof.Machine
end

section
/-! PROOFS. O30: a PUBLISH or DELETE that misses. -/

namespace Sys2Proof.Machine

/-! ## A request parked (R30, R31) -/

/-- R31: a newly parked bucket key finds room for its notice. -/
abbrev MissGiven (s : State) (n : Fin 4) (key : Key) : Prop := ¬ ParkedElsewhere s n key ∧ s.backlog.entries.length + s.backlog.reservations + 1 < 64

theorem parkedElsewhere_iff {s : State} {n : Fin 4} (free : vget s.bmc.hold n = none) (p : Pub) : (s.bmc.placeOf p.bucketKey).isNone = true ↔ ¬ ParkedElsewhere s n p.key := by
  rw [Option.isNone_iff_eq_none, Bmc.placeOf_eq_none_iff]
  constructor
  · rintro none ⟨m, q, -, held, tenant, bucket⟩
    exact none m q held (Prod.ext tenant bucket)
  · intro none m q held same
    refine none ⟨m, q, ?_, held, congrArg Prod.fst same, congrArg Prod.snd same⟩
    rintro rfl
    rw [free] at held
    cases held

theorem fits_numbered_iff {ring : ReqRing} {s : State} (ok : s.takeOk ring = true) :
    (numbered (reserve s)).fits 1 = true ↔ s.backlog.entries.length + s.backlog.reservations + 1 < 64 :=
  (fits_reserve_iff ok 1).trans (by unfold State.roomOnceTaken; omega)

/-- What a request's parking makes of the Miss Hold and the Backlog. -/
structure ParkedAt (n : Fin 4) (p : Pub) (s t : State) : Prop where
  kept : KeepsAllBut [.backlog, .cache, .requests] s t
  reqs : t.reqs = { s.reqs with nextId := s.reqs.nextId + 1 }
  place : ∃ w : Parked, t.bmc = { s.bmc with hold := vset s.bmc.hold n (some w), nextOrder := s.bmc.nextOrder + 1 } ∧ w.pub = { p with stage := .parked } ∧
    w.order = s.bmc.nextOrder ∧ w.deadline = s.now + s.settingTime 11 ∧
    (w.owed = true ↔ ¬ ParkedElsewhere s n p.key ∧ ¬ s.backlog.entries.length + s.backlog.reservations + 1 < 64)
  given : MissGiven s n p.key → t.backlog = { s.backlog with
    entries := s.backlog.entries ++ waitingEntries [.notice (.bucketMiss p.key.tenant p.key.bucket n.val) false], reservations := s.backlog.reservations + 1 }
  silent : ¬ MissGiven s n p.key → t.backlog = { s.backlog with reservations := s.backlog.reservations + 1 }

theorem park_effect {ring : ReqRing} {n : Fin 4} {s : State} (ok : s.takeOk ring = true) (free : vget s.bmc.hold n = none) (p : Pub) :
    ParkedAt n p s (park n p (numbered (reserve s))) := by
  let u := numbered (reserve s)
  let newly := (u.bmc.placeOf p.bucketKey).isNone
  let entry : Parked := { pub := { p with stage := .parked }, order := u.bmc.nextOrder, deadline := u.now + u.settingTime 11, owed := newly && !u.fits 1 }
  let v := u.withBmc { u.bmc with hold := vset u.bmc.hold n (some entry), nextOrder := u.bmc.nextOrder + 1 }
  have eq : park n p u = if newly && u.fits 1 then place (Notice.bucketMiss p.key.tenant p.key.bucket n.val).bodies v else v := rfl
  have newlyIff : newly = true ↔ ¬ ParkedElsewhere s n p.key := parkedElsewhere_iff (s := s) free p
  have fits := fits_numbered_iff ok
  have owed : entry.owed = true ↔ ¬ ParkedElsewhere s n p.key ∧ ¬ s.backlog.entries.length + s.backlog.reservations + 1 < 64 := by
    show (newly && !u.fits 1) = true ↔ _
    rw [Bool.and_eq_true, newlyIff, Bool.not_eq_true', ← Bool.not_eq_true, fits]
  have both : (newly && u.fits 1) = true ↔ MissGiven s n p.key := by rw [Bool.and_eq_true, newlyIff, fits]
  have keptV : KeepsAllBut [.backlog, .cache, .requests] s v := keepsAllBut_iff.mpr (by simp [v, u, numbered, reserve])
  by_cases given : MissGiven s n p.key
  · rw [eq, if_pos (both.mpr given)]
    exact ⟨keptV.trans (ys := [.backlog]) (keepsAllBut_iff.mpr (by simp)) (by decide) (by decide), rfl, ⟨entry, rfl, rfl, rfl, rfl, owed⟩, fun _ => rfl, fun no => absurd given no⟩
  · rw [eq, if_neg (mt both.mp given)]
    exact ⟨keptV, rfl, ⟨entry, rfl, rfl, rfl, rfl, owed⟩, fun yes => absurd yes given, fun _ => rfl⟩

/-! ## The take of a request that misses (R28, R30, R32) -/

theorem freePlace_of_lowest {s : State} {n : Fin 4} (lowest : LowestFreePlace s n) : s.bmc.freePlace = some n :=
  find?_finRange_eq_some_iff.mpr ⟨Option.isNone_iff_eq_none.mpr lowest.1, fun m less => Option.isNone_eq_false_iff.mpr (Option.isSome_iff_ne_none.mpr (lowest.2 m less))⟩

theorem freePlace_of_full {s : State} (full : ∀ n, vget s.bmc.hold n ≠ none) : s.bmc.freePlace = none :=
  find?_finRange_eq_none_iff.mpr fun n => Option.isNone_eq_false_iff.mpr (Option.isSome_iff_ne_none.mpr (full n))

theorem takePub_of_parked {p : Pub} {n : Fin 4} {s : State} (miss : MissFor s p.key) (lowest : LowestFreePlace s n) (fault : Option ExtentDetail) (table : Addr)
    (count : Nat) : takePub p fault table count s = takeParked p fault table count n (numbered s) := by
  rw [takePub, (position_eq_none_iff s p.key).mpr miss]
  dsimp only
  rw [freePlace_of_lowest lowest]
  rfl

theorem takePub_of_unparked {p : Pub} {s : State} (miss : MissFor s p.key) (full : ∀ n, vget s.bmc.hold n ≠ none) (fault : Option ExtentDetail) (table : Addr)
    (count : Nat) : takePub p fault table count s = takeUnparked p fault table count (numbered s) := by
  rw [takePub, (position_eq_none_iff s p.key).mpr miss]
  dsimp only
  rw [freePlace_of_full full]
  rfl

section
variable {p : Pub} {table : Addr} {count : Nat} {s : State}

theorem takeParked_of_good {n : Fin 4} {xs : List Extent} (good : p.extents = .good xs) (u : State) : takeParked p none table count n u = park n p u := by
  cases p
  cases good
  rfl

theorem takeParked_of_reading {n : Fin 4} (reading : p.extents = .reading) (u : State) :
    takeParked p none table count n u = addRead (.extents p.id) table (16 * count) (park n p u) := by
  cases p
  cases reading
  rfl

/-- R47: a request parked whose entry fails leaves at once. -/
theorem takeParked_fault_effect {ring : ReqRing} {n : Fin 4} (ok : s.takeOk ring = true) (free : vget s.bmc.hold n = none) (d : ExtentDetail) :
    let t := takeParked p (some d) table count n (numbered (reserve s))
    KeepsAllBut [.backlog, .cache, .requests] s t ∧ t.reqs = { s.reqs with nextId := s.reqs.nextId + 1 } ∧ vget t.bmc.hold n = none ∧
      (t.bmc.entries = s.bmc.entries ∧ t.bmc.pointer = s.bmc.pointer ∧ t.bmc.recent = s.bmc.recent) ∧
      CompletedLast p.ring p.tag p.code .badExtents (.extents d 0) s t := by
  intro t
  let parked := park n p (numbered (reserve s))
  let freed := freePlace n parked
  obtain ⟨kept, reqs, ⟨w, bmc, -⟩, given, silent⟩ := park_effect ok free p
  have held : vget parked.bmc.hold n = some w := by
    rw [bmc]
    exact vget_vset_self ..
  obtain ⟨gone, -, -, entries, pointer, recent, -⟩ := freePlace_frees held
  have keptF : KeepsAllBut [.cache] parked freed := keepsAllBut_iff.mpr (by simp [freed])
  obtain ⟨keptA, -⟩ := answerPub_completes p .badExtents (.extents d 0) freed
  have cache : t.bmc = freed.bmc := keptA .cache (by decide)
  have before : ∃ between, freed.backlog.entries = s.backlog.entries ++ between := by
    rw [show freed.backlog = parked.backlog from keptF .backlog (by decide)]
    by_cases yes : MissGiven s n p.key
    · exact ⟨_, by rw [show parked.backlog = _ from given yes]⟩
    · exact ⟨[], by rw [show parked.backlog = _ from silent yes, List.append_nil]⟩
  obtain ⟨between, stands⟩ := before
  refine ⟨(kept.trans (zs := [.backlog, .cache, .requests]) keptF (by decide) (by decide)).trans keptA (by decide) (by decide), ?_, ?_, ⟨?_, ?_, ?_⟩, between, ?_⟩
  · exact (keptA .requests (by decide) : t.reqs = freed.reqs).trans ((keptF .requests (by decide)).trans reqs)
  · rw [cache]
    exact gone
  · rw [cache]
    exact entries.trans (by rw [bmc])
  · rw [cache]
    exact pointer.trans (by rw [bmc])
  · rw [cache]
    exact recent.trans (by rw [bmc])
  · rw [show t.backlog = _ from answerPub_backlog .., ← stands]
    rfl

/-- R32: with the Miss Hold full a request completes at once, unless it waits for its table. -/
theorem takeUnparked_answer_effect (u : State) (status : Status) (body : CompBody) (eq : u = answerPub p status body (numbered (reserve s))) :
    KeepsAllBut [.backlog, .requests] s u ∧ u.reqs = { s.reqs with nextId := s.reqs.nextId + 1 } ∧ u.bmc = s.bmc ∧
      u.backlog = (s.answered p.ring p.tag p.code status body).backlog := by
  obtain ⟨kept, -⟩ := answerPub_completes p status body (numbered (reserve s))
  rw [eq]
  exact ⟨(keepsAllBut_iff.mpr (by simp [numbered, reserve]) : KeepsAllBut [.backlog, .requests] s (numbered (reserve s))).trans kept (by decide) (by decide),
    kept .requests (by decide), kept .cache (by decide), answerPub_backlog ..⟩

theorem takeUnparked_of_fault (d : ExtentDetail) (u : State) : takeUnparked p (some d) table count u = answerPub p .badExtents (.extents d 0) u := rfl

theorem takeUnparked_of_good {xs : List Extent} (good : p.extents = .good xs) (u : State) : takeUnparked p none table count u = answerPub p .missTimeout .plain u := by
  cases p
  cases good
  rfl

theorem takeUnparked_of_reading (reading : p.extents = .reading) (u : State) : takeUnparked p none table count u =
    addRead (.extents p.id) table (16 * count) (addPub { p with stage := .doomed false } u) := by
  cases p
  cases reading
  rfl

end

theorem ParkedAt.parks {n : Fin 4} {p : Pub} {s t u : State} (h : ParkedAt n p s t) (stage : p.stage = .parked) (cache : u.bmc = t.bmc) (reqs : u.reqs = t.reqs)
    (backlog : u.backlog = t.backlog) :
    (u.reqs.nextId = s.reqs.nextId + 1 ∧ u.reqs.accepts = s.reqs.accepts ∧ u.reqs.batches = s.reqs.batches ∧
      u.bmc.entries = s.bmc.entries ∧ u.bmc.pointer = s.bmc.pointer ∧ u.bmc.recent = s.bmc.recent) ∧
    (∃ w : Parked, vget u.bmc.hold n = some w ∧ w.pub = p ∧ w.order = s.bmc.nextOrder ∧ w.deadline = s.now + s.settingTime 11 ∧
      (w.owed = true ↔ ¬ ParkedElsewhere s n p.key ∧ ¬ s.backlog.entries.length + s.backlog.reservations + 1 < 64)) ∧
    u.bmc.nextOrder = s.bmc.nextOrder + 1 ∧ (∀ m, m ≠ n → vget u.bmc.hold m = vget s.bmc.hold m) ∧ u.reqs.pubs = s.reqs.pubs ∧
    u.backlog.reservations = s.backlog.reservations + 1 ∧ u.backlog.owedList = s.backlog.owedList ∧
    (¬ ParkedElsewhere s n p.key → s.backlog.entries.length + s.backlog.reservations + 1 < 64 →
      u.backlog.entries = s.backlog.entries ++ waitingEntries [.notice (.bucketMiss p.key.tenant p.key.bucket n.val) false]) ∧
    (ParkedElsewhere s n p.key ∨ ¬ s.backlog.entries.length + s.backlog.reservations + 1 < 64 → u.backlog.entries = s.backlog.entries) := by
  obtain ⟨-, reqsT, ⟨w, bmc, pub, order, deadline, owed⟩, given, silent⟩ := h
  have pubW : w.pub = p := by rw [pub, ← stage]
  rw [cache, reqs, backlog, reqsT, bmc]
  refine ⟨⟨rfl, rfl, rfl, rfl, rfl, rfl⟩, ⟨w, vget_vset_self .., pubW, order, deadline, owed⟩, rfl, fun m other => vget_vset_of_ne _ other _, rfl, ?_, ?_,
    fun alone room => ?_, fun no => ?_⟩
  · by_cases yes : MissGiven s n p.key
    · rw [given yes]
    · rw [silent yes]
  · by_cases yes : MissGiven s n p.key
    · rw [given yes]
    · rw [silent yes]
  · rw [given ⟨alone, room⟩]
  · rw [silent fun both => no.elim both.1 fun full => full both.2]

/-- Settles O30: by whether a place is free, and by what the entry and its table ask for. -/
theorem publishAndDeleteThatMiss : Obligations.PublishAndDeleteThatMiss := by
  unfold Obligations.PublishAndDeleteThatMiss
  intro ring s ok numberedAs room missNotice parks
  refine ⟨fun q miss => ?_, fun q miss => ?_⟩
  · let p : Pub := { id := s.reqs.nextId, ring := ring, tag := q.tag, kind := .tombstone, key := q.key, seq := q.seq, contentTag := q.contentTag, size := 0,
                     extents := .good [], stage := .parked }
    have ran : exec (.delete ring q) s = .next (takePub p none 0 0 (reserve s)) := (exec_delete ..).trans (congrArg Host.Outcome.next (taking_of_takeOk ok _))
    refine ⟨fun n lowest => ?_, fun full => ?_⟩
    · have parked := park_effect ok lowest.1 p
      rw [takePub_of_parked (p := p) (s := reserve s) miss lowest, takeParked_of_good (p := p) rfl] at ran
      exact ⟨_, ran, parked.kept, parked.parks rfl rfl rfl rfl⟩
    · rw [takePub_of_unparked (p := p) (s := reserve s) miss full, takeUnparked_of_good (p := p) rfl] at ran
      obtain ⟨kept, reqs, bmc, backlog⟩ := takeUnparked_answer_effect (p := p) _ .missTimeout .plain rfl
      exact ⟨_, ran, kept, by simp [numberedAs, reqs, bmc], by rw [reqs], backlog⟩
  · let taken := fun extents => ({ id := s.reqs.nextId, ring := ring, tag := q.tag, kind := .content, key := q.key, seq := q.seq, contentTag := q.contentTag,
                                   size := q.size.toNat, extents := extents, stage := .parked } : Pub)
    have ran : ∀ extents, (if q.extentCount.toNat = 0 then ExtentStage.good [] else .reading) = extents → exec (.publish ring q) s =
        .next (takePub (taken extents) (entryFault q.extentCount.toNat q.size.toNat) q.table q.extentCount.toNat (reserve s)) := fun extents known => by
      subst known
      exact (exec_publish ..).trans (congrArg Host.Outcome.next (taking_of_takeOk ok _))
    refine ⟨fun n lowest good some_ => ?_, fun n lowest none_ empty => ?_, fun n lowest bad => ?_, fun full => ⟨fun good some_ => ?_, fun none_ empty => ?_, fun bad => ?_⟩⟩
    · have went := ran _ (if_neg (by omega))
      have parked := park_effect ok lowest.1 (taken .reading)
      have adds := addRead_adds (.extents s.reqs.nextId) q.table (16 * q.extentCount.toNat) (park n (taken .reading) (numbered (reserve s)))
      rw [entryFault_eq_none good.1 good.2 (.inl some_), takePub_of_parked (p := taken .reading) (s := reserve s) miss lowest, takeParked_of_reading (p := taken .reading) rfl] at went
      have hme : (park n (taken .reading) (numbered (reserve s))).hme = s.hme := parked.kept .engine (by decide)
      rw [hme] at adds
      exact ⟨_, went, parked.kept.trans adds.1 (by decide) (by decide), (parked.parks rfl rfl rfl rfl).1, (parked.parks rfl rfl rfl rfl).2, adds.2⟩
    · have went := ran _ (if_pos none_)
      have parked := park_effect ok lowest.1 (taken (.good []))
      rw [entryFault_eq_none (by omega) (by omega) (.inr empty), takePub_of_parked (p := taken (.good [])) (s := reserve s) miss lowest, takeParked_of_good (p := taken (.good [])) rfl] at went
      exact ⟨_, went, parked.kept, parked.parks rfl rfl rfl rfl⟩
    · have went := ran _ rfl
      rw [entryFault_eq_some bad, takePub_of_parked (p := taken _) (s := reserve s) miss lowest] at went
      obtain ⟨kept, reqs, gone, ⟨entries, pointer, recent⟩, last⟩ := takeParked_fault_effect (p := taken _) (table := q.table) (count := q.extentCount.toNat) ok lowest.1 _
      exact ⟨_, _, went, kept, by simp [numberedAs, reqs, entries, pointer, recent], by rw [reqs], gone, last, rfl⟩
    · have went := ran _ (if_neg (by omega))
      rw [entryFault_eq_none good.1 good.2 (.inl some_), takePub_of_unparked (p := taken .reading) (s := reserve s) miss full, takeUnparked_of_reading (p := taken .reading) rfl] at went
      exact ⟨_, went, keepsAllBut_iff.mpr (by simp [addPub, numbered, reserve]), ⟨rfl, rfl, rfl, rfl, rfl, rfl⟩, rfl, rfl, rfl⟩
    · have went := ran _ (if_pos none_)
      rw [entryFault_eq_none (by omega) (by omega) (.inr empty), takePub_of_unparked (p := taken (.good [])) (s := reserve s) miss full, takeUnparked_of_good (p := taken (.good [])) rfl] at went
      obtain ⟨kept, reqs, bmc, backlog⟩ := takeUnparked_answer_effect (p := taken (.good [])) _ .missTimeout .plain rfl
      exact ⟨_, went, kept, by simp [numberedAs, reqs, bmc], by rw [reqs], backlog⟩
    · have went := ran _ rfl
      rw [entryFault_eq_some bad, takePub_of_unparked (p := taken _) (s := reserve s) miss full, takeUnparked_of_fault] at went
      obtain ⟨kept, reqs, bmc, backlog⟩ := takeUnparked_answer_effect (p := taken _) _ .badExtents (.extents _ 0) rfl
      exact ⟨_, _, went, kept, by simp [numberedAs, reqs, bmc], by rw [reqs], backlog, rfl⟩

end Sys2Proof.Machine
end

section
/-! PROOFS. Records created: room in a set, the new record, its Work Queues (R13, R14, R64). -/

namespace Sys2Proof.Machine

/-! ## A record in its place -/

theorem find_insertRecord_self {r : Record} {l : List Record} (absent : ∀ q ∈ l, q.key ≠ r.key) : (insertRecord r l).find? (fun q => q.key == r.key) = some r := by
  induction l with
  | nil => exact List.find?_cons_of_pos (by simp)
  | cons q rest ih =>
    rw [insertRecord]
    split
    · exact List.find?_cons_of_pos (by simp)
    · rw [List.find?_cons_of_neg (by simpa using absent q List.mem_cons_self)]
      exact ih fun p hp => absent p (List.mem_cons_of_mem q hp)

theorem find_insertRecord_of_ne {r : Record} {k : Key} (other : k ≠ r.key) (l : List Record) :
    (insertRecord r l).find? (fun q => q.key == k) = l.find? fun q => q.key == k := by
  induction l with
  | nil => exact List.find?_cons_of_neg (by simpa using other.symm)
  | cons q rest ih =>
    rw [insertRecord]
    split
    · exact List.find?_cons_of_neg (by simpa using other.symm)
    · rw [List.find?_cons, List.find?_cons, ih]

theorem addRec_of_none {r : Record} {s : State} (absent : s.table.find r.key = none) :
    addRec r s = s.withTable { s.table with records := insertRecord r s.table.records } := by
  rw [addRec, absent, if_neg (by decide)]

theorem find_addRec_self {r : Record} {s : State} (absent : s.table.find r.key = none) : (addRec r s).table.find r.key = some r := by
  rw [addRec_of_none absent]
  exact find_insertRecord_self (Table.find_eq_none_iff.mp absent)

theorem addRec_otherRecords {r : Record} {s : State} (absent : s.table.find r.key = none) : OtherRecords r.key s (addRec r s) := by
  intro q other
  rw [addRec_of_none absent]
  exact find_insertRecord_of_ne other s.table.records

/-! ## Room in a set (R14, R15) -/

theorem setHasPlace_iff (t : Table) (n : Nat) : t.setHasPlace n = true ↔ (t.inSet n).length < 8 := decide_eq_true_iff

theorem setAble_iff (s : State) (n : Nat) : s.setAble n = true ↔ (s.table.inSet n).length < 8 ∨ s.evictable n ≠ none := by
  rw [State.setAble, Bool.or_eq_true, setHasPlace_iff, Option.isSome_iff_ne_none]

theorem makeRoom_of_place {n : Nat} {s : State} (place : (s.table.inSet n).length < 8) : makeRoom n s = (s, false) := by
  rw [makeRoom, if_pos ((setHasPlace_iff ..).mpr place)]

theorem makeRoom_of_evictable {n : Nat} {s : State} {e : Key} (full : 8 ≤ (s.table.inSet n).length) (evicted : s.evictable n = some e) :
    makeRoom n s = (retire e s, true) := by
  rw [makeRoom, if_neg fun place => absurd ((setHasPlace_iff ..).mp place) full.not_gt, evicted]

theorem find_of_evictable {n : Nat} {s : State} {e : Key} (evicted : s.evictable n = some e) : s.table.find e ≠ none := by
  have chosen := List.find?_some evicted
  rw [Bool.and_eq_true, Option.any_eq_true] at chosen
  obtain ⟨-, r, found, -⟩ := chosen
  rw [found]
  exact Option.some_ne_none r

/-- R13, R14: a new record stands in the table, in the place of an evicted one when its set was full. -/
structure Created (r : Record) (s t : State) : Prop where
  kept : KeepsAllBut [.table] s t
  found : t.table.find r.key = some r
  pressure : t.table.rising = s.table.rising ∧ t.table.lastReported = s.table.lastReported
  beside : (s.table.inSet (setOf r.key)).length < 8 → OtherRecords r.key s t ∧ t.table.linger = s.table.linger
  instead : ∀ e, 8 ≤ (s.table.inSet (setOf r.key)).length → s.evictable (setOf r.key) = some e →
    Retired e s t ∧ ∀ q, q ≠ r.key → q ≠ e → t.table.find q = s.table.find q

theorem created_of_able {r : Record} {s : State} (absent : s.table.find r.key = none)
    (able : (s.table.inSet (setOf r.key)).length < 8 ∨ s.evictable (setOf r.key) ≠ none) : Created r s (addRec r (makeRoom (setOf r.key) s).1) := by
  by_cases place : (s.table.inSet (setOf r.key)).length < 8
  · rw [makeRoom_of_place place]
    exact ⟨keepsAllBut_iff.mpr (by simp), find_addRec_self absent, by rw [addRec_of_none absent]; exact ⟨rfl, rfl⟩,
      fun _ => ⟨addRec_otherRecords absent, by rw [addRec_of_none absent]; rfl⟩, fun e full => absurd place full.not_gt⟩
  · obtain ⟨e, evicted⟩ := Option.ne_none_iff_exists'.mp (able.resolve_left place)
    have other : e ≠ r.key := by
      rintro rfl
      exact find_of_evictable evicted absent
    have absentR : (retire e s).table.find r.key = none := (retire_otherRecords e s r.key other.symm).trans absent
    rw [makeRoom_of_evictable (Nat.not_lt.mp place) evicted]
    refine ⟨keepsAllBut_iff.mpr (by simp), find_addRec_self absentR, by rw [addRec_of_none absentR]; exact ⟨rfl, rfl⟩, fun yes => absurd yes place,
      fun f _ same => ?_⟩
    cases evicted.symm.trans same
    refine ⟨⟨(addRec_otherRecords absentR e other).trans (find_retire_self e s), by rw [addRec_of_none absentR]; rfl⟩, fun q hq he => ?_⟩
    exact (addRec_otherRecords absentR q hq).trans (retire_otherRecords e s q he)

/-! ## The Work Queues of the targets (R64) -/

theorem joinTargets_effect (k : Key) (targets : List Region) (single : targets.Nodup) (s : State) : let t := joinTargets k targets s
    KeepsAllBut [.lists] s t ∧ (∀ x, vget t.sched.work x = vget s.sched.work x ++ if x ∈ targets then [k] else []) ∧
      t.sched.confirm = s.sched.confirm ∧ t.sched.lastServed = s.sched.lastServed := by
  induction targets generalizing s with
  | nil => exact ⟨.refl _ s, fun x => (List.append_nil _).symm, rfl, rfl⟩
  | cons y rest ih =>
    obtain ⟨apart, singleR⟩ := List.nodup_cons.mp single
    obtain ⟨kept, work, confirm, served⟩ := ih singleR (workJoin y k s)
    refine ⟨(keepsAllBut_iff.mpr (by simp [workJoin]) : KeepsAllBut [.lists] s (workJoin y k s)).trans kept (by decide) (by decide), fun x => ?_, confirm, served⟩
    have step : vget (workJoin y k s).sched.work x = if x = y then vget s.sched.work y ++ [k] else vget s.sched.work x := vget_vset ..
    refine (work x).trans ?_
    rw [step]
    by_cases same : x = y
    · subst same
      rw [if_pos rfl, if_neg apart, if_pos List.mem_cons_self, List.append_nil]
    · rw [if_neg same]
      exact congrArg _ (if_congr (by simp [same]) rfl rfl)

end Sys2Proof.Machine
end

section
/-! PROOFS. O33: the Table Controller creates a record. -/

namespace Sys2Proof.Machine

theorem targetSet_nodup (pl : Placement) (n own : Nat) : (targetSet pl n own).Nodup := (List.nodup_finRange 8).filter _

/-- The pressure comparison behind a claim that has so far left the Backlog and the pressure state as they were. -/
theorem pressureCheck_effect {s u : State} (room : RoomKept s u) (backlog : u.backlog = s.backlog) (pressure : u.table.rising = s.table.rising ∧
    u.table.lastReported = s.table.lastReported) : ∃ es, PressureCompared (s.hasRoom 1) es s (pressureCheck u) ∧
      (pressureCheck u).backlog.entries = s.backlog.entries ++ es ∧ (pressureCheck u).backlog.owedList = s.backlog.owedList ∧
      (pressureCheck u).backlog.reservations = s.backlog.reservations := by
  obtain ⟨es, compared, entries, -, -, list, reservations⟩ := pressureCheck_compares u
  rw [room.hasRoom (by rw [backlog]) (by rw [backlog]) (by rw [backlog])] at compared
  exact ⟨es, compared.of_same Iff.rfl pressure.1.symm pressure.2.symm (by rw [backlog]) rfl rfl rfl, by rw [entries, backlog], by rw [list, backlog],
    by rw [reservations, backlog]⟩

/-- A completion behind a pressure comparison. -/
theorem answerPub_compared {s u : State} {es : List BacklogEntry} (p : Pub) (status : Status) (body : CompBody) (compared : PressureCompared (s.hasRoom 1) es s u)
    (entries : u.backlog.entries = s.backlog.entries ++ es) (list : u.backlog.owedList = s.backlog.owedList)
    (reservations : u.backlog.reservations = s.backlog.reservations) : let t := answerPub p status body u
    t.backlog.reservations = s.backlog.reservations - 1 ∧ t.backlog.owedList = s.backlog.owedList ∧
      ∃ es, PressureCompared (s.hasRoom 1) es s t ∧ t.backlog.entries = s.backlog.entries ++ es ++ waitingEntries [p.completion status body] := by
  intro t
  obtain ⟨kept, -⟩ := answerPub_completes p status body u
  have backlog : t.backlog = u.backlog.completing [p.completion status body] := answerPub_backlog ..
  rw [backlog]
  refine ⟨congrArg (· - 1) reservations, list, es, ?_, ?_⟩
  · exact compared.of_same Iff.rfl rfl rfl rfl (kept .table (by decide)) (kept .settings (by decide)) (by rw [backlog]; rfl)
  · show u.backlog.entries ++ _ = _
    rw [entries]

section
variable {p : Pub} {targets : List Region} {s : State}

theorem applyNew_of_full (full : ¬ s.setAble (setOf p.key) = true) : applyNew p targets s = answerPub p .setFull (.setNumber (setOf p.key)) s := by
  rw [applyNew, if_pos (by rw [Bool.not_eq_true] at full; rw [full]; rfl)]

theorem applyNew_of_noTargets (able : s.setAble (setOf p.key) = true) (none : targets = []) : applyNew p targets s = noTargets p s := by
  rw [applyNew, if_neg (by rw [able]; decide), none]
  rfl

/-- R54, R58: the state before the pressure comparison. -/
def createdBy (p : Pub) (targets : List Region) (s : State) : State :=
  joinTargets p.key targets (addRec (newRecord p.key (s.contentOf p) .localRole .opened targets) (makeRoom (setOf p.key) s).1)

theorem applyNew_of_able (able : s.setAble (setOf p.key) = true) (some_ : targets ≠ []) : applyNew p targets s =
    answerPub p .ok (.stored (s.versionOf p) .opened (regionMask targets) true false (makeRoom (setOf p.key) s).2 none) (pressureCheck (createdBy p targets s)) := by
  rw [applyNew, if_neg (by rw [able]; decide), if_neg (by rwa [List.isEmpty_iff])]
  rfl

/-- R54, R13, R14, R58: the record is created. -/
theorem applyNew_effect (absent : s.table.find p.key = none) (able : (s.table.inSet (setOf p.key)).length < 8 ∨ s.evictable (setOf p.key) ≠ none)
    (some_ : targets ≠ []) (single : targets.Nodup) : let t := applyNew p targets s
    let r := newRecord p.key (s.contentOf p) .localRole .opened targets
    KeepsAllBut [.backlog, .table, .lists] s t ∧ t.table.find p.key = some r ∧
      (∀ x, vget t.sched.work x = if x ∈ targets then vget s.sched.work x ++ [p.key] else vget s.sched.work x) ∧
      t.sched.confirm = s.sched.confirm ∧ t.sched.lastServed = s.sched.lastServed ∧
      (t.backlog.reservations = s.backlog.reservations - 1 ∧ t.backlog.owedList = s.backlog.owedList ∧
        ∃ es, PressureCompared (s.hasRoom 1) es s t ∧ t.backlog.entries = s.backlog.entries ++ es ++
          waitingEntries [p.completion .ok (.stored (s.versionOf p) .opened (regionMask targets) true false (makeRoom (setOf p.key) s).2 none)]) ∧
      ((s.table.inSet (setOf p.key)).length < 8 → OtherRecords p.key s t ∧ t.table.linger = s.table.linger) ∧
      ∀ e, 8 ≤ (s.table.inSet (setOf p.key)).length → s.evictable (setOf p.key) = some e →
        Retired e s t ∧ ∀ q, q ≠ p.key → q ≠ e → t.table.find q = s.table.find q := by
  intro t r
  let c := addRec r (makeRoom (setOf p.key) s).1
  let u := createdBy p targets s
  have eq : t = _ := applyNew_of_able ((setAble_iff ..).mpr able) some_
  have created : Created r s c := created_of_able absent able
  obtain ⟨keptJ, work, confirm, served⟩ := joinTargets_effect p.key targets single c
  have keptU : KeepsAllBut [.table, .lists] s u := created.kept.trans keptJ (by decide) (by decide)
  have tableU : u.table = c.table := keptJ .table (by decide)
  have keptP : KeepsAllBut [.table, .backlog] u (pressureCheck u) := keepsAllBut_iff.mpr (by simp)
  obtain ⟨es, compared, entries, list, reservations⟩ := pressureCheck_effect (u := u) (.of_keeps keptU) (keptU .backlog (by decide))
    (by rw [tableU]; exact created.pressure)
  obtain ⟨keptA, -⟩ := answerPub_completes p .ok (.stored (s.versionOf p) .opened (regionMask targets) true false (makeRoom (setOf p.key) s).2 none) (pressureCheck u)
  rw [← eq] at keptA
  have find : ∀ q, t.table.find q = c.table.find q := fun q => by
    rw [show t.table = (pressureCheck u).table from keptA .table (by decide), find_pressureCheck, tableU]
  have linger : t.table.linger = c.table.linger := by
    rw [show t.table = (pressureCheck u).table from keptA .table (by decide), (pressureCheck_table u).2, tableU]
  have lists : t.sched = u.sched := (keptA .lists (by decide) : t.sched = (pressureCheck u).sched).trans (keptP .lists (by decide))
  have sched : c.sched = s.sched := created.kept .lists (by decide)
  refine ⟨(keptU.trans (zs := [.backlog, .table, .lists]) keptP (by decide) (by decide)).trans keptA (by decide) (by decide), (find p.key).trans created.found,
    fun x => ?_, ?_, ?_, ?_, fun place => ?_, fun e full evicted => ?_⟩
  · rw [lists]
    refine (work x).trans ?_
    rw [sched]
    by_cases target : x ∈ targets
    · rw [if_pos target, if_pos target]
    · rw [if_neg target, if_neg target, List.append_nil]
  · rw [lists]
    exact confirm.trans (by rw [sched])
  · rw [lists]
    exact served.trans (by rw [sched])
  · rw [eq]
    exact answerPub_compared p _ _ compared entries list reservations
  · obtain ⟨others, same⟩ := created.beside place
    exact ⟨fun q hq => (find q).trans (others q hq), linger.trans same⟩
  · obtain ⟨⟨gone, lingerE⟩, others⟩ := created.instead e full evicted
    exact ⟨⟨(find e).trans gone, linger.trans lingerE⟩, fun q hq he => (find q).trans (others q hq he)⟩

end

theorem exec_apply {id : Nat} {p : Pub} {pl : Placement} {s : State} (running : s.running = true) (found : (s.reqs.pubs.find? fun p => p.id == id) = some p)
    (stage : p.stage = .ready pl) : exec (.tableControllerApply id) s = .next (applyPub p pl (dropPub id s)) := by
  have same := id_of_find found
  show execTableControllerApply id s = _
  rw [execTableControllerApply, found]
  dsimp only
  rw [stage]
  dsimp only
  rw [if_pos running, same]

theorem applyPub_of_none {p : Pub} {s : State} (absent : s.table.find p.key = none) (pl : Placement) (id : Nat) :
    applyPub p pl (dropPub id s) = applyNew p (targetSet pl s.regionCount s.ownIndex) (dropPub id s) := by
  rw [applyPub, show (dropPub id s).table.find p.key = none from absent]
  rfl

/-- R58: a claim of the Table Controller that only completes. -/
theorem applyAnswer_effect {p : Pub} {id : Nat} {s : State} (status : Status) (body : CompBody) : let t := answerPub p status body (dropPub id s)
    KeepsAllBut [.backlog, .requests] s t ∧ t.reqs.pubs = (s.reqs.pubs.filter fun u => u.id != id) ∧ Completed p.ring p.tag p.code status body s t := by
  intro t
  obtain ⟨kept, completed⟩ := answerPub_completes p status body (dropPub id s)
  have keptD : KeepsAllBut [.requests] s (dropPub id s) := keepsAllBut_iff.mpr (by simp [dropPub])
  exact ⟨keptD.trans kept (by decide) (by decide), congrArg Requests.pubs (kept .requests (by decide)), completed⟩

theorem contentOf_extents {p : Pub} {xs : List Extent} (good : p.extents = .good xs) (s : State) : (s.contentOf p).extents = xs := by
  rw [State.contentOf, good]

theorem vget_targetSlots (targets : List Region) (x : Region) :
    vget (targetSlots targets) x = { state := if x ∈ targets then .pending else .notTarget, retries := 0, ctx := none, reason := none } := by
  rw [targetSlots, vget_ofFn]
  by_cases target : x ∈ targets
  · rw [if_pos (by simpa using target), if_pos target]
    rfl
  · rw [if_neg (by simpa using target), if_neg target]
    rfl

/-- Settles O33: by the room of the key's set and the target set. -/
theorem applyCreatesARecord : Obligations.ApplyCreatesARecord := by
  unfold Obligations.ApplyCreatesARecord
  intro id p pl s running found stage absent v targets n gone slot created kept
  have ran := exec_apply running found stage
  rw [applyPub_of_none absent] at ran
  let d := dropPub id s
  have keptD : KeepsAllBut [.requests] s d := keepsAllBut_iff.mpr (by simp [d, dropPub])
  have creates : targets ≠ [] → (s.table.inSet n).length < 8 ∨ s.evictable n ≠ none → ∀ evicted, (makeRoom n d).2 = evicted →
      kept (applyNew p targets d) ∧ created (applyNew p targets d) evicted := fun some_ able evicted flag => by
    obtain ⟨keptA, record, work, confirm, served, ⟨reservations, list, es, compared, entries⟩, -, -⟩ := applyNew_effect (s := d) absent able some_ (targetSet_nodup ..)
    subst flag
    refine ⟨keptD.trans keptA (by decide) (by decide), ⟨_, record, rfl, rfl, rfl, rfl, rfl, rfl, rfl, rfl, rfl, fun x => vget_targetSlots targets x,
      fun xs good => contentOf_extents good d, rfl, rfl, rfl⟩, work, confirm, served, congrArg Requests.pubs (keptA .requests (by decide)), reservations, list, es,
      compared, entries⟩
  refine ⟨fun place some_ => ?_, fun e full evicted some_ => ?_, fun full none => ?_, fun able none => ?_⟩
  · obtain ⟨keptT, createdT⟩ := creates some_ (.inl place) false (by rw [makeRoom_of_place (s := d) place])
    obtain ⟨-, -, -, -, -, -, beside, -⟩ := applyNew_effect (s := d) absent (.inl place) some_ (targetSet_nodup ..)
    obtain ⟨others, linger⟩ := beside place
    exact ⟨_, ran, keptT, createdT, others, linger⟩
  · have able : s.evictable n ≠ none := by rw [evicted]; exact Option.some_ne_none e
    obtain ⟨keptT, createdT⟩ := creates some_ (.inr able) true (by rw [makeRoom_of_evictable (s := d) full evicted])
    obtain ⟨-, -, -, -, -, -, -, instead⟩ := applyNew_effect (s := d) absent (.inr able) some_ (targetSet_nodup ..)
    obtain ⟨retired, others⟩ := instead e full evicted
    exact ⟨_, ran, keptT, createdT, retired, others⟩
  · rw [applyNew_of_full (s := d) fun yes => ((setAble_iff d n).mp yes).elim (fun place => absurd place full.not_gt) fun some_ => some_ none] at ran
    exact ⟨_, ran, applyAnswer_effect ..⟩
  · rw [applyNew_of_noTargets (s := d) ((setAble_iff d n).mpr able) none] at ran
    exact ⟨_, ran, applyAnswer_effect ..⟩

end Sys2Proof.Machine
end

section
/-! PROOFS. Supersede: the outbound contexts of a record end, each with its WITHDRAW (R16 step 1). -/

namespace Sys2Proof.Machine

/-! ## The end of an outbound context, whatever record it serves -/

theorem endOutbound_of_not_out {c : CtxNo} {s : State} (none : ∀ o, s.ctx c ≠ .out o) : endOutbound c s = s := by
  rw [endOutbound]
  cases bound : s.ctx c with
  | out o => exact absurd bound (none o)
  | free => rfl
  | inb i => rfl

theorem endOutbound_cases {c : CtxNo} {o : OutCtx} {s : State} (bound : s.ctx c = .out o) :
    endOutbound c s = setCtx c (endedCtx c o s) (loseGrant c (dropReads c s)) ∨
      endOutbound c s = retireIfDue o.key (setCtx c (endedCtx c o s) (loseGrant c (dropReads c s))) := by
  rw [endOutbound_eq bound, endedCtx]
  split
  · exact .inl rfl
  · exact .inr rfl

theorem endOutbound_step {c : CtxNo} {o : OutCtx} {s : State} (bound : s.ctx c = .out o) : let t := endOutbound c s
    KeepsAllBut [.contexts, .port, .engine, .table] s t ∧ t.ctx c = endedCtx c o s ∧ OtherContexts c s t ∧
      t.wan = { s.wan with holder := if s.wan.holder = some c then none else s.wan.holder } ∧
      (∀ op, op ∈ t.hme.ops ↔ op ∈ s.hme.ops ∧ ¬ (op.use.readsFor c = true ∧ op.untouched = true)) ∧
      OtherRecords o.key s t ∧ t.table.rising = s.table.rising ∧ t.table.lastReported = s.table.lastReported ∧
      ((∀ r, s.table.find o.key = some r → r.state ≠ .settled) → t.table = s.table) := by
  intro t
  let u := setCtx c (endedCtx c o s) (loseGrant c (dropReads c s))
  have keptU : KeepsAllBut [.contexts, .port, .engine] s u := keepsAllBut_iff.mpr (by simp [u, dropReads])
  have tableU : u.table = s.table := keptU .table (by decide)
  have poolL : (loseGrant c (dropReads c s)).pool = s.pool := by simp [dropReads]
  have othersU : OtherContexts c s u := fun d hd => (setCtx_otherContexts c _ (loseGrant c (dropReads c s)) d hd).trans (ctx_congr poolL d)
  have wanU : u.wan = { s.wan with holder := if s.wan.holder = some c then none else s.wan.holder } := loseGrant_wan c (dropReads c s)
  have opsU : ∀ op, op ∈ u.hme.ops ↔ op ∈ s.hme.ops ∧ ¬ (op.use.readsFor c = true ∧ op.untouched = true) := fun op => by
    simpa [u] using mem_dropReads c s op
  rcases endOutbound_cases bound with same | retired
  · have eq : t = u := same
    rw [eq]
    exact ⟨keptU.weaken (by decide), ctx_setCtx_self .., othersU, wanU, opsU, fun q _ => by rw [tableU], by rw [tableU], by rw [tableU], fun _ => tableU⟩
  · have eq : t = retireIfDue o.key u := retired
    obtain ⟨rising, reported, -⟩ := retireIfDue_pressure o.key u
    have keptR : KeepsAllBut [.table] u (retireIfDue o.key u) := keepsAllBut_iff.mpr (by simp)
    have pool : (retireIfDue o.key u).pool = u.pool := keptR .contexts (by decide)
    rw [eq]
    refine ⟨keptU.trans keptR (by decide) (by decide), (ctx_congr pool c).trans (ctx_setCtx_self ..), fun d hd => (ctx_congr pool d).trans (othersU d hd),
      (keptR .port (by decide) : _ = u.wan).trans wanU, fun op => ?_, fun q hq => ?_, rising.trans (by rw [tableU]), reported.trans (by rw [tableU]), fun unsettled => ?_⟩
    · rw [show (retireIfDue o.key u).hme = u.hme from keptR .engine (by decide)]
      exact opsU op
    · rw [retireIfDue_otherRecords o.key u q hq, tableU]
    · rw [retireIfDue_of_not_settled fun r hr => unsettled r (by rw [← tableU]; exact hr), tableU]

theorem endOutbound_queue (c : CtxNo) (s : State) : (endOutbound c s).wan.queue = s.wan.queue := by
  by_cases out : ∃ o, s.ctx c = .out o
  · obtain ⟨o, bound⟩ := out
    obtain ⟨-, -, -, wan, -⟩ := endOutbound_step bound
    rw [wan]
  · rw [endOutbound_of_not_out fun o bound => out ⟨o, bound⟩]

theorem readsFor_segRead (c d : CtxNo) (b : Fin 2) : (OpUse.segRead d b).readsFor c = true ↔ d = c := by
  simp [OpUse.readsFor]

theorem endedCtx_congr {c : CtxNo} {o : OutCtx} {s w : State} (same : ∀ b, readUntouched c w b = readUntouched c s b) : endedCtx c o w = endedCtx c o s := by
  unfold endedCtx endedBufs
  rw [same 0, same 1]

theorem endedBuf_endedBuf (dropped : Bool) (b : Buf) : endedBuf false (endedBuf dropped b) = endedBuf dropped b := by
  cases b with
  | reading ch g d => cases dropped <;> rfl
  | free => rfl
  | unfolded ch g bs => rfl
  | ready ch g bs k => rfl

/-- A context that has ended ends no further. -/
theorem endedCtx_endedCtx {c : CtxNo} {o e : OutCtx} {s w : State} (ended : endedCtx c o s = .out e) (none : ∀ b, readUntouched c w b = false) :
    endedCtx c e w = .out e := by
  rw [endedCtx] at ended
  split at ended
  · rename_i reading
    cases ended
    have bufs : endedBufs c { o with state := .aborting, timer := Option.none, bufs := endedBufs c o s } w = endedBufs c o s := by
      rw [endedBufs, none, none]
      dsimp only
      rw [vget_endedBufs, vget_endedBufs, endedBuf_endedBuf, endedBuf_endedBuf]
      rfl
    rw [endedCtx, bufs]
    exact if_pos reading
  · cases ended

/-! ## One region after the other -/

/-- R16 step 1: the context is bound to a slot of one of the regions, outbound. -/
def EndedBy (r : Record) (l : List Region) (s : State) (c : CtxNo) (o : OutCtx) : Prop := (∃ x ∈ l, (vget r.slots x).ctx = some c) ∧ s.ctx c = .out o

/-- R16 step 1: the WITHDRAW frames for the slots of the regions. -/
def withdrawsOf (r : Record) (l : List Region) : List CtlFrame :=
  (l.filter fun x => (vget r.slots x).ctx.isSome).map fun x => { dest := x, body := .withdraw r.key r.version }

/-- R16 step 1, for the slots of the regions. -/
def withdrawSlot (r : Record) (s : State) (x : Region) : State := match (vget r.slots x).ctx with
  | some c => sendCtl x (.withdraw r.key r.version) (endOutbound c s)
  | none => s

/-- R16 step 1: the contexts of the regions' slots have ended. -/
structure SlotsEnded (r : Record) (l : List Region) (s w : State) : Prop where
  kept : KeepsAllBut [.contexts, .port, .engine, .table] s w
  record : w.table.find r.key = some r
  pressure : w.table.rising = s.table.rising ∧ w.table.lastReported = s.table.lastReported
  table : (∀ c o, EndedBy r l s c o → o.key = r.key) → w.table = s.table
  port : w.wan = { s.wan with queue := w.wan.queue, holder := w.wan.holder }
  holder : w.wan.holder = s.wan.holder ∨ w.wan.holder = none
  lost : ∀ c o, EndedBy r l s c o → w.wan.holder ≠ some c
  grant : (∀ c o, EndedBy r l s c o → s.wan.holder ≠ some c) → w.wan.holder = s.wan.holder
  ended : ∀ c o, EndedBy r l s c o → w.ctx c = endedCtx c o s
  others : ∀ c, (∀ o, ¬ EndedBy r l s c o) → w.ctx c = s.ctx c
  ops : ∀ op, op ∈ w.hme.ops ↔ op ∈ s.hme.ops ∧ ¬ ∃ c o, EndedBy r l s c o ∧ op.use.readsFor c = true ∧ op.untouched = true

theorem SlotsEnded.nil {r : Record} {s : State} (found : s.table.find r.key = some r) : SlotsEnded r [] s s where
  kept := .refl _ s
  record := found
  pressure := ⟨rfl, rfl⟩
  table := fun _ => rfl
  port := rfl
  holder := .inl rfl
  lost := fun _ _ ⟨⟨_, mem, _⟩, _⟩ => absurd mem List.not_mem_nil
  grant := fun _ => rfl
  ended := fun _ _ ⟨⟨_, mem, _⟩, _⟩ => absurd mem List.not_mem_nil
  others := fun _ _ => rfl
  ops := fun _ => ⟨fun mem => ⟨mem, fun ⟨_, _, ⟨⟨_, inNil, _⟩, _⟩, _⟩ => absurd inNil List.not_mem_nil⟩, fun both => both.1⟩

section
variable {r : Record} {l m : List Region} {x : Region} {s w : State}

theorem endedBy_append_iff {c : CtxNo} {o : OutCtx} : EndedBy r (l ++ [x]) s c o ↔ EndedBy r l s c o ∨ ((vget r.slots x).ctx = some c ∧ s.ctx c = .out o) := by
  unfold EndedBy
  constructor
  · rintro ⟨⟨y, mem, bound⟩, out⟩
    rcases List.mem_append.mp mem with before | last
    · exact .inl ⟨⟨y, before, bound⟩, out⟩
    · rw [List.mem_singleton.mp last] at bound
      exact .inr ⟨bound, out⟩
  · rintro (⟨⟨y, mem, bound⟩, out⟩ | ⟨bound, out⟩)
    · exact ⟨⟨y, List.mem_append_left _ mem, bound⟩, out⟩
    · exact ⟨⟨x, List.mem_append_right _ (List.mem_singleton_self x), bound⟩, out⟩

theorem SlotsEnded.congr (h : SlotsEnded r l s w) (same : ∀ c o, EndedBy r m s c o ↔ EndedBy r l s c o) : SlotsEnded r m s w := by
  obtain ⟨kept, record, pressure, table, port, holder, lost, grant, ended, others, ops⟩ := h
  simp only [← same] at table lost grant ended others ops
  exact ⟨kept, record, pressure, table, port, holder, lost, grant, ended, others, ops⟩

/-- Of a context that has not ended the reads are as they were; of one that has, none is left with no burst issued. -/
theorem SlotsEnded.readUntouched_of_not (h : SlotsEnded r l s w) {c : CtxNo} (not : ∀ o, ¬ EndedBy r l s c o) (b : Fin 2) :
    readUntouched c w b = readUntouched c s b := by
  rw [Bool.eq_iff_iff, readUntouched_iff, readUntouched_iff]
  refine exists_congr fun op => ⟨fun ⟨mem, use, untouched⟩ => ⟨((h.ops op).mp mem).1, use, untouched⟩, fun ⟨mem, use, untouched⟩ =>
    ⟨(h.ops op).mpr ⟨mem, fun ⟨d, o, ended, reads, _⟩ => ?_⟩, use, untouched⟩⟩
  rw [use, readsFor_segRead] at reads
  subst reads
  exact not o ended

theorem SlotsEnded.readUntouched_of_ended (h : SlotsEnded r l s w) {c : CtxNo} {o : OutCtx} (ended : EndedBy r l s c o) (b : Fin 2) : readUntouched c w b = false := by
  rw [← Bool.not_eq_true, readUntouched_iff]
  rintro ⟨op, mem, use, untouched⟩
  exact ((h.ops op).mp mem).2 ⟨c, o, ended, by rw [use, readsFor_segRead], untouched⟩

/-- The end of the context of one more slot; `e` is what the context is by then. -/
theorem SlotsEnded.step (h : SlotsEnded r l s w) {c : CtxNo} {o e : OutCtx} (bound : (vget r.slots x).ctx = some c) (out : s.ctx c = .out o) (now : w.ctx c = .out e)
    (key : e.key = o.key) (same : endedCtx c e w = endedCtx c o s) (unsettled : r.state ≠ .settled) : SlotsEnded r (l ++ [x]) s (endOutbound c w) := by
  obtain ⟨keptT, ctx, contexts, wan, opsT, otherRecords, rising, reported, tableT⟩ := endOutbound_step now
  obtain ⟨kept, record, pressure, table, port, holder, lost, grant, ended, others, ops⟩ := h
  have added : ∀ d q, EndedBy r (l ++ [x]) s d q ↔ EndedBy r l s d q ∨ (d = c ∧ q = o) := fun d q => by
    rw [endedBy_append_iff, bound]
    refine or_congr_right ⟨fun ⟨same, here⟩ => ?_, fun ⟨same, here⟩ => ?_⟩
    · cases same
      cases out.symm.trans here
      exact ⟨rfl, rfl⟩
    · subst same here
      exact ⟨rfl, out⟩
  have holderT : (endOutbound c w).wan.holder = if w.wan.holder = some c then none else w.wan.holder := by rw [wan]
  refine ⟨kept.trans keptT (by decide) (by decide), ?_, ⟨rising.trans pressure.1, reported.trans pressure.2⟩, fun keys => ?_, ?_, ?_, fun d q mine => ?_, fun free => ?_,
    fun d q mine => ?_, fun d none => ?_, fun op => ?_⟩
  · by_cases mine : e.key = r.key
    · rw [tableT fun q found => by rw [mine, record] at found; cases found; exact unsettled]
      exact record
    · exact (otherRecords r.key (Ne.symm mine)).trans record
  · have mine : e.key = r.key := key.trans (keys c o ((added c o).mpr (.inr ⟨rfl, rfl⟩)))
    rw [tableT fun q found => by rw [mine, record] at found; cases found; exact unsettled]
    exact table fun d q before => keys d q ((added d q).mpr (.inl before))
  · rw [wan, port]
  · rw [holderT]
    split
    · exact .inr rfl
    · exact holder
  · rw [holderT]
    split
    · exact (Option.some_ne_none d).symm
    · rename_i kept
      rcases (added d q).mp mine with before | ⟨rfl, rfl⟩
      · exact lost d q before
      · exact kept
  · have before := grant fun d q mine => free d q ((added d q).mpr (.inl mine))
    rw [holderT, before, if_neg (free c o ((added c o).mpr (.inr ⟨rfl, rfl⟩)))]
  · rcases (added d q).mp mine with before | ⟨rfl, rfl⟩
    · by_cases here : d = c
      · subst here
        cases out.symm.trans before.2
        exact ctx.trans same
      · exact (contexts d here).trans (ended d q before)
    · exact ctx.trans same
  · have here : d ≠ c := fun same => none o ((added d o).mpr (.inr ⟨same, rfl⟩))
    exact (contexts d here).trans (others d fun q before => none q ((added d q).mpr (.inl before)))
  · rw [opsT, ops, and_assoc]
    refine and_congr_right fun _ => ?_
    rw [← not_or, not_iff_not]
    constructor
    · rintro (⟨d, q, before, reads⟩ | reads)
      · exact ⟨d, q, (added d q).mpr (.inl before), reads⟩
      · exact ⟨c, o, (added c o).mpr (.inr ⟨rfl, rfl⟩), reads⟩
    · rintro ⟨d, q, mine, reads⟩
      rcases (added d q).mp mine with before | ⟨rfl, rfl⟩
      · exact .inl ⟨d, q, before, reads⟩
      · exact .inr reads

/-- R16 step 1: the context of one more slot ends, which may have ended already. -/
theorem SlotsEnded.ends (h : SlotsEnded r l s w) {c : CtxNo} (bound : (vget r.slots x).ctx = some c) (unsettled : r.state ≠ .settled) :
    SlotsEnded r (l ++ [x]) s (endOutbound c w) := by
  have unchanged : (∀ o, EndedBy r (l ++ [x]) s c o → EndedBy r l s c o) → (∀ o, w.ctx c ≠ .out o) → SlotsEnded r (l ++ [x]) s (endOutbound c w) := fun already none => by
    rw [endOutbound_of_not_out none]
    refine h.congr fun d q => ⟨fun mine => ?_, fun before => endedBy_append_iff.mpr (.inl before)⟩
    rcases endedBy_append_iff.mp mine with before | ⟨here, _⟩
    · exact before
    · cases bound.symm.trans here
      exact already q mine
  by_cases out : ∃ o, s.ctx c = .out o
  · obtain ⟨o, out⟩ := out
    by_cases done : EndedBy r l s c o
    · have now := h.ended c o done
      cases ended : endedCtx c o s with
      | free => exact unchanged (fun q mine => by cases out.symm.trans mine.2; exact done) fun e => by rw [now, ended]; exact Ctx.noConfusion
      | inb i => exact unchanged (fun q mine => by cases out.symm.trans mine.2; exact done) fun e => by rw [now, ended]; exact Ctx.noConfusion
      | out e =>
        refine h.step bound out (now.trans ended) ?_ ((endedCtx_endedCtx ended (h.readUntouched_of_ended done)).trans ended.symm) unsettled
        rw [endedCtx] at ended
        split at ended
        · cases ended
          rfl
        · cases ended
    · have none : ∀ q, ¬ EndedBy r l s c q := fun q mine => by
        cases out.symm.trans mine.2
        exact done mine
      exact h.step bound out ((h.others c none).trans out) rfl (endedCtx_congr (h.readUntouched_of_not none)) unsettled
  · have none : ∀ q, ¬ EndedBy r l s c q := fun q mine => out ⟨q, mine.2⟩
    exact unchanged (fun q mine => absurd ⟨q, mine.2⟩ out) fun q now => out ⟨q, (h.others c none).symm.trans now⟩

theorem SlotsEnded.sendCtl (h : SlotsEnded r l s w) (y : Region) (b : CtlBody) : SlotsEnded r l s (sendCtl y b w) := by
  obtain ⟨kept, record, pressure, table, port, holder, lost, grant, ended, others, ops⟩ := h
  have keptC : KeepsAllBut [.port] w (Machine.sendCtl y b w) := keepsAllBut_iff.mpr (by simp)
  have wan := sendCtl_wan y b w
  have same : (Machine.sendCtl y b w).wan.holder = w.wan.holder := by rw [wan]
  have tableC : (Machine.sendCtl y b w).table = w.table := keptC .table (by decide)
  have hmeC : (Machine.sendCtl y b w).hme = w.hme := keptC .engine (by decide)
  have ctxC := ctx_congr (s := w) (t := Machine.sendCtl y b w) (keptC .contexts (by decide))
  refine ⟨kept.trans keptC (by decide) (by decide), by rw [tableC]; exact record, by rw [tableC]; exact pressure, by rw [tableC]; exact table, ?_,
    by rw [same]; exact holder, by rw [same]; exact lost, by rw [same]; exact grant, fun c o mine => (ctxC c).trans (ended c o mine),
    fun c none => (ctxC c).trans (others c none), by rw [hmeC]; exact ops⟩
  rw [wan, port]

end

/-! ## The WITHDRAW frames (R16, R162) -/

theorem withdrawsOf_append (r : Record) (l m : List Region) : withdrawsOf r (l ++ m) = withdrawsOf r l ++ withdrawsOf r m := by
  rw [withdrawsOf, List.filter_append, List.map_append]
  rfl

theorem withdrawAll_eq (r : Record) (s : State) : withdrawAll r s = (List.finRange 8).foldl (withdrawSlot r) s := by
  rw [withdrawAll]
  refine congrFun (congrFun (congrArg _ ?_) _) _
  funext t x
  unfold withdrawSlot
  cases (vget r.slots x).ctx <;> rfl

theorem withdrawSlots_effect {r : Record} {s : State} (found : s.table.find r.key = some r) (rest : r.state = .settled → ∀ x, (vget r.slots x).ctx = none)
    (l : List Region) : SlotsEnded r l s (l.foldl (withdrawSlot r) s) ∧ FramesSent (withdrawsOf r l) s (l.foldl (withdrawSlot r) s) := by
  induction l using List.reverseRecOn with
  | nil => exact ⟨.nil found, .nil s⟩
  | append_singleton l x ih =>
    obtain ⟨ended, frames⟩ := ih
    rw [List.foldl_append, List.foldl_cons, List.foldl_nil, withdrawsOf_append]
    cases bound : (vget r.slots x).ctx with
    | none =>
      rw [withdrawSlot, bound, show withdrawsOf r [x] = [] by simp [withdrawsOf, bound], List.append_nil]
      exact ⟨ended.congr fun c o => endedBy_append_iff.trans (or_iff_left fun mine => by rw [bound] at mine; cases mine.1), frames⟩
    | some c =>
      have unsettled : r.state ≠ .settled := fun settled => by
        rw [rest settled x] at bound
        cases bound
      have step := ended.ends bound unsettled
      rw [withdrawSlot, bound, show withdrawsOf r [x] = [{ dest := x, body := .withdraw r.key r.version }] by simp [withdrawsOf, bound]]
      have sent : FramesSent (withdrawsOf r l) s (endOutbound c (l.foldl (withdrawSlot r) s)) := by
        unfold FramesSent at frames ⊢
        rw [endOutbound_queue, frames]
      exact ⟨step.sendCtl .., sent.append (sendCtl_framesSent ..) (step.kept .regions (by decide)) (by rw [step.port])⟩

theorem withdrawsOf_length (r : Record) : (withdrawsOf r (List.finRange 8)).length ≤ 8 := by
  rw [withdrawsOf, List.length_map]
  exact (List.length_filter_le _ _).trans (by rw [List.length_finRange])

theorem mem_withdrawsOf {r : Record} {x : Region} {c : CtxNo} (bound : (vget r.slots x).ctx = some c) :
    { dest := x, body := .withdraw r.key r.version } ∈ withdrawsOf r (List.finRange 8) :=
  List.mem_map.mpr ⟨x, List.mem_filter.mpr ⟨List.mem_finRange x, by rw [bound]; rfl⟩, rfl⟩

theorem endedBy_all_iff {r : Record} {s : State} {c : CtxNo} {o : OutCtx} : EndedBy r (List.finRange 8) s c o ↔ BoundOut s r c o :=
  and_congr_left' (exists_congr fun x => and_iff_right (List.mem_finRange x))

end Sys2Proof.Machine
end

section
/-! PROOFS. Supersede: the inbound context is cancelled with drain (R16 step 2, R134). -/

namespace Sys2Proof.Machine

/-! ## A notice on a record, seen from any record -/

/-- The record of the key keeps its fields but for its inbound field and what is owed of it, and stays owed. -/
def RecordOnly (r : Record) (t : State) : Prop :=
  ∃ q, t.table.find r.key = some q ∧ Record.sameBody { r with inbound := q.inbound } q ∧ (r.owed = true → q.owed = true)

/-- Entries joined the Backlog's tail, and no reservation changed. -/
def OnlyPlaces (s t : State) : Prop := t.backlog.reservations = s.backlog.reservations ∧ ∃ more, t.backlog.entries = s.backlog.entries ++ more

theorem OnlyPlaces.refl (s : State) : OnlyPlaces s s := ⟨rfl, [], (List.append_nil _).symm⟩

theorem OnlyPlaces.trans {s t u : State} (h : OnlyPlaces s t) (g : OnlyPlaces t u) : OnlyPlaces s u := by
  obtain ⟨reservations, more, entries⟩ := h
  obtain ⟨reservationsG, moreG, entriesG⟩ := g
  exact ⟨reservationsG.trans reservations, more ++ moreG, by rw [entriesG, entries, List.append_assoc]⟩

theorem OnlyPlaces.of_backlog {s t : State} (same : t.backlog = s.backlog) : OnlyPlaces s t := by
  unfold OnlyPlaces
  rw [same]
  exact ⟨rfl, [], (List.append_nil _).symm⟩

theorem oweRecord_places (k : Key) (cancel : Option (Version × CancelReason)) (s : State) : OnlyPlaces s (oweRecord k cancel s) := by
  cases found : s.table.find k with
  | none => rw [oweRecord, found, if_neg (by decide)]; exact .refl s
  | some r => exact ⟨by rw [oweRecord_owedList found], [], by rw [oweRecord_owedList found, List.append_nil]⟩

theorem emitRecord_places (k : Key) (n : Notice) (s : State) : OnlyPlaces s (emitRecord k n s) := by
  by_cases room : s.hasRoom n.length
  · rw [emitRecord_of_fits room]
    exact ⟨rfl, _, rfl⟩
  · rw [emitRecord_of_not_fits room]
    exact oweRecord_places ..

/-- A notice on a record leaves every record's fields, and leaves owed what is owed. -/
theorem emitRecord_recordOnly {r : Record} {s : State} (h : RecordOnly r s) (k : Key) (n : Notice) : RecordOnly r (emitRecord k n s) := by
  obtain ⟨q, found, body, owed⟩ := h
  by_cases same : k = r.key
  · subst same
    obtain ⟨p, stands, bodyP, whole, owes⟩ := emitRecord_record found n
    have fieldsP : ({ p with owed := q.owed, owedCancel := q.owedCancel } : Record) = q := bodyP
    have inbound : p.inbound = q.inbound := (congrArg Record.inbound fieldsP :)
    refine ⟨p, stands, ?_, fun was => ?_⟩
    · unfold Record.sameBody at body bodyP ⊢
      rw [inbound, ← body]
      rw [← bodyP]
    · by_cases room : s.hasRoom n.length
      · rw [whole room]
        exact owed was
      · exact owes room
  · exact ⟨q, (emitRecord_otherRecords k n s r.key (Ne.symm same)).trans found, body, owed⟩

theorem RecordOnly.of_find {r : Record} {s t : State} (h : RecordOnly r s) (same : t.table.find r.key = s.table.find r.key) : RecordOnly r t := by
  obtain ⟨q, found, rest⟩ := h
  exact ⟨q, same.trans found, rest⟩

theorem RecordOnly.self {r : Record} {s : State} (found : s.table.find r.key = some r) : RecordOnly r s := ⟨r, found, rfl, id⟩

/-- R85: whatever inbound context is released, the record keeps its fields. -/
theorem releaseInbound_recordOnly {r : Record} {s : State} (found : s.table.find r.key = some r) (c : CtxNo) (k : Key) : RecordOnly r (releaseInbound c k s) := by
  rw [releaseInbound_eq]
  by_cases same : k = r.key
  · subst same
    have stands : (setCtx c .free (modRec r.key (Record.freedFrom c) s)).table.find r.key = some (r.freedFrom c) := find_modRec_of_found found _ (freedFrom_key c)
    exact ⟨_, stands, by rw [freedFrom_eq]; rfl, by rw [freedFrom_eq]; exact id⟩
  · exact ⟨r, ((modRec_otherRecords k _ s (freedFrom_key c)) r.key (Ne.symm same)).trans found, rfl, id⟩

/-- A record that is not SETTLED is not retired. -/
theorem retireIfDue_recordOnly {r : Record} {s : State} (h : RecordOnly r s) (unsettled : r.state ≠ .settled) (k : Key) : RecordOnly r (retireIfDue k s) := by
  obtain ⟨q, found, body, owed⟩ := h
  refine RecordOnly.of_find ⟨q, found, body, owed⟩ ?_
  by_cases same : k = r.key
  · subst same
    have fields : ({ q with owed := r.owed, owedCancel := r.owedCancel } : Record) = { r with inbound := q.inbound } := body
    have state : q.state = r.state := (congrArg Record.state fields :)
    rw [retireIfDue_of_not_settled fun p hp => by rw [found] at hp; cases hp; rwa [state]]
  · exact retireIfDue_otherRecords k s r.key (Ne.symm same)

/-! ## Cancel with drain, seen from a record that is not SETTLED -/

/-- R134: what a cancel with drain of a context does, whatever record it holds. -/
structure CancelSeen (r : Record) (c : CtxNo) (i : InCtx) (s t : State) : Prop where
  kept : KeepsAllBut [.staging, .engine, .contexts, .table, .backlog, .port] s t
  contexts : OtherContexts c s t
  record : RecordOnly r t
  places : OnlyPlaces s t
  port : t.wan = { s.wan with queue := t.wan.queue }
  frames : ∃ fs, fs.length ≤ 8 ∧ FramesSent fs s t
  others : i.key = r.key → OtherRecords r.key s t

theorem resumesAt_length (s : State) (n : Nat) : (s.resumesAt n).length ≤ 8 := by
  unfold State.resumesAt
  split
  · rw [List.length_map]
    exact (List.length_filter_le _ _).trans (by rw [List.length_finRange])
  · exact Nat.zero_le _

theorem cancelDrain_seen {r : Record} {c : CtxNo} {i : InCtx} {s : State} (bound : s.ctx c = .inb i) (found : s.table.find r.key = some r)
    (unsettled : r.state ≠ .settled) (why : CancelReason) : CancelSeen r c i s (cancelDrain c why s) := by
  let v := stagingCancelled c s
  obtain ⟨keptV, cancelled, follows, frames, wan, fewer⟩ := stagingCancelled_effect c s
  have tableV : v.table = s.table := keptV .table (by decide)
  have poolV : v.pool = s.pool := keptV .contexts (by decide)
  have foundV : v.table.find r.key = some r := by rw [tableV, found]
  have sent : FramesSent (s.resumesAt v.inbound.fifo.length) s v := frames
  rw [cancelDrain_eq bound]
  by_cases idle : v.inbound.writesInFlight c = 0
  · rw [if_pos idle]
    let u := releaseInbound c i.key v
    let e := emitRecord i.key (.inCancelled i.key i.version why) u
    have keptD : KeepsAllBut [.contexts, .table, .backlog] v (drainFree c i why v) := keepsAllBut_iff.mpr (by simp)
    have pool : (drainFree c i why v).pool = u.pool := by simp [drainFree, u]
    have contextsU : OtherContexts c v u := setCtx_otherContexts c .free (modRec i.key (Record.freedFrom c) v)
    have backlogU : u.backlog = v.backlog := by simp [u, releaseInbound_eq]
    have wanD : (drainFree c i why v).wan = v.wan := keptD .port (by decide)
    refine ⟨keptV.trans keptD (by decide) (by decide), fun d hd => (ctx_congr pool d).trans ((contextsU d hd).trans (ctx_congr poolV d)),
      retireIfDue_recordOnly (emitRecord_recordOnly (releaseInbound_recordOnly foundV c i.key) _ _) unsettled i.key, ?_, ?_,
      ⟨_, resumesAt_length s _, sent.after wanD⟩, fun key => ?_⟩
    · have placed := (OnlyPlaces.of_backlog (backlogU.trans (keptV .backlog (by decide)))).trans (emitRecord_places i.key (.inCancelled i.key i.version why) u)
      exact placed.trans (.of_backlog (show (retireIfDue i.key e).backlog = e.backlog by simp))
    · rw [wanD]
      exact wan
    · have others : OtherRecords i.key v (drainFree c i why v) := (modRec_otherRecords i.key _ v (freedFrom_key c)).trans
        ((emitRecord_otherRecords i.key _ u).trans (retireIfDue_otherRecords i.key e))
      rw [← key]
      exact fun q hq => (others q hq).trans (by rw [tableV])
  · rw [if_neg idle]
    refine ⟨keptV.trans (ys := [.contexts]) (keepsAllBut_iff.mpr (by simp)) (by decide) (by decide), fun d hd => (setCtx_otherContexts c _ v d hd).trans (ctx_congr poolV d),
      .self foundV, .of_backlog (keptV .backlog (by decide)), wan, ⟨_, resumesAt_length s _, sent.after rfl⟩, fun _ q _ => ?_⟩
    show v.table.find q = _
    rw [tableV]

theorem drainedAtOnce_iff {c : CtxNo} {s t : State} (cancelled : StagingCancelled c s t) : DrainedAtOnce s c ↔ ∀ e ∈ t.inbound.fifo, e.ctx ≠ c :=
  ⟨fun at_ e mem same => at_ e ((cancelled.1 e).mp mem).1 same ((cancelled.1 e).mp mem).2,
    fun none e mem same stays => none e ((cancelled.1 e).mpr ⟨mem, stays⟩) same⟩

/-- R134: a cancel with drain of the record's own context. -/
theorem cancelDrain_own {r : Record} {c : CtxNo} {i : InCtx} {s : State} (bound : s.ctx c = .inb i) (key : i.key = r.key) (found : s.table.find r.key = some r)
    (inbound : r.inbound = some c) (unsettled : r.state ≠ .settled) (why : CancelReason) : let t := cancelDrain c why s
    CancelledWithDrain c i why s t ∧ HoldingFollows s t ∧
      (DrainedAtOnce s c → (∃ q, t.table.find r.key = some q ∧ Record.sameBody { r with inbound := none } q) ∧
        RecordNotices s.hasRoom r.key [.inCancelled r.key i.version why] [] s t) ∧
      (¬ DrainedAtOnce s c → t.table.find r.key = some r ∧ t.backlog = s.backlog ∧ PressureKept s t) := by
  intro t
  let v := stagingCancelled c s
  obtain ⟨keptV, cancelled, follows, -, -, -⟩ := stagingCancelled_effect c s
  have tableV : v.table = s.table := keptV .table (by decide)
  have poolV : v.pool = s.pool := keptV .contexts (by decide)
  have staging : StagingCancelled c s v := cancelled
  have atOnce := drainedAtOnce_iff staging
  have idleIff := writesInFlight_cancelled_iff staging
  have foundV : v.table.find i.key = some r := by rw [tableV, key, found]
  have eq : t = if v.inbound.writesInFlight c = 0 then drainFree c i why v else setCtx c (.inb (i.drainingFor why)) v := cancelDrain_eq bound why
  by_cases idle : v.inbound.writesInFlight c = 0
  · have none := idleIff.mp idle
    rw [if_pos idle] at eq
    obtain ⟨kept, free, contexts, -, stands, notices, -⟩ := drainFree_effect (c := c) foundV why
    rw [← eq] at kept free contexts stands notices
    have inboundT : t.inbound = v.inbound := kept .staging (by decide)
    rw [freedFrom_of_bound inbound] at stands
    obtain ⟨standing, -⟩ := stands.of_not_settled (show ({ r with inbound := Option.none } : Record).state ≠ .settled from unsettled)
    rw [(Alike.of_keeps keptV).hasRoom (.of_keeps keptV), key] at notices
    refine ⟨⟨staging.after inboundT (kept .engine (by decide)), fun d hd => (contexts d hd).trans (ctx_congr poolV d), fun ⟨e, mem, same⟩ => ?_, fun _ => free⟩,
      follows.after inboundT, fun _ => ⟨standing, notices.before (.of_keeps keptV)⟩, fun no => absurd (atOnce.mpr none) no⟩
    rw [inboundT] at mem
    exact absurd same (none e mem)
  · have some_ : ¬ DrainedAtOnce s c := fun yes => idle (idleIff.mpr (atOnce.mp yes))
    rw [if_neg idle] at eq
    rw [eq]
    refine ⟨⟨staging, fun d hd => (setCtx_otherContexts c _ v d hd).trans (ctx_congr poolV d), fun _ => ctx_setCtx_self .., fun gone => absurd (atOnce.mpr gone) some_⟩,
      follows.after rfl, fun yes => absurd yes some_, fun _ => ⟨?_, keptV .backlog (by decide), (Alike.of_keeps keptV).pressure⟩⟩
    rw [← key]
    exact foundV

/-! ## R16 step 2 -/

theorem cancelInbound_of_idle {r : Record} {s : State} (idle : ∀ c i, r.inbound = some c → s.ctx c = .inb i → i.state = .draining) : cancelInbound r s = s := by
  rw [cancelInbound]
  cases inbound : r.inbound with
  | none => rfl
  | some c =>
    dsimp only
    cases bound : s.ctx c with
    | inb i => exact if_pos (by rw [idle c i inbound bound]; rfl)
    | free => rfl
    | out o => rfl

theorem cancelInbound_of_bound {r : Record} {c : CtxNo} {i : InCtx} {s : State} (inbound : r.inbound = some c) (bound : s.ctx c = .inb i) (state : i.state ≠ .draining) :
    cancelInbound r s = cancelDrain c .superseded s := by
  rw [cancelInbound, inbound]
  dsimp only
  rw [bound]
  exact if_neg (by simpa using state)

end Sys2Proof.Machine
end

section
/-! PROOFS. Supersede: steps 1 and 2 of R16 together. -/

namespace Sys2Proof.Machine

/-! ## What was given on a record, read after a change that owes it nothing more -/

theorem RecordNotices.restated {room : Nat → Prop} {k : Key} {ns : List Notice} {tail : List EntryBody} {s t u : State} {p q : Record}
    (h : RecordNotices room k ns tail s t) (before : t.table.find k = some p) (after : u.table.find k = some q) (owed : q.owed = p.owed)
    (cancel : q.owedCancel = p.owedCancel) (backlog : u.backlog = t.backlog)
    (pressure : u.table.rising = t.table.rising ∧ u.table.lastReported = t.table.lastReported) : RecordNotices room k ns tail s u := by
  obtain ⟨⟨placed, left, split, entries, fitted, whole, owes⟩, rising, reported, flag⟩ := h
  refine ⟨⟨placed, left, split, by rw [backlog]; exact entries, fitted, fun none => ?_, fun n rest some_ => ?_⟩, pressure.1.trans rising, pressure.2.trans reported,
    by rw [backlog]; exact flag⟩
  · obtain ⟨list, kept⟩ := whole none
    obtain ⟨same, flags⟩ := kept p before
    refine ⟨by rw [backlog]; exact list, fun v hv => ?_⟩
    cases after.symm.trans hv
    exact ⟨cancel.trans same, fun r hr => owed.trans (flags r hr)⟩
  · obtain ⟨noRoom, none, list, v, found, isOwed, isCancel⟩ := owes n rest some_
    cases before.symm.trans found
    exact ⟨noRoom, none, by rw [backlog]; exact list, q, after, owed.trans isOwed, cancel.trans isCancel⟩

/-! ## Steps 1 and 2 (R16) -/

/-- R16: the bound contexts of the record's slots have ended and its inbound context has been cancelled with drain. -/
structure Withdrawn (r : Record) (s w : State) : Prop where
  kept : KeepsAllBut [.backlog, .table, .contexts, .staging, .port, .engine] s w
  record : RecordOnly r w
  places : OnlyPlaces s w
  frames : ∃ fs, fs.length ≤ 8 ∧ FramesSent (withdrawsOf r (List.finRange 8) ++ fs) s w
  port : w.wan = { s.wan with queue := w.wan.queue, holder := w.wan.holder }
  lost : ∀ c o, BoundOut s r c o → w.wan.holder ≠ some c
  grant : (∀ c o, BoundOut s r c o → s.wan.holder ≠ some c) → w.wan.holder = s.wan.holder
  ended : ∀ c o, BoundOut s r c o → w.ctx c = endedCtx c o s
  others : ∀ c, (∀ o, ¬ BoundOut s r c o) → r.inbound ≠ some c → w.ctx c = s.ctx c
  apart : (∀ c o, BoundOut s r c o → o.key = r.key) → (∀ c i, r.inbound = some c → s.ctx c = .inb i → i.key = r.key) → OtherRecords r.key s w
  quiet : r.inbound = none ∨ DrainsAlready s r → w.inbound = s.inbound ∧ (∀ c, r.inbound = some c → w.ctx c = s.ctx c) ∧ w.table.find r.key = some r ∧
    w.backlog = s.backlog ∧ PressureKept s w ∧
    ∀ op, op ∈ w.hme.ops ↔ op ∈ s.hme.ops ∧ ¬ ∃ c o, BoundOut s r c o ∧ op.use.readsFor c = true ∧ op.untouched = true
  drained : ∀ c i, BoundIn s r c i → CancelledWithDrain c i .superseded s w ∧ HoldingFollows s w ∧
    (DrainedAtOnce s c → (∃ q, w.table.find r.key = some q ∧ Record.sameBody { r with inbound := none } q) ∧
      RecordNotices s.hasRoom r.key [.inCancelled r.key r.version .superseded] [] s w) ∧
    (¬ DrainedAtOnce s c → w.table.find r.key = some r ∧ w.backlog = s.backlog ∧ PressureKept s w)

/-- The record's inbound context as it stands before a supersede: nothing of it is cancelled, or it is and the record is not SETTLED. -/
theorem inbound_cases (r : Record) (s : State) (rest : r.state = .settled → ∀ c i, r.inbound = some c → s.ctx c = .inb i → i.state = .draining) :
    (∀ c i, r.inbound = some c → s.ctx c = .inb i → i.state = .draining) ∨
      ∃ c i, r.inbound = some c ∧ s.ctx c = .inb i ∧ i.state ≠ .draining ∧ r.state ≠ .settled := by
  by_cases idle : ∀ c i, r.inbound = some c → s.ctx c = .inb i → i.state = .draining
  · exact .inl idle
  · push Not at idle
    obtain ⟨c, i, inbound, bound, state⟩ := idle
    exact .inr ⟨c, i, inbound, bound, state, fun settled => state (rest settled c i inbound bound)⟩

section
variable {r : Record} {s v : State}

/-- R16 step 1 leaves what is not outbound as it was. -/
theorem SlotsEnded.ctx_of_inb (h : SlotsEnded r (List.finRange 8) s v) {c : CtxNo} {i : InCtx} (bound : s.ctx c = .inb i) : v.ctx c = .inb i :=
  (h.others c fun _ mine => by cases bound.symm.trans mine.2).trans bound

/-- R16: a claim in which step 2 does nothing. -/
theorem withdrawn_of_idle (ended : SlotsEnded r (List.finRange 8) s v) (frames : FramesSent (withdrawsOf r (List.finRange 8)) s v)
    (idle : ∀ c i, r.inbound = some c → s.ctx c = .inb i → i.state = .draining) : Withdrawn r s v where
  kept := ended.kept.weaken (by decide)
  record := .self ended.record
  places := .of_backlog (ended.kept .backlog (by decide))
  frames := ⟨[], Nat.zero_le _, by rw [List.append_nil]; exact frames⟩
  port := ended.port
  lost := fun c o mine => ended.lost c o (endedBy_all_iff.mpr mine)
  grant := fun free => ended.grant fun c o mine => free c o (endedBy_all_iff.mp mine)
  ended := fun c o mine => ended.ended c o (endedBy_all_iff.mpr mine)
  others := fun c none _ => ended.others c fun o mine => none o (endedBy_all_iff.mp mine)
  apart := fun keys _ => (OtherRecords.refl r.key s).after (ended.table fun c o mine => keys c o (endedBy_all_iff.mp mine))
  quiet := fun cases_ => by
    refine ⟨ended.kept .staging (by decide), fun c inbound => ?_, ended.record, ended.kept .backlog (by decide),
      ⟨ended.pressure.1, ended.pressure.2, congrArg Backlog.owedPressure (ended.kept .backlog (by decide))⟩, fun op => ?_⟩
    · rcases cases_ with none | ⟨d, i, same, bound, -⟩
      · rw [none] at inbound
        cases inbound
      · cases inbound.symm.trans same
        exact (ended.ctx_of_inb bound).trans bound.symm
    · rw [ended.ops op]
      simp only [endedBy_all_iff]
  drained := fun c i ⟨inbound, bound, state, _⟩ => absurd (idle c i inbound bound) state

/-- R16: a claim in which step 2 cancels the record's inbound context. -/
theorem withdrawn_of_bound {c : CtxNo} {i : InCtx} (ended : SlotsEnded r (List.finRange 8) s v) (frames : FramesSent (withdrawsOf r (List.finRange 8)) s v)
    (found : s.table.find r.key = some r) (same : (∀ x, (vget r.slots x).ctx = none) → v = s) (inbound : r.inbound = some c) (bound : s.ctx c = .inb i)
    (state : i.state ≠ .draining) (unsettled : r.state ≠ .settled) : Withdrawn r s (cancelDrain c .superseded v) := by
  obtain ⟨kept, contexts, record, places, port, ⟨fs, few, sent⟩, others⟩ := cancelDrain_seen (ended.ctx_of_inb bound) ended.record unsettled .superseded
  have notOut : ∀ d o, BoundOut s r d o → d ≠ c := fun d o mine here => by
    subst here
    cases bound.symm.trans mine.2
  have holder : (cancelDrain c .superseded v).wan.holder = v.wan.holder := by rw [port]
  refine ⟨ended.kept.trans kept (by decide) (by decide), record, (OnlyPlaces.of_backlog (ended.kept .backlog (by decide))).trans places,
    ⟨fs, few, frames.append sent (ended.kept .regions (by decide)) (by rw [ended.port])⟩, by rw [port, ended.port], fun d o mine => ?_, fun free => ?_,
    fun d o mine => ?_, fun d none other => ?_, fun keys keyIn => ?_, fun cases_ => ?_, fun d j boundIn => ?_⟩
  · rw [holder]
    exact ended.lost d o (endedBy_all_iff.mpr mine)
  · exact holder.trans (ended.grant fun d o mine => free d o (endedBy_all_iff.mp mine))
  · exact (contexts d (notOut d o mine)).trans (ended.ended d o (endedBy_all_iff.mpr mine))
  · exact (contexts d fun here => other (by rw [here]; exact inbound)).trans (ended.others d fun o mine => none o (endedBy_all_iff.mp mine))
  · exact ((OtherRecords.refl r.key s).after (ended.table fun d o mine => keys d o (endedBy_all_iff.mp mine))).trans (others (keyIn c i inbound bound))
  · rcases cases_ with none | ⟨d, j, inboundD, boundD, draining⟩
    · rw [none] at inbound
      cases inbound
    · cases inbound.symm.trans inboundD
      cases bound.symm.trans boundD
      exact absurd draining state
  · obtain ⟨inboundD, boundD, -, key, version, slots⟩ := boundIn
    cases inbound.symm.trans inboundD
    cases bound.symm.trans boundD
    obtain rfl := same slots
    have own := cancelDrain_own bound key found inbound unsettled .superseded
    rw [version] at own
    exact own

/-- R16 steps 1 and 2. -/
theorem withdrawn_of_found (found : s.table.find r.key = some r) (rest : r.state = .settled → (∀ x, (vget r.slots x).ctx = none) ∧
    ∀ c i, r.inbound = some c → s.ctx c = .inb i → i.state = .draining) : Withdrawn r s (cancelInbound r (withdrawAll r s)) := by
  obtain ⟨ended, frames⟩ := withdrawSlots_effect found (fun settled => (rest settled).1) (List.finRange 8)
  rw [← withdrawAll_eq] at ended frames
  rcases inbound_cases r s fun settled => (rest settled).2 with idle | ⟨c, i, inbound, bound, state, unsettled⟩
  · have idleW : ∀ c i, r.inbound = some c → (withdrawAll r s).ctx c = .inb i → i.state = .draining := fun c i inbound bound => by
      by_cases mine : ∃ o, BoundOut s r c o
      · obtain ⟨o, mine⟩ := mine
        have now := ended.ended c o (endedBy_all_iff.mpr mine)
        rw [bound, endedCtx] at now
        split at now
        · cases now
        · cases now
      · exact idle c i inbound ((ended.others c fun o out => mine ⟨o, endedBy_all_iff.mp out⟩).symm.trans bound)
    rw [cancelInbound_of_idle idleW]
    exact withdrawn_of_idle ended frames idle
  · rw [cancelInbound_of_bound inbound (ended.ctx_of_inb bound) state]
    refine withdrawn_of_bound ended frames found (fun none => ?_) inbound bound state unsettled
    have each : ∀ t x, withdrawSlot r t x = t := fun t x => by rw [withdrawSlot, none x]
    rw [withdrawAll_eq]
    exact List.foldl_fixed' (fun x => each s x) _

end

end Sys2Proof.Machine
end

section
/-! PROOFS. Supersede: the lists, the notice of R19, the reply of R18 and the new version. -/

namespace Sys2Proof.Machine

/-! ## Several notices on one record -/

/-- R187: notices on a record, one after the other. -/
def emitAll (k : Key) (ns : List Notice) (s : State) : State := ns.foldl (fun t n => emitRecord k n t) s

theorem Record.sameBody.trans {a b c : Record} (h : Record.sameBody a b) (g : Record.sameBody b c) : Record.sameBody a c := by
  unfold Record.sameBody at *
  rw [← g] at h
  exact h

/-- R187: what notices on a standing record do. -/
structure Emitted (k : Key) (ns : List Notice) (p : Record) (s t : State) : Prop where
  kept : KeepsAllBut [.table, .backlog] s t
  others : OtherRecords k s t
  linger : t.table.linger = s.table.linger
  places : OnlyPlaces s t
  room : RoomKept s t
  record : ∃ q, t.table.find k = some q ∧ Record.sameBody p q ∧ (p.owed = true → q.owed = true)
  notices : ∀ v ms, RecordNotices v.hasRoom k ms [] v s → RoomKept v s → RecordNotices v.hasRoom k (ms ++ ns) [] v t

theorem emitAll_emitted {k : Key} {p : Record} {s : State} (found : s.table.find k = some p) (ns : List Notice) : Emitted k ns p s (emitAll k ns s) := by
  induction ns generalizing p s with
  | nil => exact ⟨.refl _ s, .refl k s, rfl, .refl s, .refl s, ⟨p, found, rfl, id⟩, fun v ms given _ => by rw [List.append_nil]; exact given⟩
  | cons n rest ih =>
    obtain ⟨q, stands, body, whole, owes⟩ := emitRecord_record found n
    have owed : p.owed = true → q.owed = true := fun was => by
      by_cases room : s.hasRoom n.length
      · rw [whole room]
        exact was
      · exact owes room
    have kept : KeepsAllBut [.table, .backlog] s (emitRecord k n s) := keepsAllBut_iff.mpr (by simp)
    obtain ⟨keptR, others, linger, places, room, ⟨e, standsE, bodyE, owedE⟩, notices⟩ := ih stands
    refine ⟨kept.trans keptR (by decide) (by decide), (emitRecord_otherRecords k n s).trans others, linger.trans (emitRecord_linger k n s),
      (emitRecord_places k n s).trans places, (emitRecord_roomKept k n s).trans room, ⟨e, standsE, body.trans bodyE, fun was => owedE (owed was)⟩, fun v ms given keptV => ?_⟩
    have more := notices v (ms ++ [n]) (given.emit keptV found n) (keptV.trans (emitRecord_roomKept k n s))
    rw [List.append_assoc] at more
    exact more

/-! ## R18, R19 -/

/-- R19: the notice a supersede of the record gives besides that of a drain. -/
def supersedeNotices (r : Record) (v : Version) (role : Role) : List Notice :=
  match r.role with
  | .localRole => if role = .remoteRole then [.superseded r.key r.version v] else []
  | .remoteRole => if (r.state = .waiting ∧ r.inbound = none) ∨ r.state = .landed then [.inCancelled r.key r.version .superseded] else []

theorem supersedeNotice_eq (r : Record) (v : Version) (role : Role) (s : State) : supersedeNotice r v role s = emitAll r.key (supersedeNotices r v role) s := by
  rw [supersedeNotice, supersedeNotices]
  cases r.role with
  | localRole => cases role <;> rfl
  | remoteRole =>
    dsimp only
    by_cases gives : (r.state = .waiting ∧ r.inbound = none) ∨ r.state = .landed
    · rw [if_pos gives, if_pos (by simpa using gives)]
      rfl
    · rw [if_neg gives, if_neg (by simpa using gives)]
      rfl

/-- R18: the REPLY a supersede of the record sends. -/
def repliesOf (r : Record) (v : Version) : List CtlFrame :=
  if r.role = .remoteRole ∧ r.state ≠ .settled then [{ dest := regionOf r.version.origin, body := .reply r.key r.version .newer 0 (some v) }] else []

theorem repliesOf_length (r : Record) (v : Version) : (repliesOf r v).length ≤ 1 := by
  rw [repliesOf]
  split
  · exact Nat.le_refl 1
  · exact Nat.zero_le 1

theorem replyNewerSend_frames (r : Record) (v : Version) (s : State) : FramesSent (repliesOf r v) s (replyNewerSend r v s) ∧
    (replyNewerSend r v s).wan = { s.wan with queue := (replyNewerSend r v s).wan.queue } := by
  rw [replyNewerSend, repliesOf]
  by_cases sends : r.role = .remoteRole ∧ r.state ≠ .settled
  · rw [if_pos sends, if_pos (by simpa using sends)]
    exact ⟨sendCtl_framesSent .., sendCtl_wan ..⟩
  · rw [if_neg sends, if_neg (by simpa using sends)]
    exact ⟨.nil s, rfl⟩

/-! ## Steps 3 and 4 of R16 -/

/-- R16, R17: `t` is `w` with the record off every list and the new version stored. -/
structure Stored (r : Record) (content : Content) (role : Role) (st : RecState) (targets : List Region) (w t : State) : Prop where
  kept : KeepsAllBut [.backlog, .table, .lists, .port] w t
  record : ∀ p, w.table.find r.key = some p → ∃ q, t.table.find r.key = some (storeVersion content role st targets q) ∧ Record.sameBody p q ∧
    (p.owed = true → q.owed = true)
  others : OtherRecords r.key w t
  linger : r.key ∉ t.table.linger
  work : ∀ x, vget t.sched.work x = ((vget w.sched.work x).filter fun k => k != r.key) ++ if x ∈ targets then [r.key] else []
  confirm : ∀ x, vget t.sched.confirm x = (vget w.sched.confirm x).filter fun e => e.key != r.key
  port : t.wan = { w.wan with queue := t.wan.queue }
  frames : FramesSent (repliesOf r content.version) w t
  places : OnlyPlaces w t
  room : RoomKept w t
  notices : ∀ v ms, RecordNotices v.hasRoom r.key ms [] v w → RoomKept v w →
    RecordNotices v.hasRoom r.key (ms ++ supersedeNotices r content.version role) [] v t

theorem stored_of_found {r p : Record} {w : State} (found : w.table.find r.key = some p) (content : Content) (role : Role) (st : RecState) (targets : List Region)
    (single : targets.Nodup) : Stored r content role st targets w
      (joinTargets r.key targets (modRec r.key (storeVersion content role st targets)
        (supersedeNotice r content.version role (replyNewerSend r content.version (leaveLists r.key w))))) := by
  let l := leaveLists r.key w
  let n := replyNewerSend r content.version l
  let u := supersedeNotice r content.version role n
  let m := modRec r.key (storeVersion content role st targets) u
  let t := joinTargets r.key targets m
  show Stored r content role st targets w t
  have key : ∀ q, (storeVersion content role st targets q).key = q.key := fun _ => rfl
  have keptN : KeepsAllBut [.table, .lists, .port] w n := keepsAllBut_iff.mpr (by simp [n, l])
  have roomN : RoomKept w n := .of_keeps keptN
  have tableN : n.table = l.table := by simp [n]
  have foundL : l.table.find r.key = some p := found
  have foundN : n.table.find r.key = some p := by rw [tableN]; exact foundL
  obtain ⟨keptE, othersE, lingerE, placesE, roomE, ⟨q, standsE, bodyE, owedE⟩, noticesE⟩ := emitAll_emitted foundN (supersedeNotices r content.version role)
  rw [← supersedeNotice_eq] at keptE othersE lingerE placesE roomE standsE noticesE
  have keptM : KeepsAllBut [.table] u m := keepsAllBut_iff.mpr (by simp [m])
  obtain ⟨keptJ, work, confirm, -⟩ := joinTargets_effect r.key targets single m
  have keptUT : KeepsAllBut [.table, .lists] u t := keptM.trans keptJ (by decide) (by decide)
  have tableT : t.table = m.table := keptJ .table (by decide)
  have schedM : m.sched = n.sched := (keptM .lists (by decide) : m.sched = u.sched).trans (keptE .lists (by decide))
  have schedN : n.sched = l.sched := by simp [n]
  have wanT : t.wan = n.wan := (keptUT .port (by decide) : t.wan = u.wan).trans (keptE .port (by decide))
  have backlogT : t.backlog = u.backlog := keptUT .backlog (by decide)
  have backlogN : n.backlog = w.backlog := by simp [n, l]
  obtain ⟨frames, port⟩ := replyNewerSend_frames r content.version l
  have standsM : m.table.find r.key = some (storeVersion content role st targets q) := find_modRec_of_found standsE _ key
  have standsT : t.table.find r.key = some (storeVersion content role st targets q) := by rw [tableT]; exact standsM
  have kept : KeepsAllBut [.backlog, .table, .lists, .port] w t :=
    (keptN.trans (zs := [.backlog, .table, .lists, .port]) keptE (by decide) (by decide)).trans keptUT (by decide) (by decide)
  refine ⟨kept, fun p' hp' => ?_, ?_, ?_, fun x => (work x).trans ?_, fun x => ?_, ?_, ?_, ?_, (roomN.trans roomE).trans (.of_keeps keptUT), fun v ms given keptV => ?_⟩
  · cases found.symm.trans hp'
    exact ⟨q, standsT, bodyE, owedE⟩
  · have othersN : OtherRecords r.key w n := fun q _ => by rw [tableN]; rfl
    exact ((othersN.trans othersE).trans (modRec_otherRecords r.key _ u key)).after tableT
  · have linger : t.table.linger = l.table.linger := by
      rw [tableT, ← tableN]
      exact lingerE
    rw [linger]
    exact fun mem => by simpa using (List.mem_filter.mp mem).2
  · rw [schedM, schedN]
    exact congrArg (· ++ _) (vget_map ..)
  · rw [show t.sched.confirm = l.sched.confirm from confirm.trans (by rw [schedM, schedN])]
    exact vget_map ..
  · rw [wanT]
    exact port
  · exact frames.after wanT
  · exact ((OnlyPlaces.of_backlog backlogN).trans placesE).trans (.of_backlog backlogT)
  · have begun : RecordNotices v.hasRoom r.key ms [] v n := given.restated found foundN rfl rfl backlogN (by rw [tableN]; exact ⟨rfl, rfl⟩)
    exact (noticesE v ms begun (keptV.trans roomN)).restated standsE standsT rfl rfl backlogT (by rw [tableT]; exact ⟨rfl, rfl⟩)

end Sys2Proof.Machine
end

section
/-! PROOFS. Supersede as a whole (R16 to R19), and the Table Controller's claim on an older version (R53, R55, R56). -/

namespace Sys2Proof.Machine

/-! ## Supersede -/

/-- R16 to R19: what a supersede of the record by the new version does. -/
structure Superseded (r : Record) (content : Content) (role : Role) (st : RecState) (targets : List Region) (s t : State) : Prop where
  kept : KeepsAllBut [.backlog, .table, .lists, .contexts, .staging, .port, .engine] s t
  record : ∃ q, t.table.find r.key = some (storeVersion content role st targets q) ∧ Record.sameBody { r with inbound := q.inbound } q ∧
    (r.owed = true → q.owed = true)
  apart : (∀ c o, BoundOut s r c o → o.key = r.key) → (∀ c i, r.inbound = some c → s.ctx c = .inb i → i.key = r.key) → OtherRecords r.key s t
  linger : r.key ∉ t.table.linger
  work : ∀ x, vget t.sched.work x = ((vget s.sched.work x).filter fun k => k != r.key) ++ if x ∈ targets then [r.key] else []
  confirm : ∀ x, vget t.sched.confirm x = (vget s.sched.confirm x).filter fun e => e.key != r.key
  port : t.wan = { s.wan with queue := t.wan.queue, holder := t.wan.holder }
  frames : ∃ fs, fs.length ≤ 17 ∧ FramesSent fs s t ∧ withdrawsOf r (List.finRange 8) ⊆ fs ∧ repliesOf r content.version ⊆ fs
  places : OnlyPlaces s t
  room : RoomKept s t
  lost : ∀ c o, BoundOut s r c o → t.wan.holder ≠ some c
  grant : (∀ c o, BoundOut s r c o → s.wan.holder ≠ some c) → t.wan.holder = s.wan.holder
  ended : ∀ c o, BoundOut s r c o → t.ctx c = endedCtx c o s
  others : ∀ c, (∀ o, ¬ BoundOut s r c o) → r.inbound ≠ some c → t.ctx c = s.ctx c
  quiet : r.inbound = none ∨ DrainsAlready s r → t.inbound = s.inbound ∧ (∀ c, r.inbound = some c → t.ctx c = s.ctx c) ∧
    (∀ q, t.table.find r.key = some q → q.inbound = r.inbound) ∧
    ∀ op, op ∈ t.hme.ops ↔ op ∈ s.hme.ops ∧ ¬ ∃ c o, BoundOut s r c o ∧ op.use.readsFor c = true ∧ op.untouched = true
  drained : ∀ c i, BoundIn s r c i → CancelledWithDrain c i .superseded s t ∧ HoldingFollows s t ∧
    ∀ q, t.table.find r.key = some q → (DrainedAtOnce s c → q.inbound = none) ∧ (¬ DrainedAtOnce s c → q.inbound = r.inbound)
  notices : ∀ given, SupersedeGives r content.version role s given → RecordNotices s.hasRoom r.key given [] s t

section
variable {r : Record} {content : Content} {role : Role} {st : RecState} {targets : List Region} {s w t : State}

theorem Record.sameBody.inbound {p q : Record} (h : Record.sameBody p q) : q.inbound = p.inbound := by
  have fields : ({ q with owed := p.owed, owedCancel := p.owedCancel } : Record) = p := h
  exact (congrArg Record.inbound fields :)

theorem CancelledWithDrain.after_pool {c : CtxNo} {i : InCtx} {why : CancelReason} (h : CancelledWithDrain c i why s w) (inbound : t.inbound = w.inbound)
    (hme : t.hme = w.hme) (pool : t.pool = w.pool) : CancelledWithDrain c i why s t := by
  obtain ⟨staging, contexts, draining, free⟩ := h
  have ctx := ctx_congr pool
  refine ⟨staging.after inbound hme, fun d hd => (ctx d).trans (contexts d hd), ?_, ?_⟩
  · rw [inbound, ctx]
    exact draining
  · rw [inbound, ctx]
    exact free

/-- R19: the notices of a supersede, those of a drain before that of the table's row. -/
theorem supersedeGives_split {v : Version} {given : List Notice} (gives : SupersedeGives r v role s given) :
    ((r.inbound = none ∨ DrainsAlready s r) ∧ given = supersedeNotices r v role) ∨
      ∃ c i, BoundIn s r c i ∧ supersedeNotices r v role = [] ∧
        ((DrainedAtOnce s c ∧ given = [.inCancelled r.key r.version .superseded]) ∨ (¬ DrainedAtOnce s c ∧ given = [])) := by
  have remote : r.role = .remoteRole → supersedeNotices r v role =
      if (r.state = .waiting ∧ r.inbound = none) ∨ r.state = .landed then [.inCancelled r.key r.version .superseded] else [] := fun is => by
    rw [supersedeNotices, is]
  rcases gives with ⟨isLocal, quiet, rfl⟩ | ⟨isRemote, cases_⟩
  · refine .inl ⟨quiet, ?_⟩
    rw [supersedeNotices, isLocal]
  · rw [remote isRemote]
    rcases cases_ with ⟨none, state, rfl⟩ | ⟨none, state, rfl⟩ | ⟨drains, state, rfl⟩ | ⟨drains, state, rfl⟩ | ⟨c, i, bound, state, given⟩
    · refine .inl ⟨.inl none, (if_pos ?_).symm⟩
      simpa [none] using state
    · exact .inl ⟨.inl none, (if_neg (by simp [state])).symm⟩
    · have some_ : r.inbound ≠ Option.none := by
        obtain ⟨c, i, inbound, -⟩ := drains
        simp [inbound]
      refine .inl ⟨.inr drains, (if_neg ?_).symm⟩
      rcases List.mem_pair.mp state with state | state <;> simp [state, some_]
    · exact .inl ⟨.inr drains, (if_pos (.inr state)).symm⟩
    · refine .inr ⟨c, i, bound, if_neg ?_, given⟩
      rcases List.mem_pair.mp state with state | state <;> simp [state]

theorem superseded_of_stored (found : s.table.find r.key = some r) (h : Withdrawn r s w) (g : Stored r content role st targets w t) :
    Superseded r content role st targets s t := by
  obtain ⟨p, foundW, bodyW, owedW⟩ := h.record
  obtain ⟨q, foundT, bodyT, owedT⟩ := g.record p foundW
  obtain ⟨fs, few, frames⟩ := h.frames
  have pool : t.pool = w.pool := g.kept .contexts (by decide)
  have hme : t.hme = w.hme := g.kept .engine (by decide)
  have staging : t.inbound = w.inbound := g.kept .staging (by decide)
  have sched : w.sched = s.sched := h.kept .lists (by decide)
  have ctx := ctx_congr pool
  have holder : t.wan.holder = w.wan.holder := by rw [g.port]
  have inbound : ∀ p', w.table.find r.key = some p' → ∀ q', t.table.find r.key = some q' → q'.inbound = p'.inbound := fun p' hp q' hq => by
    cases foundW.symm.trans hp
    cases foundT.symm.trans hq
    exact bodyT.inbound
  have roomW : RoomKept s w := .of_regions (h.kept .cache (by decide)) (h.kept .regions (by decide)) h.places.1
  have body : Record.sameBody { r with inbound := q.inbound } q := by
    rw [bodyT.inbound]
    exact bodyW.trans bodyT
  refine ⟨h.kept.trans g.kept (by decide) (by decide), ⟨q, foundT, body, fun was => owedT (owedW was)⟩, fun keys keyIn => (h.apart keys keyIn).trans g.others, g.linger,
    fun x => by rw [g.work, sched], fun x => by rw [g.confirm, sched], by rw [g.port, h.port],
    ⟨_, ?_, frames.append g.frames (h.kept .regions (by decide)) (by rw [h.port]), fun f mem => ?_, fun f mem => ?_⟩,
    h.places.trans g.places, roomW.trans g.room, fun c o mine => by rw [holder]; exact h.lost c o mine, fun free => holder.trans (h.grant free),
    fun c o mine => (ctx c).trans (h.ended c o mine), fun c none other => (ctx c).trans (h.others c none other), fun quiet => ?_, fun c i bound => ?_, fun given gives => ?_⟩
  · rw [List.length_append, List.length_append]
    have := withdrawsOf_length r
    have := repliesOf_length r content.version
    omega
  · exact List.mem_append_left _ (List.mem_append_left _ mem)
  · exact List.mem_append_right _ mem
  · obtain ⟨same, same', record, -, -, ops⟩ := h.quiet quiet
    exact ⟨staging.trans same, fun c inbound => (ctx c).trans (same' c inbound), inbound r record, by rw [hme]; exact ops⟩
  · obtain ⟨cancelled, follows, atOnce, later⟩ := h.drained c i bound
    refine ⟨cancelled.after_pool staging hme pool, follows.after staging, fun q' hq => ⟨fun yes => ?_, fun no => inbound r (later no).1 q' hq⟩⟩
    obtain ⟨⟨p', hp, same⟩, -⟩ := atOnce yes
    exact (inbound p' hp q' hq).trans same.inbound
  · rcases supersedeGives_split gives with ⟨quiet, rfl⟩ | ⟨c, i, bound, none, cases_⟩
    · obtain ⟨-, -, record, backlog, pressure, -⟩ := h.quiet quiet
      exact g.notices s [] (.of_record found record rfl rfl (by rw [backlog]) (by rw [backlog]) pressure) roomW
    · obtain ⟨-, -, atOnce, later⟩ := h.drained c i bound
      have after := fun ms => g.notices s ms
      simp only [none, List.append_nil] at after
      rcases cases_ with ⟨yes, rfl⟩ | ⟨no, rfl⟩
      · exact after _ (atOnce yes).2 roomW
      · obtain ⟨record, backlog, pressure⟩ := later no
        exact after [] (.of_record found record rfl rfl (by rw [backlog]) (by rw [backlog]) pressure) roomW

theorem supersede_superseded (found : s.table.find r.key = some r) (rest : r.state = .settled → (∀ x, (vget r.slots x).ctx = none) ∧
    ∀ c i, r.inbound = some c → s.ctx c = .inb i → i.state = .draining) (single : targets.Nodup) :
    Superseded r content role st targets s (supersede r content role st targets s) := by
  have withdrawn := withdrawn_of_found found rest
  obtain ⟨p, foundW, -⟩ := withdrawn.record
  exact superseded_of_stored found withdrawn (stored_of_found foundW content role st targets single)

theorem Superseded.withdraws (h : Superseded r content role st targets s t) {x : Region} {c : CtxNo} (bound : (vget r.slots x).ctx = some c) :
    Queued s x (.withdraw r.key r.version) t := by
  obtain ⟨fs, few, sent, all, -⟩ := h.frames
  exact sent.queuedOf (all (mem_withdrawsOf bound)) (by omega)

theorem Superseded.replies (h : Superseded r content role st targets s t) (remote : r.role = .remoteRole) (unsettled : r.state ≠ .settled) :
    Queued s (regionOf r.version.origin) (.reply r.key r.version .newer 0 (some content.version)) t := by
  obtain ⟨fs, few, sent, -, all⟩ := h.frames
  exact sent.queuedOf (all (by rw [repliesOf, if_pos ⟨remote, unsettled⟩]; exact List.mem_singleton_self _)) (by omega)

end

/-! ## The claim on a key with a record (R53, R55, R56) -/

theorem applyPub_of_found {p : Pub} {r : Record} {s : State} (found : s.table.find p.key = some r) (pl : Placement) (id : Nat) :
    applyPub p pl (dropPub id s) = applyOver p (targetSet pl s.regionCount s.ownIndex) r (dropPub id s) := by
  rw [applyPub, show (dropPub id s).table.find p.key = some r from found]
  rfl

section
variable {p : Pub} {targets : List Region} {r : Record} {s : State}

theorem applyOver_of_stale (stale : ¬ newer (s.versionOf p) r.version = true) : applyOver p targets r s = answerPub p .stale (.version r.version) s := by
  rw [applyOver, if_pos (by rw [Bool.not_eq_true] at stale; rw [stale]; rfl)]

theorem applyOver_of_noTargets (newer_ : newer (s.versionOf p) r.version = true) (none : targets = []) : applyOver p targets r s = noTargets p s := by
  rw [applyOver, if_neg (by rw [newer_]; decide), none]
  rfl

theorem applyOver_of_newer (newer_ : newer (s.versionOf p) r.version = true) (some_ : targets ≠ []) : applyOver p targets r s =
    answerPub p .ok (.stored (s.versionOf p) .opened (regionMask targets) false true false (some r.version))
      (supersede r (s.contentOf p) .localRole .opened targets s) := by
  rw [applyOver, if_neg (by rw [newer_]; decide), if_neg (by rwa [List.isEmpty_iff])]

end

theorem answerPub_followed (p : Pub) (status : Status) (body : CompBody) (s : State) : Followed [p.completion status body] s (answerPub p status body s) := by
  obtain ⟨kept, completed⟩ := answerPub_completes p status body s
  unfold Completed at completed
  exact ⟨by rw [completed]; rfl, by rw [completed], by rw [completed], kept .table (by decide), kept .contexts (by decide), kept .settings (by decide)⟩

/-- Settles O34: STALE, NO_TARGETS, or the supersede with its completion behind it. -/
theorem applySupersedesAnOlderVersion : Obligations.ApplySupersedesAnOlderVersion := by
  unfold Obligations.ApplySupersedesAnOlderVersion
  intro id p pl r s running found stage record v targets older gone slot heard settledAtRest
  have ran := exec_apply running found stage
  rw [applyPub_of_found record] at ran
  let d := dropPub id s
  have key : r.key = p.key := (Table.find_some record).2
  have isNewer : newer (d.versionOf p) r.version = true ↔ older := (newer_iff ..).trans (or_congr_right (and_congr_left' eq_comm))
  refine ⟨fun stale => ?_, fun newer_ none => ?_, fun newer_ some_ rest => ?_⟩
  · rw [applyOver_of_stale (s := d) fun yes => stale (isNewer.mp yes)] at ran
    exact ⟨_, ran, applyAnswer_effect ..⟩
  · rw [applyOver_of_noTargets (s := d) (isNewer.mpr newer_) none] at ran
    exact ⟨_, ran, applyAnswer_effect ..⟩
  · rw [applyOver_of_newer (s := d) (isNewer.mpr newer_) some_] at ran
    let u := supersede r (d.contentOf p) .localRole .opened targets d
    have h : Superseded r (d.contentOf p) .localRole .opened targets d u := supersede_superseded (by rw [key]; exact record) rest (targetSet_nodup ..)
    have keptD : KeepsAllBut [.requests] s d := keepsAllBut_iff.mpr (by simp [d, dropPub])
    obtain ⟨keptA, completed⟩ := answerPub_completes p .ok (.stored v .opened (regionMask targets) false true false (some r.version)) u
    have follows := answerPub_followed p .ok (.stored v .opened (regionMask targets) false true false (some r.version)) u
    refine ⟨answerPub p .ok (.stored v .opened (regionMask targets) false true false (some r.version)) u, ran, ?_⟩
    generalize answerPub p .ok (.stored v .opened (regionMask targets) false true false (some r.version)) u = t at keptA completed follows ⊢
    have table : t.table = u.table := keptA .table (by decide)
    have sched : t.sched = u.sched := keptA .lists (by decide)
    have pool : t.pool = u.pool := keptA .contexts (by decide)
    have wan : t.wan = u.wan := keptA .port (by decide)
    have hme : t.hme = u.hme := keptA .engine (by decide)
    have staging : t.inbound = u.inbound := keptA .staging (by decide)
    have ctx := ctx_congr pool
    have parts := h
    obtain ⟨kept, ⟨q, stands, body, owed⟩, -, linger, work, confirm, port, -, ⟨reservations, more, entries⟩, -, lost, grant, ended, others, quiet, drained, notices⟩ := parts
    rw [key] at stands linger work confirm quiet drained notices
    have standsT : t.table.find p.key = some (storeVersion (d.contentOf p) .localRole .opened targets q) := by rw [table]; exact stands
    refine ⟨(keptD.trans (zs := [.backlog, .requests, .table, .lists, .contexts, .staging, .port, .engine]) kept (by decide) (by decide)).trans keptA (by decide) (by decide),
      ?_, ⟨more, ?_⟩, ⟨_, standsT, rfl, rfl, rfl, rfl, rfl, rfl, rfl, rfl, rfl, vget_targetSlots targets, fun xs good => contentOf_extents good d, owed⟩,
      by rw [table]; exact linger, fun x => by rw [sched]; exact work x, fun x => by rw [sched]; exact confirm x, fun x c bound ⟨live, carrier, few⟩ => ?_,
      fun remote unsettled ⟨live, carrier, few⟩ => ?_, fun c o mine => ⟨contextEnded_of_ctx ((ctx c).trans (ended c o mine)), by rw [wan]; exact lost c o mine⟩,
      fun free => by rw [wan]; exact grant free, fun c none other => (ctx c).trans (others c none other), fun quietly => ?_, fun c i bound => ?_, ?_, fun given gives => ?_⟩
    · exact congrArg Requests.pubs ((keptA .requests (by decide) : t.reqs = u.reqs).trans (kept .requests (by decide)))
    · rw [follows.entries, entries]
      rfl
    · rw [wan, ← key]
      exact h.withdraws bound live carrier few
    · rw [wan, ← key]
      exact h.replies remote unsettled live carrier few
    · obtain ⟨same, contexts, inbound, ops⟩ := quiet quietly
      rw [staging, table, hme]
      exact ⟨same, fun c mine => (ctx c).trans (contexts c mine), inbound, ops⟩
    · obtain ⟨cancelled, holding, inbound⟩ := drained c i bound
      rw [table]
      exact ⟨cancelled.after_pool staging hme pool, holding.after staging, inbound⟩
    · rw [show t.backlog.reservations = u.backlog.reservations - 1 from congrArg Backlog.reservations completed, reservations]
      rfl
    · exact (notices given gives).followed follows

end Sys2Proof.Machine
end

section
/-! PROOFS. A fresh offer into a WAITING record (R114, R115), and the creation of a record for an offer. -/

namespace Sys2Proof.Machine

/-! ## Fields of a record that is as given but for what is owed of it -/

theorem Record.sameBody.eq {p q : Record} (h : Record.sameBody p q) : q = { p with owed := q.owed, owedCancel := q.owedCancel } := by
  have fields : ({ q with owed := p.owed, owedCancel := p.owedCancel } : Record) = p := h
  rw [← fields]

/-! ## The context of a binding (R114) -/

theorem inboundChoice_eq_some_iff {p : Pool} {c : CtxNo} : p.inboundChoice = some c ↔ p.inCount < 32 ∧ vget p.ctx c = .free ∧ ∀ d, d < c → vget p.ctx d ≠ .free := by
  rw [← lowestFree_eq_some_iff, Pool.inboundChoice, show Config.maxInbound = 32 from rfl]
  by_cases few : p.inCount < 32
  · rw [if_pos few, and_iff_right few]
  · rw [if_neg few]
    exact iff_of_false (fun h => by cases h) fun h => few h.1

theorem inboundChoice_eq_none_iff {p : Pool} : p.inboundChoice = none ↔ ¬ (p.inCount < 32 ∧ ∃ c, vget p.ctx c = .free) := by
  rw [Pool.inboundChoice, show Config.maxInbound = 32 from rfl]
  by_cases few : p.inCount < 32
  · rw [if_pos few, and_iff_right few, lowestFree_eq_none_iff, not_exists]
  · rw [if_neg few]
    exact iff_of_true rfl fun h => few h.1

/-! ## The three answers -/

section
variable {k : Key} {x : Region} {r : Record} {s : State}

theorem freshOffer_of_content {c : CtxNo} (found : s.table.find k = some r) (kind : r.kind = .content) (inbound : r.inbound = none)
    (choice : s.pool.inboundChoice = some c) : freshOffer k x s = bindInbound c r x s := by
  rw [freshOffer, found]
  dsimp only
  rw [kind, inbound, choice]

theorem freshOffer_of_busy (found : s.table.find k = some r) (kind : r.kind = .content) (none_ : r.inbound ≠ none ∨ s.pool.inboundChoice = none) :
    freshOffer k x s = sendCtl x (.reply k r.version .busy 0 none) s := by
  rw [freshOffer, found]
  dsimp only
  rw [kind]
  dsimp only
  cases inbound : r.inbound with
  | some c => rfl
  | none => rw [none_.resolve_left fun some_ => some_ inbound]; rfl

theorem freshOffer_of_tombstone (found : s.table.find k = some r) (kind : r.kind = .tombstone) : freshOffer k x s = landTombstone r x s := by
  rw [freshOffer, found]
  dsimp only
  rw [kind]

end

/-- R114, R115: a record, standing as `q` once the claim has changed it, with its notices and the answer to the region. -/
structure Offered (r q : Record) (x : Region) (why : ReplyReason) (ns : List Notice) (s t : State) : Prop where
  others : OtherRecords r.key s t
  linger : t.table.linger = s.table.linger
  room : RoomKept s t
  sent : FrameSent x (.reply r.key r.version why 0 none) s t
  frames : FramesSent [{ dest := x, body := .reply r.key r.version why 0 none }] s t
  port : t.wan = { s.wan with queue := t.wan.queue }
  record : ∃ p, t.table.find r.key = some p ∧ Record.sameBody q p
  notices : ∀ v ms, RecordNotices v.hasRoom r.key ms [] v s → RoomKept v s → RecordNotices v.hasRoom r.key (ms ++ ns) [] v t

/-- A change of the record, then notices on it, then the answer. -/
theorem offered_of_changed {r q : Record} {s u : State} (found : s.table.find r.key = some r) (stands : u.table.find r.key = some q) (owed : q.owed = r.owed)
    (cancel : q.owedCancel = r.owedCancel) (kept : KeepsAllBut [.table, .contexts] s u) (others : OtherRecords r.key s u) (rest : TableRestKept s u)
    (x : Region) (why : ReplyReason) (ns : List Notice) : let t := sendCtl x (.reply r.key r.version why 0 none) (emitAll r.key ns u)
    Offered r q x why ns s t ∧ KeepsAllBut [.table, .backlog, .port] u t := by
  intro t
  let e := emitAll r.key ns u
  obtain ⟨keptE, othersE, linger, -, roomE, ⟨p, standsE, body, -⟩, notices⟩ := emitAll_emitted stands ns
  have keptT : KeepsAllBut [.port] e t := keepsAllBut_iff.mpr (by simp [t, e])
  have keptUT : KeepsAllBut [.table, .backlog, .port] u t := keptE.trans keptT (by decide) (by decide)
  have keptSE : KeepsAllBut [.table, .contexts, .backlog] s e := kept.trans keptE (by decide) (by decide)
  have table : t.table = e.table := keptT .table (by decide)
  have backlog : t.backlog = e.backlog := keptT .backlog (by decide)
  have wan : e.wan = s.wan := keptSE .port (by decide)
  have regions : e.regions = s.regions := keptSE .regions (by decide)
  have roomU : RoomKept s u := .of_keeps kept
  refine ⟨⟨(others.trans othersE).after table, by rw [table]; exact linger.trans rest.1, (roomU.trans roomE).trans (.of_keeps keptT), ?_, ?_, ?_, ⟨p, by rw [table]; exact standsE, body⟩,
    fun v ms given keptV => ?_⟩, keptUT⟩
  · exact (sendCtl_frameSent ..).before regions (by rw [wan]) (by rw [wan])
  · exact (sendCtl_framesSent ..).before regions wan
  · rw [← wan]
    exact sendCtl_wan ..
  · have begun : RecordNotices v.hasRoom r.key ms [] v u := given.restated found stands owed cancel (kept .backlog (by decide)) ⟨rest.2.1, rest.2.2.1⟩
    exact (notices v ms begun (keptV.trans roomU)).after table backlog

section
variable {r : Record} {s : State}

/-- R114 step 3. -/
theorem bindInbound_effect (found : s.table.find r.key = some r) (c : CtxNo) (x : Region) : let t := bindInbound c r x s
    Offered r { r with state := .offered, inbound := some c } x .pending [offerInNotice r true] s t ∧ KeepsAllBut [.backlog, .table, .contexts, .port] s t ∧
      OtherContexts c s t ∧ t.pool.nextOrder = s.pool.nextOrder ∧ t.ctx c = .inb (.bound r (s.now + s.settingTime 3)) := by
  intro t
  let s1 := setCtx c (.inb (.bound r (s.now + s.settingTime 3))) s
  let u := modRec r.key (fun r => { r with state := .offered, inbound := some c }) s1
  have kept : KeepsAllBut [.table, .contexts] s u := keepsAllBut_iff.mpr (by simp [u, s1])
  have stands : u.table.find r.key = some { r with state := .offered, inbound := some c } := find_modRec_of_found found _
  obtain ⟨offered, keptT⟩ := offered_of_changed found stands rfl rfl kept (modRec_otherRecords r.key _ s1) ⟨rfl, rfl, rfl, rfl⟩ x .pending [offerInNotice r true]
  have pool : t.pool = s1.pool := keptT .contexts (by decide)
  exact ⟨offered, kept.trans keptT (by decide) (by decide), fun d hd => (ctx_congr pool d).trans (setCtx_otherContexts c _ s d hd),
    (congrArg Pool.nextOrder pool).trans rfl, (ctx_congr pool c).trans (ctx_setCtx_self ..)⟩

/-- R115. -/
theorem landTombstone_effect (found : s.table.find r.key = some r) (x : Region) : let t := landTombstone r x s
    Offered r { r with state := .landed } x .accepted [offerInNotice r false, landedNotice r] s t ∧ KeepsAllBut [.backlog, .table, .port] s t := by
  intro t
  let u := modRec r.key (fun r => { r with state := .landed }) s
  have kept : KeepsAllBut [.table] s u := keepsAllBut_iff.mpr (by simp [u])
  have stands : u.table.find r.key = some { r with state := .landed } := find_modRec_of_found found _
  obtain ⟨offered, keptT⟩ := offered_of_changed found stands rfl rfl (kept.weaken (by decide)) (modRec_otherRecords r.key _ s) ⟨rfl, rfl, rfl, rfl⟩ x .accepted
    [offerInNotice r false, landedNotice r]
  exact ⟨offered, kept.trans keptT (by decide) (by decide)⟩

end

/-! ## A new record (R114 step 1, R115) -/

theorem canCreate_iff (s : State) (k : Key) (kind : Kind) : s.canCreate k kind = true ↔
    ((s.table.inSet (setOf k)).length < 8 ∨ s.evictable (setOf k) ≠ none) ∧ (kind = .tombstone ∨ (s.pool.inCount < 32 ∧ ∃ c, s.ctx c = .free)) := by
  rw [State.canCreate, Bool.and_eq_true, setAble_iff, Bool.or_eq_true, beq_iff_eq, Option.isSome_iff_ne_none, Ne, Ne, inboundChoice_eq_none_iff, not_not]
  exact Iff.rfl

theorem Created.room {r : Record} {s t : State} (h : Created r s t) : RoomKept s t := .of_keeps h.kept

/-- A new record owes nothing. -/
theorem Created.notices {r : Record} {s t : State} (h : Created r s t) (absent : s.table.find r.key = none) (cancel : r.owedCancel = none) :
    RecordNotices s.hasRoom r.key [] [] s t := by
  have backlog : t.backlog = s.backlog := h.kept .backlog (by decide)
  refine ⟨⟨[], [], rfl, by simp [entriesOf, waitingEntries, backlog], fun some_ => absurd rfl some_, fun _ => ⟨by rw [backlog], fun q hq => ?_⟩, fun _ _ more => by cases more⟩,
    h.pressure.1, h.pressure.2, by rw [backlog]⟩
  cases h.found.symm.trans hq
  refine ⟨by rw [cancel, State.owedCancel, absent]; rfl, fun p hp => ?_⟩
  rw [absent] at hp
  cases hp

end Sys2Proof.Machine
end

section
/-! PROOFS. O46: offers are answered from the record. -/

namespace Sys2Proof.Machine

theorem exec_offer {x : Region} {s : State} (admitted : s.admits x = true) (f : OfferFrame) : exec (.offer x f) s = .next (offerFrame x f s) :=
  congrArg Host.Outcome.next (if_pos admitted)

/-! ## The tests of R112 -/

theorem ofCode_eq_content_iff (b : Byte) : Kind.ofCode b = some .content ↔ b.toNat = 0 := by
  rw [Kind.ofCode]
  split <;> simp_all

theorem ofCode_eq_tombstone_iff (b : Byte) : Kind.ofCode b = some .tombstone ↔ b.toNat = 1 := by
  rw [Kind.ofCode]
  split <;> simp_all

theorem ofCode_eq_none_iff (b : Byte) : Kind.ofCode b = none ↔ b.toNat ∉ [0, 1] := by
  rw [Kind.ofCode]
  split <;> simp_all

theorem badOffer_iff (own : Nat) (x : Region) (f : OfferFrame) : badOffer own x f = true ↔
    f.version.origin.toNat = own ∨ f.version.origin.toNat ≠ x.val ∨ 67108864 < f.size.toNat ∨ f.kind.toNat ∉ [0, 1] ∨ (f.kind.toNat = 1 ∧ f.size.toNat ≠ 0) := by
  rw [badOffer]
  simp only [Bool.or_eq_true, Bool.and_eq_true, beq_iff_eq, bne_iff_ne, decide_eq_true_eq, Option.isNone_iff_eq_none, ofCode_eq_none_iff, ofCode_eq_tombstone_iff,
    or_assoc, ne_eq, ← BitVec.toNat_inj]
  exact Iff.rfl

section
variable {x : Region} {f : OfferFrame} {s : State} {kind : Kind} {r : Record}

theorem offerFrame_of_bad (bad : badOffer s.ownIndex x f = true) : offerFrame x f s = s := if_pos bad

theorem offerFrame_of_good (good : ¬ badOffer s.ownIndex x f = true) (is : Kind.ofCode f.kind = some kind) : offerFrame x f s = answerOffer x f kind s := by
  rw [offerFrame, if_neg good, is]

theorem kind_of_good (good : ¬ badOffer s.ownIndex x f = true) : ∃ kind, Kind.ofCode f.kind = some kind := by
  rw [badOffer_iff] at good
  push Not at good
  obtain ⟨-, -, -, code, -⟩ := good
  exact Option.ne_none_iff_exists'.mp fun none => (ofCode_eq_none_iff _).mp none code

/-! ## The rows of R113 -/

theorem answerOffer_of_none (absent : s.table.find f.key = none) : answerOffer x f kind s = offerNew x f kind s := by
  rw [answerOffer, absent]

theorem answerOffer_of_older (found : s.table.find f.key = some r) (older : newer r.version f.version = true) :
    answerOffer x f kind s = sendCtl x (.reply f.key f.version .newer 0 (some r.version)) s := by
  rw [answerOffer, found]
  exact if_pos older

theorem not_newer_self (v : Version) : ¬ newer v v = true := by simp [newer_iff]

theorem answerOffer_of_same (found : s.table.find f.key = some r) (same : r.version = f.version) : answerOffer x f kind s = offerSame x f r s := by
  rw [answerOffer, found]
  dsimp only
  rw [if_neg (by rw [same]; exact not_newer_self _), if_neg (by rw [same]; exact not_newer_self _)]

/-! ## A key without a record -/

theorem offerNew_of_not (not : ¬ s.canCreate f.key kind = true) : offerNew x f kind s = sendCtl x (.reply f.key f.version .busy 0 none) s := if_neg not

/-- R114 step 1: the record of an offer. -/
def offeredRecord (f : OfferFrame) (kind : Kind) : Record := newRecord f.key (OfferFrame.brings f kind) .remoteRole .waiting []

/-- R114 step 1: the state with the record of the offer. -/
def createdFor (f : OfferFrame) (kind : Kind) (s : State) : State := addRec (offeredRecord f kind) (makeRoom (setOf f.key) s).1

theorem offerNew_of_able (able : s.canCreate f.key kind = true) : offerNew x f kind s = pressureCheck (freshOffer f.key x (createdFor f kind s)) := if_pos able

theorem createdFor_created (absent : s.table.find f.key = none) (able : (s.table.inSet (setOf f.key)).length < 8 ∨ s.evictable (setOf f.key) ≠ none) :
    Created (offeredRecord f kind) s (createdFor f kind s) := created_of_able (r := offeredRecord f kind) absent able

/-- R13, R14, R20: a record offered as it is created. -/
structure OfferedNew (f : OfferFrame) (q : Record) (x : Region) (why : ReplyReason) (ns : List Notice) (s t : State) : Prop where
  sent : FrameSent x (.reply f.key f.version why 0 none) s t
  record : ∃ p, t.table.find f.key = some p ∧ Record.sameBody q p
  notices : RecordNoticesCompared s.hasRoom f.key ns [] s t
  beside : (s.table.inSet (setOf f.key)).length < 8 → OtherRecords f.key s t ∧ t.table.linger = s.table.linger
  instead : ∀ e, 8 ≤ (s.table.inSet (setOf f.key)).length → s.evictable (setOf f.key) = some e →
    Retired e s t ∧ ∀ q, q ≠ f.key → q ≠ e → t.table.find q = s.table.find q

theorem offeredNew_of_offered {q : Record} {why : ReplyReason} {ns : List Notice} {t : State} (absent : s.table.find f.key = none)
    (able : (s.table.inSet (setOf f.key)).length < 8 ∨ s.evictable (setOf f.key) ≠ none)
    (h : Offered (offeredRecord f kind) q x why ns (createdFor f kind s) t) : OfferedNew f q x why ns s (pressureCheck t) := by
  have created : Created (offeredRecord f kind) s (createdFor f kind s) := createdFor_created absent able
  obtain ⟨others, linger, room, sent, -, -, ⟨p, found, body⟩, notices⟩ := h
  have find : ∀ k, (pressureCheck t).table.find k = t.table.find k := fun k => find_pressureCheck k t
  have lingerP : (pressureCheck t).table.linger = (createdFor f kind s).table.linger := (pressureCheck_table t).2.trans linger
  have wan : (createdFor f kind s).wan = s.wan := created.kept .port (by decide)
  have sentS : FrameSent x (.reply f.key f.version why 0 none) s t := sent.before (created.kept .regions (by decide)) (by rw [wan]) (by rw [wan])
  have given := (notices s [] (created.notices absent rfl) created.room).compared (created.room.trans room)
  refine ⟨sentS.after (by simp), ⟨p, (find f.key).trans found, body⟩, given, fun place => ?_, fun e full evicted => ?_⟩
  · obtain ⟨othersC, same⟩ := created.beside place
    exact ⟨fun k hk => (find k).trans ((others k hk).trans (othersC k hk)), lingerP.trans same⟩
  · obtain ⟨⟨gone, lingerE⟩, othersC⟩ := created.instead e full evicted
    have other : e ≠ f.key := by
      rintro rfl
      exact find_of_evictable evicted absent
    exact ⟨⟨(find e).trans ((others e other).trans gone), lingerP.trans lingerE⟩, fun k hk he => (find k).trans ((others k hk).trans (othersC k hk he))⟩

/-- R114: a new record offered, with the context of its binding. -/
theorem offerNew_content_effect {c : CtxNo} (absent : s.table.find f.key = none) (able : (s.table.inSet (setOf f.key)).length < 8 ∨ s.evictable (setOf f.key) ≠ none)
    (few : s.pool.inCount < 32) (free : s.ctx c = .free) (lowest : ∀ d, d < c → s.ctx d ≠ .free) : let t := offerNew x f .content s
    OfferedNew f { offeredRecord f .content with state := .offered, inbound := some c } x .pending [offerInNotice (offeredRecord f .content) true] s t ∧
      KeepsAllBut [.backlog, .table, .contexts, .port] s t ∧ OtherContexts c s t ∧ t.pool.nextOrder = s.pool.nextOrder ∧
      t.ctx c = .inb (.bound (offeredRecord f .content) (s.now + s.settingTime 3)) := by
  intro t
  let r := offeredRecord f .content
  let u := createdFor f .content s
  have created : Created r s u := createdFor_created absent able
  have pool : u.pool = s.pool := created.kept .contexts (by decide)
  have eq : t = pressureCheck (bindInbound c r x u) := by
    rw [← freshOffer_of_content (k := f.key) (s := u) created.found rfl rfl (by rw [pool]; exact inboundChoice_eq_some_iff.mpr ⟨few, free, lowest⟩)]
    exact offerNew_of_able ((canCreate_iff ..).mpr ⟨able, .inr ⟨few, c, free⟩⟩)
  obtain ⟨offered, kept, contexts, order, bound⟩ := bindInbound_effect created.found c x
  have keptP : KeepsAllBut [.table, .backlog] (bindInbound c r x u) t := by
    rw [eq]
    exact keepsAllBut_iff.mpr (by simp)
  have poolP : t.pool = (bindInbound c r x u).pool := keptP .contexts (by decide)
  have timer : u.now + u.settingTime 3 = s.now + s.settingTime 3 := by
    rw [State.settingTime, State.setting, created.kept .clock (by decide), created.kept .settings (by decide)]
    rfl
  rw [timer] at bound
  refine ⟨by rw [eq]; exact offeredNew_of_offered absent able offered, (created.kept.trans (zs := [.backlog, .table, .contexts, .port]) kept (by decide) (by decide)).trans keptP
    (by decide) (by decide), fun d hd => ((ctx_congr poolP d).trans (contexts d hd)).trans (ctx_congr pool d), ?_, (ctx_congr poolP c).trans bound⟩
  rw [poolP, order, pool]

/-- R115: a new record of a tombstone. -/
theorem offerNew_tombstone_effect (absent : s.table.find f.key = none) (able : (s.table.inSet (setOf f.key)).length < 8 ∨ s.evictable (setOf f.key) ≠ none) :
    let t := offerNew x f .tombstone s
    let r := offeredRecord f .tombstone
    OfferedNew f { r with state := .landed } x .accepted [offerInNotice r false, landedNotice r] s t ∧ KeepsAllBut [.backlog, .table, .port] s t := by
  intro t r
  let u := createdFor f .tombstone s
  have created : Created r s u := createdFor_created absent able
  have eq : t = pressureCheck (landTombstone r x u) := by
    rw [← freshOffer_of_tombstone (k := f.key) (s := u) created.found rfl]
    exact offerNew_of_able ((canCreate_iff ..).mpr ⟨able, .inl rfl⟩)
  obtain ⟨offered, kept⟩ := landTombstone_effect created.found x
  have keptP : KeepsAllBut [.table, .backlog] (landTombstone r x u) t := by
    rw [eq]
    exact keepsAllBut_iff.mpr (by simp)
  exact ⟨by rw [eq]; exact offeredNew_of_offered absent able offered, (created.kept.trans (zs := [.backlog, .table, .port]) kept (by decide) (by decide)).trans keptP
    (by decide) (by decide)⟩

/-- R113: what an offer for a new key leaves alone when its set has a free place. -/
theorem offerNew_beside (absent : s.table.find f.key = none) (able : (s.table.inSet (setOf f.key)).length < 8 ∨ s.evictable (setOf f.key) ≠ none)
    (place : (s.table.inSet (setOf f.key)).length < 8) : OtherRecords f.key s (offerNew x f kind s) ∧ (offerNew x f kind s).table.linger = s.table.linger := by
  cases kind with
  | content =>
    by_cases room : s.pool.inCount < 32 ∧ ∃ c, s.ctx c = .free
    · obtain ⟨c, choice⟩ := Option.ne_none_iff_exists'.mp fun none => inboundChoice_eq_none_iff.mp none room
      obtain ⟨few, free, lowest⟩ := inboundChoice_eq_some_iff.mp choice
      exact (offerNew_content_effect absent able few free lowest).1.beside place
    · rw [offerNew_of_not fun yes => room (((canCreate_iff ..).mp yes).2.resolve_left fun is => by cases is)]
      have table : (sendCtl x (.reply f.key f.version .busy 0 none) s).table = s.table := by simp
      exact ⟨(OtherRecords.refl f.key s).after table, by rw [table]⟩
  | tombstone => exact (offerNew_tombstone_effect absent able).1.beside place

/-- R14: what an offer for a new key takes out of a full set. -/
theorem offerNew_instead {e : Key} (absent : s.table.find f.key = none) (full : 8 ≤ (s.table.inSet (setOf f.key)).length) (evicted : s.evictable (setOf f.key) = some e)
    (room : kind = .content → s.pool.inCount < 32 ∧ ∃ c, s.ctx c = .free) :
    Retired e s (offerNew x f kind s) ∧ ∀ q, q ≠ f.key → q ≠ e → (offerNew x f kind s).table.find q = s.table.find q := by
  have able : (s.table.inSet (setOf f.key)).length < 8 ∨ s.evictable (setOf f.key) ≠ none := .inr (by rw [evicted]; exact Option.some_ne_none e)
  cases kind with
  | content =>
    obtain ⟨c, choice⟩ := Option.ne_none_iff_exists'.mp fun none => inboundChoice_eq_none_iff.mp none (room rfl)
    obtain ⟨few, free, lowest⟩ := inboundChoice_eq_some_iff.mp choice
    exact (offerNew_content_effect absent able few free lowest).1.instead e full evicted
  | tombstone => exact (offerNew_tombstone_effect absent able).1.instead e full evicted

/-! ## A record of an equal version -/

theorem sendCtl_only (x : Region) (b : CtlBody) (s : State) : KeepsAllBut [.port] s (sendCtl x b s) ∧ FrameSent x b s (sendCtl x b s) :=
  ⟨keepsAllBut_iff.mpr (by simp), sendCtl_frameSent ..⟩

theorem offerSame_of_offered (state : r.state = .offered) : offerSame x f r s = sendCtl x (.reply f.key f.version .pending 0 none) s := by
  rw [offerSame, state]
  rfl

theorem offerSame_of_landed (state : r.state = .landed) : offerSame x f r s = sendCtl x (.reply f.key f.version .landed 0 none) s := by
  rw [offerSame, state]
  rfl

theorem offerSame_of_waiting (state : r.state = .waiting) : offerSame x f r s = freshOffer f.key x s := by
  rw [offerSame, state]

theorem offerSame_of_settled (state : r.state = .settled) : offerSame x f r s =
    sendCtl x (.reply f.key f.version (if r.outcome = some .committed then .haveVersion else .declined) 0 none) s := by
  rw [offerSame, state]
  dsimp only
  by_cases committed : r.outcome = some .committed
  · rw [if_pos committed, if_pos (by rw [committed]; rfl)]
    rfl
  · rw [if_neg committed, if_neg (by rwa [beq_iff_eq])]
    rfl

theorem offerSame_of_receiving {c : CtxNo} {i : InCtx} (state : r.state = .receiving) (inbound : r.inbound = some c) (bound : s.ctx c = .inb i) :
    offerSame x f r s = sendCtl x (.reply f.key f.version .accepted i.acked none) (setCtx c (.inb { i with timer := some (s.now + s.settingTime 4) }) s) := by
  rw [offerSame, state]
  dsimp only
  rw [inbound]
  dsimp only
  rw [bound]

/-- R113: the timer of a transfer that is going on starts again. -/
theorem offerSame_receiving_effect {c : CtxNo} {i : InCtx} (state : r.state = .receiving) (inbound : r.inbound = some c) (bound : s.ctx c = .inb i) :
    let t := offerSame x f r s
    KeepsAllBut [.contexts, .port] s t ∧ OtherContexts c s t ∧ t.ctx c = .inb { i with timer := some (s.now + s.settingTime 4) } ∧
      FrameSent x (.reply f.key f.version .accepted i.acked none) s t := by
  intro t
  let u := setCtx c (.inb { i with timer := some (s.now + s.settingTime 4) }) s
  have eq : t = sendCtl x (.reply f.key f.version .accepted i.acked none) u := offerSame_of_receiving state inbound bound
  have pool : t.pool = u.pool := by
    rw [eq]
    simp
  refine ⟨by rw [eq]; exact keepsAllBut_iff.mpr (by simp [u]), fun d hd => (ctx_congr pool d).trans (setCtx_otherContexts c _ s d hd),
    (ctx_congr pool c).trans (ctx_setCtx_self ..), ?_⟩
  rw [eq]
  exact (sendCtl_frameSent ..).before rfl rfl rfl

end

theorem noTarget_state (y : Region) : (vget (targetSlots []) y).state = .notTarget := by
  rw [vget_targetSlots]
  simp

/-! ## The statement -/

/-- Settles O46: by the record of the key, and for an equal version by its state. -/
theorem offersAreAnsweredFromTheRecord : Obligations.OffersAreAnsweredFromTheRecord := by
  unfold Obligations.OffersAreAnsweredFromTheRecord
  intro x f s admitted k v size bad answers only able contextFree fresh binds
  have isBad : badOffer s.ownIndex x f = true ↔ bad := badOffer_iff ..
  have run : ∀ kind, ¬ bad → Kind.ofCode f.kind = some kind → exec (.offer x f) s = .next (answerOffer x f kind s) := fun kind good is => by
    rw [exec_offer admitted, offerFrame_of_good (fun yes => good (isBad.mp yes)) is]
  have runNew : ∀ kind, ¬ bad → s.table.find k = none → Kind.ofCode f.kind = some kind → exec (.offer x f) s = .next (offerNew x f kind s) := fun kind good absent is => by
    rw [run kind good is, answerOffer_of_none absent]
  have sends : ∀ {t b}, exec (.offer x f) s = .next t → t = sendCtl x b s → ∃ t, exec (.offer x f) s = .next t ∧ KeepsAllBut [.port] s t ∧ FrameSent x b s t :=
    fun ran eq => ⟨_, ran, by rw [eq]; exact sendCtl_only ..⟩
  refine ⟨fun isBad' => ?_, fun good absent content => ⟨fun not => ?_, fun c able few free lowest => ?_⟩, fun good absent tombstone => ⟨fun not => ?_, fun able => ?_⟩,
    fun good absent able place t ran => ?_, fun e good absent full evicted free => ?_, fun r good found => ⟨fun older => ?_, fun same => ?_⟩⟩
  · rw [exec_offer admitted, offerFrame_of_bad (isBad.mpr isBad')]
  · refine sends (runNew .content good absent ((ofCode_eq_content_iff _).mpr content)) (offerNew_of_not fun yes => not ?_)
    obtain ⟨able, isTombstone | free⟩ := (canCreate_iff ..).mp yes
    · cases isTombstone
    · exact ⟨able, free⟩
  · obtain ⟨⟨sent, ⟨q, found, body⟩, notices, -, -⟩, kept, contexts, order, bound⟩ := offerNew_content_effect (x := x) absent able few free lowest
    refine ⟨_, q, runNew .content good absent ((ofCode_eq_content_iff _).mpr content), kept, sent, found, ?_, ?_, ⟨contexts, order, ?_⟩, notices⟩
    · rw [body.eq]
      exact ⟨rfl, rfl, rfl, rfl, rfl, rfl, rfl, rfl, rfl, rfl, noTarget_state⟩
    · rw [body.eq]
      rfl
    · rw [bound, body.eq]
      rfl
  · refine sends (runNew .tombstone good absent ((ofCode_eq_tombstone_iff _).mpr tombstone)) (offerNew_of_not fun yes => not ((canCreate_iff ..).mp yes).1)
  · obtain ⟨⟨sent, ⟨q, found, body⟩, notices, -, -⟩, kept⟩ := offerNew_tombstone_effect (x := x) absent able
    refine ⟨_, q, runNew .tombstone good absent ((ofCode_eq_tombstone_iff _).mpr tombstone), kept, sent, found, ?_, ?_, notices⟩
    · rw [body.eq]
      exact ⟨rfl, rfl, rfl, rfl, rfl, rfl, rfl, rfl, rfl, rfl, noTarget_state⟩
    · rw [body.eq]
      rfl
  · obtain ⟨kind, is⟩ := kind_of_good fun yes => good (isBad.mp yes)
    cases (runNew kind good absent is).symm.trans ran
    exact offerNew_beside absent able place
  · obtain ⟨kind, is⟩ := kind_of_good fun yes => good (isBad.mp yes)
    refine ⟨_, runNew kind good absent is, ?_⟩
    exact offerNew_instead absent full evicted fun content => free ((ofCode_eq_content_iff _).mp (content ▸ is))
  · obtain ⟨kind, is⟩ := kind_of_good fun yes => good (isBad.mp yes)
    exact sends (run kind good is) (answerOffer_of_older found ((newer_iff ..).mpr (older.imp_right (And.imp_left Eq.symm))))
  · obtain ⟨kind, is⟩ := kind_of_good fun yes => good (isBad.mp yes)
    have ran : exec (.offer x f) s = .next (offerSame x f r s) := by rw [run kind good is, answerOffer_of_same found same]
    obtain ⟨-, key⟩ := Table.find_some found
    refine ⟨fun state => sends ran (offerSame_of_offered state), fun state => sends ran (offerSame_of_landed state), fun state committed => ?_, fun state not => ?_,
      fun c i state inbound bound => ⟨_, ran, offerSame_receiving_effect state inbound bound⟩, fun state content => ⟨fun none => ?_, fun c inbound few free lowest => ?_⟩,
      fun state tombstone => ?_⟩
    · refine sends ran ((offerSame_of_settled state).trans ?_)
      rw [if_pos committed]
    · refine sends ran ((offerSame_of_settled state).trans ?_)
      rw [if_neg not]
    · refine sends ran ((offerSame_of_waiting state).trans ?_)
      rw [freshOffer_of_busy found content (none.imp_right inboundChoice_eq_none_iff.mpr), same]
    · have eq : offerSame x f r s = bindInbound c r x s :=
        (offerSame_of_waiting state).trans (freshOffer_of_content found content inbound (inboundChoice_eq_some_iff.mpr ⟨few, free, lowest⟩))
      rw [eq] at ran
      obtain ⟨⟨others, linger, room, sent, -, -, ⟨q, stands, body⟩, notices⟩, kept, contexts, order, bound⟩ := bindInbound_effect (by rw [key]; exact found) c x
      have given := notices s [] (.none r.key s) (.refl s)
      rw [offerInNotice, key, same, content] at given
      rw [key] at others stands
      rw [key, same] at sent
      refine ⟨_, q, ran, kept, others, sent, stands, body, ⟨contexts, order, ?_⟩, linger, given⟩
      rw [bound, InCtx.bound, key, same, content]
    · rw [offerSame_of_waiting state, freshOffer_of_tombstone found tombstone] at ran
      obtain ⟨⟨others, linger, room, sent, -, -, ⟨q, stands, body⟩, notices⟩, kept⟩ := landTombstone_effect (by rw [key]; exact found) x
      have given := notices s [] (.none r.key s) (.refl s)
      rw [offerInNotice, landedNotice, key, same, tombstone] at given
      rw [key] at others stands
      rw [key, same] at sent
      exact ⟨_, q, ran, kept, others, sent, stands, body, linger, given⟩

end Sys2Proof.Machine
end

section
/-! PROOFS. O47: an offer of a newer version supersedes the record and is answered afresh (R116). -/

namespace Sys2Proof.Machine

/-! ## A fresh offer, by its three answers -/

/-- R114, R115: the notices of a fresh offer, by the state the record is left in. -/
def freshNotices (r : Record) (st : RecState) : List Notice :=
  if st = .offered then [offerInNotice r true] else if st = .landed then [offerInNotice r false, landedNotice r] else []

/-- R114, R115: the answer of a fresh offer to the WAITING record `r`, which stands as `p` behind it. -/
inductive Answered (r p : Record) (u t : State) : ReplyReason → Prop where
  | accepted : r.kind = .tombstone → p.state = .landed → p.inbound = r.inbound → Answered r p u t .accepted
  | busy : r.kind = .content → r.inbound ≠ none ∨ u.pool.inboundChoice = none → p.state = .waiting → p.inbound = r.inbound → Answered r p u t .busy
  | pending (c : CtxNo) : r.kind = .content → r.inbound = none → u.pool.inboundChoice = some c → p.state = .offered → p.inbound = some c →
      t.ctx c = .inb (.bound r (u.now + u.settingTime 3)) → Answered r p u t .pending

/-- R114, R115: a fresh offer to the WAITING record. -/
structure FreshlyOffered (r : Record) (x : Region) (u t : State) (p : Record) (why : ReplyReason) : Prop where
  kept : KeepsAllBut [.backlog, .table, .contexts, .port] u t
  others : OtherRecords r.key u t
  linger : t.table.linger = u.table.linger
  port : t.wan = { u.wan with queue := t.wan.queue }
  frames : FramesSent [{ dest := x, body := .reply r.key r.version why 0 none }] u t
  found : t.table.find r.key = some p
  body : Record.sameBody { r with state := p.state, inbound := p.inbound } p
  contexts : ∀ c, (p.state = .offered → p.inbound ≠ some c) → t.ctx c = u.ctx c
  answered : Answered r p u t why
  notices : ∀ v ms, RecordNotices v.hasRoom r.key ms [] v u → RoomKept v u → RecordNotices v.hasRoom r.key (ms ++ freshNotices r p.state) [] v t

theorem freshlyOffered_of_offered {r q : Record} {x : Region} {u t : State} {why : ReplyReason} {ns : List Notice} (h : Offered r q x why ns u t)
    (kept : KeepsAllBut [.backlog, .table, .contexts, .port] u t) (shape : q = { r with state := q.state, inbound := q.inbound }) (given : ns = freshNotices r q.state)
    (contexts : ∀ c, (q.state = .offered → q.inbound ≠ some c) → t.ctx c = u.ctx c) (answered : ∀ p : Record, p.state = q.state → p.inbound = q.inbound → Answered r p u t why) :
    ∃ p why, FreshlyOffered r x u t p why := by
  obtain ⟨others, linger, -, -, frames, port, ⟨p, found, body⟩, notices⟩ := h
  have state : p.state = q.state := by
    rw [body.eq]
  have inbound : p.inbound = q.inbound := body.inbound
  refine ⟨p, why, kept, others, linger, port, frames, found, ?_, by rw [state, inbound]; exact contexts, answered p state inbound, by rw [state, ← given]; exact notices⟩
  rw [state, inbound, ← shape]
  exact body

theorem freshOffer_effect {r : Record} {u : State} (found : u.table.find r.key = some r) (waiting : r.state = .waiting) (x : Region) :
    ∃ p why, FreshlyOffered r x u (freshOffer r.key x u) p why := by
  cases kind : r.kind with
  | tombstone =>
    rw [freshOffer_of_tombstone found kind]
    obtain ⟨offered, kept⟩ := landTombstone_effect found x
    exact freshlyOffered_of_offered offered (kept.weaken (by decide)) rfl rfl (fun c _ => ctx_congr (kept .contexts (by decide)) c)
      fun p state inbound => .accepted kind state inbound
  | content =>
    by_cases busy : r.inbound ≠ none ∨ u.pool.inboundChoice = none
    · rw [freshOffer_of_busy found kind busy]
      obtain ⟨offered, kept⟩ := offered_of_changed found found rfl rfl (.refl _ u) (.refl r.key u) ⟨rfl, .refl u⟩ x .busy []
      refine freshlyOffered_of_offered offered (kept.weaken (by decide)) rfl ?_ (fun c _ => ctx_congr (kept .contexts (by decide)) c)
        fun p state inbound => .busy kind busy (state.trans waiting) inbound
      rw [freshNotices, waiting]
      rfl
    · push Not at busy
      obtain ⟨none, some_⟩ := busy
      obtain ⟨c, choice⟩ := Option.ne_none_iff_exists'.mp some_
      rw [freshOffer_of_content found kind none choice]
      obtain ⟨offered, kept, contexts, -, bound⟩ := bindInbound_effect found c x
      exact freshlyOffered_of_offered offered kept rfl rfl (fun d other => contexts d fun same => other rfl (by rw [same])) fun p state inbound =>
        .pending c kind none choice state inbound bound

/-! ## The pool behind a supersede (R84, R114) -/

theorem length_filter_toList_lt {α : Type} {n : Nat} {v w : Vector α n} {p : α → Bool} (h : ∀ i, p (vget w i) = true → p (vget v i) = true) {i : Fin n}
    (was : p (vget v i) = true) (gone : p (vget w i) = false) : (w.toList.filter p).length < (v.toList.filter p).length := by
  rw [length_filter_toList, length_filter_toList, Nat.lt_iff_add_one_le, ← List.length_cons (a := i)]
  refine (List.subperm_of_subset (List.nodup_cons.mpr ⟨fun mem => ?_, (List.nodup_finRange n).filter _⟩) fun j mem => ?_).length_le
  · have here := (List.mem_filter.mp mem).2
    rw [gone] at here
    cases here
  · rcases List.mem_cons.mp mem with rfl | later
    · exact List.mem_filter.mpr ⟨List.mem_finRange _, was⟩
    · exact List.mem_filter.mpr ⟨List.mem_finRange _, h j (List.mem_filter.mp later).2⟩

section
variable {r : Record} {content : Content} {role : Role} {st : RecState} {targets : List Region} {s u : State}

theorem isIn_endedCtx (c : CtxNo) (o : OutCtx) (s : State) : (endedCtx c o s).isIn = false := by
  rw [endedCtx]
  split <;> rfl

theorem Superseded.inCount_of_none (h : Superseded r content role st targets s u) (none : r.inbound = none) : u.pool.inCount = s.pool.inCount := by
  have same : ∀ c, (u.ctx c).isIn = (s.ctx c).isIn := fun c => by
    by_cases mine : ∃ o, BoundOut s r c o
    · obtain ⟨o, mine⟩ := mine
      rw [h.ended c o mine, isIn_endedCtx, mine.2]
      rfl
    · rw [h.others c (fun o out => mine ⟨o, out⟩) (by rw [none]; exact (Option.some_ne_none c).symm)]
  exact Nat.le_antisymm (length_filter_toList_le fun c is => (same c).symm.trans is) (length_filter_toList_le fun c is => (same c).trans is)

theorem free_of_not_readsLeft {c : CtxNo} {o : OutCtx} (none : ¬ ReadsLeft c o s) : endedCtx c o s = .free := (endedCtx_ended c o s).1 none

theorem readsLeft_of_not_free {c : CtxNo} {o : OutCtx} (left : ReadsLeft c o s) : endedCtx c o s ≠ .free := fun free => by
  cases ((endedCtx_ended c o s).2 left).symm.trans free

/-- R114 step 2: what a binding finds when the record had no inbound context. -/
theorem Superseded.choice_none_iff (h : Superseded r content role st targets s u) (absent : r.inbound = none) : u.pool.inboundChoice = none ↔
    32 ≤ s.pool.inCount ∨ ∀ c, s.ctx c ≠ .free ∧ ∀ o, BoundOut s r c o → ReadsLeft c o s := by
  rw [inboundChoice_eq_none_iff, h.inCount_of_none absent, not_and_or, Nat.not_lt, not_exists]
  refine or_congr_right (forall_congr' fun c => ?_)
  show u.ctx c ≠ .free ↔ _
  by_cases mine : ∃ o, BoundOut s r c o
  · obtain ⟨o, mine⟩ := mine
    rw [h.ended c o mine]
    constructor
    · refine fun busy => ⟨by rw [mine.2]; exact Ctx.noConfusion, fun q here => ?_⟩
      cases mine.2.symm.trans here.2
      by_contra free
      exact busy (free_of_not_readsLeft free)
    · exact fun ⟨_, left⟩ => readsLeft_of_not_free (left o mine)
  · rw [h.others c (fun o out => mine ⟨o, out⟩) (by rw [absent]; exact (Option.some_ne_none c).symm)]
    exact ⟨fun busy => ⟨busy, fun o out => absurd ⟨o, out⟩ mine⟩, And.left⟩

theorem Superseded.free_of_drained (h : Superseded r content role st targets s u) {c : CtxNo} {i : InCtx} (bound : BoundIn s r c i) (atOnce : DrainedAtOnce s c) :
    u.ctx c = .free := by
  obtain ⟨⟨staging, -, -, free⟩, -, -⟩ := h.drained c i bound
  exact free ((drainedAtOnce_iff staging).mp atOnce)

/-- R116: a context just drained can be bound again. -/
theorem Superseded.choice_of_drained (h : Superseded r content role st targets s u) {c : CtxNo} {i : InCtx} (bound : BoundIn s r c i) (atOnce : DrainedAtOnce s c)
    (few : s.pool.inCount ≤ 32) : u.pool.inboundChoice ≠ none := by
  have free := h.free_of_drained bound atOnce
  obtain ⟨⟨-, contexts, -, -⟩, -, -⟩ := h.drained c i bound
  have was : s.ctx c = .inb i := bound.2.1
  have fewer : u.pool.inCount < s.pool.inCount := by
    refine length_filter_toList_lt (i := c) (fun d is => ?_) (show (s.ctx c).isIn = true by rw [was]; rfl) (show (u.ctx c).isIn = false by rw [free]; rfl)
    by_cases here : d = c
    · rw [here, show vget u.pool.ctx c = .free from free] at is
      cases is
    · exact (congrArg Ctx.isIn (contexts d here)).symm.trans is
  rw [Ne, inboundChoice_eq_none_iff, not_not]
  exact ⟨by omega, c, free⟩

end

end Sys2Proof.Machine
end

section
/-! PROOFS. O47, continued: the supersede and the fresh offer in one claim. -/

namespace Sys2Proof.Machine

theorem newer_asymm {a b : Version} (h : newer a b = true) : ¬ newer b a = true := by
  rw [newer_iff] at h ⊢
  rintro (less | ⟨same, less⟩)
  · rcases h with more | ⟨equal, -⟩
    · omega
    · rw [equal] at less
      omega
  · rcases h with more | ⟨-, more⟩
    · rw [same] at more
      omega
    · omega

theorem answerOffer_of_newer {x : Region} {f : OfferFrame} {s : State} {kind : Kind} {r : Record} (found : s.table.find f.key = some r)
    (newer_ : newer f.version r.version = true) :
    answerOffer x f kind s = freshOffer f.key x (supersede r (OfferFrame.brings f kind) .remoteRole .waiting [] s) := by
  rw [answerOffer, found]
  dsimp only
  rw [if_neg (newer_asymm newer_), if_pos newer_]

/-! ## The answer, by what the superseded record is -/

section
variable {n p : Record} {x : Region} {u t : State} {why : ReplyReason}

theorem FreshlyOffered.accepts (g : FreshlyOffered n x u t p why) (kind : n.kind = .tombstone) : why = .accepted ∧ p.state = .landed ∧ p.inbound = n.inbound := by
  cases g.answered with
  | accepted _ state inbound => exact ⟨rfl, state, inbound⟩
  | busy content => cases kind.symm.trans content
  | pending _ content => cases kind.symm.trans content

theorem FreshlyOffered.refuses (g : FreshlyOffered n x u t p why) (kind : n.kind = .content) (busy : n.inbound ≠ none ∨ u.pool.inboundChoice = none) :
    why = .busy ∧ p.state = .waiting ∧ p.inbound = n.inbound := by
  cases g.answered with
  | accepted tombstone => cases kind.symm.trans tombstone
  | busy _ _ state inbound => exact ⟨rfl, state, inbound⟩
  | pending c _ none choice => exact (busy.elim (fun some_ => some_ none) fun no => by cases no.symm.trans choice).elim

/-- R114: the context of the binding is the lowest one that was FREE. -/
theorem FreshlyOffered.binds (g : FreshlyOffered n x u t p why) (kind : n.kind = .content) (none : n.inbound = none) (choice : u.pool.inboundChoice ≠ Option.none) :
    why = .pending ∧ p.state = .offered ∧ ∃ d, p.inbound = some d ∧ t.ctx d = .inb (.bound n (u.now + u.settingTime 3)) ∧ ∀ e, e < d → t.ctx e ≠ .free := by
  cases g.answered with
  | accepted tombstone => cases kind.symm.trans tombstone
  | busy _ busy => exact (busy.elim (fun some_ => some_ none) choice).elim
  | pending c _ _ chosen state inbound bound =>
    obtain ⟨-, -, lowest⟩ := inboundChoice_eq_some_iff.mp chosen
    refine ⟨rfl, state, c, inbound, bound, fun e less => ?_⟩
    rw [g.contexts e fun _ same => by rw [inbound] at same; cases same; exact absurd less (lt_irrefl _)]
    exact lowest e less

/-- R114: only a record without an inbound context is bound to one, and only to one that was FREE. -/
theorem FreshlyOffered.bound_free (g : FreshlyOffered n x u t p why) (state : p.state = .offered) : n.inbound = none ∧ ∃ c, p.inbound = some c ∧ u.ctx c = .free := by
  cases g.answered with
  | accepted _ landed => cases state.symm.trans landed
  | busy _ _ waiting => cases state.symm.trans waiting
  | pending c _ none chosen _ inbound => exact ⟨none, c, inbound, (inboundChoice_eq_some_iff.mp chosen).2.1⟩

theorem FreshlyOffered.ctx_of_busy (g : FreshlyOffered n x u t p why) {c : CtxNo} (busy : u.ctx c ≠ .free) : t.ctx c = u.ctx c :=
  g.contexts c fun state inbound => by
    obtain ⟨-, d, same, free⟩ := g.bound_free state
    cases inbound.symm.trans same
    exact busy free

end

/-! ## Both together -/

section
variable {r n p : Record} {content : Content} {x : Region} {s u t : State} {why : ReplyReason}

/-- R16, R114: the frames of the claim. -/
theorem Superseded.frames_fresh (h : Superseded r content .remoteRole .waiting [] s u) (g : FreshlyOffered n x u t p why) : ∃ fs, fs.length ≤ 18 ∧ FramesSent fs s t ∧
    withdrawsOf r (List.finRange 8) ⊆ fs ∧ repliesOf r content.version ⊆ fs ∧ { dest := x, body := .reply n.key n.version why 0 none } ∈ fs := by
  obtain ⟨fs, few, sent, withdraws, replies⟩ := h.frames
  refine ⟨_, ?_, sent.append g.frames (h.kept .regions (by decide)) (by rw [h.port]), fun _ mem => List.mem_append_left _ (withdraws mem),
    fun _ mem => List.mem_append_left _ (replies mem), List.mem_append_right _ (List.mem_singleton_self _)⟩
  rw [List.length_append, List.length_singleton]
  omega

/-- R87: an outbound context of the record has ended, and may have been bound again. -/
theorem Superseded.ended_fresh (h : Superseded r content .remoteRole .waiting [] s u) (g : FreshlyOffered n x u t p why) {c : CtxNo} {o : OutCtx} (mine : BoundOut s r c o) :
    (p.inbound = some c ∧ ¬ ReadsLeft c o s ∨ ContextEnded c o s t) ∧ t.wan.holder ≠ some c := by
  have ended := h.ended c o mine
  refine ⟨?_, by rw [g.port]; exact h.lost c o mine⟩
  by_cases again : p.state = .offered ∧ p.inbound = some c
  · obtain ⟨state, inbound⟩ := again
    obtain ⟨-, d, same, free⟩ := g.bound_free state
    cases inbound.symm.trans same
    exact .inl ⟨inbound, fun left => readsLeft_of_not_free left (ended.symm.trans free)⟩
  · exact .inr (contextEnded_of_ctx ((g.contexts c fun state inbound => again ⟨state, inbound⟩).trans ended))

/-- R116: the inbound context that a supersede has cancelled, behind the fresh offer. -/
theorem Superseded.drained_fresh (h : Superseded r content .remoteRole .waiting [] s u) (g : FreshlyOffered n x u t p why) (stands : u.table.find r.key = some n)
    {c : CtxNo} {i : InCtx} (bound : BoundIn s r c i) : StagingCancelled c s t ∧ HoldingFollows s t ∧
      (DrainedAtOnce s c → (p.inbound = some c ∨ t.ctx c = .free) ∧ n.inbound = none) ∧
      (¬ DrainedAtOnce s c → t.ctx c = .inb (i.drainingFor .superseded) ∧ n.inbound = some c) := by
  obtain ⟨⟨staging, -, draining, -⟩, follows, inbound⟩ := h.drained c i bound
  obtain ⟨none, same⟩ := inbound n stands
  have kept := g.kept
  refine ⟨staging.after (kept .staging (by decide)) (kept .engine (by decide)), follows.after (kept .staging (by decide)), fun atOnce => ⟨?_, none atOnce⟩, fun later => ⟨?_, (same later).trans bound.1⟩⟩
  · by_cases again : p.state = .offered ∧ p.inbound = some c
    · exact .inl again.2
    · exact .inr ((g.contexts c fun state inbound => again ⟨state, inbound⟩).trans (h.free_of_drained bound atOnce))
  · have waits : ∃ e ∈ u.inbound.fifo, e.ctx = c := by
      by_contra no
      push Not at no
      exact later ((drainedAtOnce_iff staging).mpr no)
    rw [g.ctx_of_busy (by rw [draining waits]; exact Ctx.noConfusion)]
    exact draining waits

/-- R134: a context that drains already goes on, and what is else of the transfer is as it was. -/
theorem Superseded.quiet_fresh (h : Superseded r content .remoteRole .waiting [] s u) (g : FreshlyOffered n x u t p why) (stands : u.table.find r.key = some n)
    (quiet : r.inbound = none ∨ DrainsAlready s r) : t.inbound = s.inbound ∧ (∀ c, r.inbound = some c → t.ctx c = s.ctx c) ∧
      ∀ op, op ∈ t.hme.ops ↔ op ∈ s.hme.ops ∧ ¬ ∃ c o, BoundOut s r c o ∧ op.use.readsFor c = true ∧ op.untouched = true := by
  obtain ⟨staging, contexts, inbound, ops⟩ := h.quiet quiet
  have hme : t.hme = u.hme := g.kept .engine (by decide)
  refine ⟨(g.kept .staging (by decide) : t.inbound = u.inbound).trans staging, fun c bound => ?_, by rw [hme]; exact ops⟩
  refine (g.contexts c fun state _ => ?_).trans (contexts c bound)
  have none := (g.bound_free state).1
  rw [inbound n stands, bound] at none
  cases none

theorem freshNotices_eq {k : Key} {v : Version} {tag : BitVec 128} {size : Nat} {kind : Kind} (key : n.key = k) (version : n.version = v) (isTag : n.contentTag = tag) (isSize : n.size = size)
    (isKind : n.kind = kind) (answered : Answered n p u t why) (zero : kind = .tombstone → size = 0) : freshNotices n p.state =
      if p.state = .offered then [.offerIn k v .content size tag true] else if p.state = .landed then [.offerIn k v .tombstone 0 tag false, .landed k v .tombstone 0] else [] := by
  subst key version isTag isSize isKind
  rw [freshNotices]
  cases answered with
  | accepted tombstone state => simp [state, offerInNotice, landedNotice, tombstone, zero tombstone]
  | busy _ _ state => simp [state]
  | pending c content _ _ state => simp [state, offerInNotice, content]

end

theorem regionOf_of_toNat {b : Byte} {x : Region} (h : b.toNat = x.val) : regionOf b = x :=
  Fin.ext ((congrArg (· % 8) h).trans (Nat.mod_eq_of_lt x.isLt))

/-- Settles O47: the supersede, and behind it the fresh offer to the record it leaves WAITING. -/
theorem offersOfANewerVersionSupersede : Obligations.OffersOfANewerVersionSupersede := by
  unfold Obligations.OffersOfANewerVersionSupersede
  intro x f r s admitted found notOwn origin small code older rest slotKeys inKey k v heard offered refused
  have key : r.key = k := (Table.find_some found).2
  have newer_ : newer f.version r.version = true := (newer_iff ..).mpr (older.imp_right (And.imp_left Eq.symm))
  have good : ¬ badOffer s.ownIndex x f = true := by
    rw [badOffer_iff]
    rintro (own | other | big | unknown | ⟨isOne, size⟩)
    · exact notOwn own
    · exact other origin
    · omega
    · rcases code with isZero | ⟨isOne, -⟩ <;> simp_all
    · omega
  obtain ⟨kind, is⟩ := kind_of_good good
  have content_iff : kind = .content ↔ f.kind.toNat = 0 := by rw [← ofCode_eq_content_iff, is, Option.some_inj]
  have tombstone_iff : kind = .tombstone ↔ f.kind.toNat = 1 := by rw [← ofCode_eq_tombstone_iff, is, Option.some_inj]
  let content := OfferFrame.brings f kind
  let u := supersede r content .remoteRole .waiting [] s
  have ran : exec (.offer x f) s = .next (freshOffer r.key x u) := by
    rw [exec_offer admitted, offerFrame_of_good good is, answerOffer_of_newer found newer_, key]
  have h : Superseded r content .remoteRole .waiting [] s u := supersede_superseded (by rw [key]; exact found) rest List.nodup_nil
  obtain ⟨q, stands, -, -⟩ := h.record
  let n := storeVersion content .remoteRole .waiting [] q
  have keyN : n.key = r.key := (Table.find_some stands).2
  obtain ⟨p, why, g⟩ := freshOffer_effect (r := n) (by rw [keyN]; exact stands) rfl x
  rw [keyN] at g
  generalize freshOffer r.key x u = t at ran g
  obtain ⟨fs, few, sent, withdraws, replies, answers⟩ := h.frames_fresh g
  have keyed : n.key = k := keyN.trans key
  have queued : ∀ {y b}, { dest := y, body := b } ∈ fs → Queued s y b t := fun mem => sent.queuedOf mem (by omega)
  have answer : heard x → { dest := x, body := .reply k v why 0 none } ∈ t.wan.queue := fun ⟨live, carrier, room⟩ => by
    rw [keyed] at answers
    exact queued answers live carrier room
  have outKeys : ∀ c o, BoundOut s r c o → o.key = r.key := fun c o ⟨⟨y, bound⟩, out⟩ => by
    have same := slotKeys y c bound
    rw [out] at same
    exact (Option.some.inj same).trans key.symm
  have inKeys : ∀ c i, r.inbound = some c → s.ctx c = .inb i → i.key = r.key := fun c i bound isIn => by
    have same := inKey c bound
    rw [isIn] at same
    exact (Option.some.inj same).trans key.symm
  have others : OtherRecords r.key s t := (h.apart outKeys inKeys).trans (by rw [← keyN]; exact g.others)
  have pFound : t.table.find k = some p := by rw [← keyed]; exact g.found
  have sched : t.sched = u.sched := g.kept .lists (by decide)
  have kindN : n.kind = kind := rfl
  have refuses : f.kind.toNat = 0 → n.inbound ≠ none ∨ u.pool.inboundChoice = none → refused t p ∧ p.inbound = n.inbound := fun zero busy => by
    obtain ⟨rfl, state, inbound⟩ := g.refuses (content_iff.mpr zero) busy
    exact ⟨⟨state, answer⟩, inbound⟩
  have binds : f.kind.toNat = 0 → n.inbound = none → u.pool.inboundChoice ≠ none → offered t p := fun zero none choice => by
    obtain ⟨rfl, state, d, inbound, bound, lowest⟩ := g.binds (content_iff.mpr zero) none choice
    have timer : u.now + u.settingTime 3 = s.now + s.settingTime 3 := by
      rw [State.settingTime, State.setting, h.kept .clock (by decide), h.kept .settings (by decide)]
      rfl
    exact ⟨state, ⟨d, _, inbound, bound, lowest, rfl, keyed, rfl, regionOf_of_toNat origin, by rw [InCtx.bound, timer]⟩, answer⟩
  have inboundN : r.inbound = none ∨ DrainsAlready s r → n.inbound = r.inbound := fun quiet => (h.quiet quiet).2.2.1 n stands
  have idle : r.inbound = none → n.inbound = none := fun none => (inboundN (.inl none)).trans none
  have lists := key ▸ h.linger
  have tableLinger : t.table.linger = u.table.linger := g.linger
  refine ⟨t, p, ran, h.kept.trans g.kept (by decide) (by decide), by rw [← key]; exact others, pFound, ?_, ?_, ?_, ?_, ?_, ?_, ?_, ?_, ?_, by rw [tableLinger]; exact lists,
    fun y => ?_, fun y => ?_, fun y c bound ⟨live, carrier, room⟩ => ?_, fun remote unsettled ⟨live, carrier, room⟩ => ?_, fun one => ?_, fun zero none few free => ?_,
    fun zero none few ⟨c, o, mine, gone⟩ => ?_, fun zero none busy => ?_, fun zero drains => ?_, fun c o mine => h.ended_fresh g mine,
    fun free => by rw [g.port]; exact h.grant free, fun c none notIn notNow => ?_, fun quiet => h.quiet_fresh g stands quiet, fun c i bound => ?_, fun given gives => ?_⟩
  · rw [g.body.eq]
    rfl
  · rw [g.body.eq]
    show kind = _
    by_cases zero : f.kind.toNat = 0
    · rw [if_pos zero, content_iff.mpr zero]
    · rw [if_neg zero, tombstone_iff.mpr (code.resolve_left zero).1]
  · rw [g.body.eq]
    rfl
  · rw [g.body.eq]
    rfl
  · rw [g.body.eq]
    rfl
  · rw [g.body.eq]
    rfl
  · rw [g.body.eq]
    rfl
  · rw [g.body.eq]
    rfl
  · rw [g.body.eq]
    exact noTarget_state
  · rw [sched, ← key]
    exact (h.work y).trans (List.append_nil _)
  · rw [sched, ← key]
    exact h.confirm y
  · rw [← key]
    exact queued (withdraws (mem_withdrawsOf bound)) live carrier room
  · rw [← key]
    exact queued (replies (by rw [repliesOf, if_pos ⟨remote, unsettled⟩]; exact List.mem_singleton_self _)) live carrier room
  · obtain ⟨rfl, state, -⟩ := g.accepts (tombstone_iff.mpr one)
    exact ⟨state, answer⟩
  · obtain ⟨c, free⟩ := free
    exact binds zero (idle none) fun no => ((h.choice_none_iff none).mp no).elim (fun many => by omega) fun busy => (busy c).1 free
  · exact binds zero (idle none) fun no => ((h.choice_none_iff none).mp no).elim (fun many => by omega) fun busy => gone ((busy c).2 o mine)
  · obtain ⟨refused, inbound⟩ := refuses zero (.inr ((h.choice_none_iff none).mpr busy))
    exact ⟨refused, inbound.trans (idle none)⟩
  · have same := inboundN (.inr drains)
    obtain ⟨c, i, inbound, -⟩ := drains
    obtain ⟨refused, stays⟩ := refuses zero (.inl (by rw [same, inbound]; exact Option.some_ne_none c))
    exact ⟨refused, stays.trans same⟩
  · exact (g.contexts c fun _ => notNow).trans (h.others c none notIn)
  · obtain ⟨staging, follows, atOnce, later⟩ := h.drained_fresh g stands bound
    refine ⟨staging, follows, fun yes => ?_, fun no => ?_⟩
    · obtain ⟨free, none⟩ := atOnce yes
      exact ⟨free, fun one => (g.accepts (tombstone_iff.mpr one)).2.2.trans none, fun zero few => binds zero none (h.choice_of_drained bound yes few)⟩
    · obtain ⟨drains, stays⟩ := later no
      have some_ : n.inbound ≠ none := by rw [stays]; exact Option.some_ne_none c
      refine ⟨drains, ?_, fun zero => (refuses zero (.inl some_)).1⟩
      rcases code with zero | ⟨one, -⟩
      · exact (refuses zero (.inl some_)).2.trans stays
      · exact (g.accepts (tombstone_iff.mpr one)).2.2.trans stays
  · have notices := g.notices s given (by rw [keyN]; exact h.notices given gives) h.room
    rw [freshNotices_eq keyed (show n.version = v from rfl) (show n.contentTag = f.contentTag from rfl) (show n.size = f.size.toNat from rfl) kindN g.answered
      fun tombstone => (code.resolve_left fun zero => by rw [tombstone_iff.mp tombstone] at zero; cases zero).2, keyed] at notices
    exact notices

end Sys2Proof.Machine
end

section
/-! PROOFS. Transfers called off: outbound contexts end and their slots go back to the Work Queues (R105). -/

namespace Sys2Proof.Machine

/-! ## One transfer after the other -/

/-- R105: the context ends, and its record joins the tail of its region's Work Queue. -/
def callOff (s : State) (p : CtxNo × OutCtx) : State := requeue p.2.key p.2.dest (endOutbound p.1 s)

/-- One of the transfers was to the region for the key. -/
def Carries (l : List (CtxNo × OutCtx)) (k : Key) (x : Region) : Prop := ∃ p ∈ l, p.2.dest = x ∧ p.2.key = k

theorem carries_append_iff (l m : List (CtxNo × OutCtx)) (k : Key) (x : Region) : Carries (l ++ m) k x ↔ Carries l k x ∨ Carries m k x := by
  simp [Carries, or_and_right, exists_or]

/-- R105: the transfers of the list have been called off, in its order. -/
structure CalledOff (l : List (CtxNo × OutCtx)) (s t : State) : Prop where
  ended : ∀ p ∈ l, t.ctx p.1 = endedCtx p.1 p.2 s
  others : ∀ c, (∀ p ∈ l, p.1 ≠ c) → t.ctx c = s.ctx c
  order : t.pool.nextOrder = s.pool.nextOrder
  lost : ∀ p ∈ l, t.wan.holder ≠ some p.1
  freed : t.wan.holder = s.wan.holder ∨ t.wan.holder = none
  grant : (∀ p ∈ l, s.wan.holder ≠ some p.1) → t.wan.holder = s.wan.holder
  port : t.wan = { s.wan with queue := t.wan.queue, holder := t.wan.holder }
  ops : ∀ op, op ∈ t.hme.ops ↔ op ∈ s.hme.ops ∧ ¬ ∃ p ∈ l, op.use.readsFor p.1 = true ∧ op.untouched = true
  engine : t.hme = { s.hme with ops := t.hme.ops }
  lists : t.sched = { s.sched with work := t.sched.work }
  work : ∀ x, vget t.sched.work x = vget s.sched.work x ++ (l.filter fun p => p.2.dest = x).map fun p => p.2.key
  records : ∀ k r, s.table.find k = some r → r.state ≠ .settled → ∃ q, t.table.find k = some q ∧ { q with slots := r.slots } = r ∧
    ∀ x, (Carries l k x → vget q.slots x = (vget r.slots x).moved .pending) ∧ (¬ Carries l k x → vget q.slots x = vget r.slots x)
  apart : ∀ k, (∀ p ∈ l, p.2.key ≠ k) → t.table.find k = s.table.find k
  absent : ∀ k, s.table.find k = none → t.table.find k = none
  rest : (∀ p ∈ l, ∀ r, s.table.find p.2.key = some r → r.state ≠ .settled) → TableRestKept s t

theorem CalledOff.nil (s : State) : CalledOff [] s s where
  ended := fun _ mem => absurd mem List.not_mem_nil
  others := fun _ _ => rfl
  order := rfl
  lost := fun _ mem => absurd mem List.not_mem_nil
  freed := .inl rfl
  grant := fun _ => rfl
  port := rfl
  ops := fun _ => ⟨fun mem => ⟨mem, fun ⟨_, inNil, _⟩ => absurd inNil List.not_mem_nil⟩, And.left⟩
  engine := rfl
  lists := rfl
  work := fun _ => (List.append_nil _).symm
  records := fun _ r found _ => ⟨r, found, rfl, fun _ => ⟨fun ⟨_, mem, _⟩ => absurd mem List.not_mem_nil, fun _ => rfl⟩⟩
  apart := fun _ _ => rfl
  absent := fun _ none => none
  rest := fun _ => .refl s

theorem endOutbound_engine {c : CtxNo} {o : OutCtx} {s : State} (bound : s.ctx c = .out o) :
    (endOutbound c s).hme = { s.hme with ops := (endOutbound c s).hme.ops } ∧ (endOutbound c s).pool.nextOrder = s.pool.nextOrder := by
  let u := setCtx c (endedCtx c o s) (loseGrant c (dropReads c s))
  have pool : (loseGrant c (dropReads c s)).pool = s.pool := by simp [dropReads]
  have order : u.pool.nextOrder = s.pool.nextOrder := (congrArg Pool.nextOrder pool :)
  have engine : u.hme = { s.hme with ops := u.hme.ops } := by simp [u, dropReads]
  rcases endOutbound_cases bound with same | same
  · rw [same]
    exact ⟨engine, order⟩
  · have kept : KeepsAllBut [.table] u (retireIfDue o.key u) := keepsAllBut_iff.mpr (by simp)
    rw [same, show (retireIfDue o.key u).hme = u.hme from kept .engine (by decide), show (retireIfDue o.key u).pool = u.pool from kept .contexts (by decide)]
    exact ⟨engine, order⟩

theorem calledOff_single {s : State} {p : CtxNo × OutCtx} (bound : s.ctx p.1 = .out p.2) : CalledOff [p] s (callOff s p) := by
  obtain ⟨c, o⟩ := p
  dsimp only at bound
  let e := endOutbound c s
  let t := requeue o.key o.dest e
  show CalledOff [(c, o)] s t
  obtain ⟨kept, ctx, contexts, wan, ops, otherRecords, rising, reported, tableE⟩ := endOutbound_step bound
  obtain ⟨engine, order⟩ := endOutbound_engine bound
  have keptR : KeepsAllBut [.table, .lists] e t := requeue_keepsAllBut o.key o.dest e
  have pool : t.pool = e.pool := keptR .contexts (by decide)
  have wanT : t.wan = e.wan := keptR .port (by decide)
  have hme : t.hme = e.hme := keptR .engine (by decide)
  have holder : t.wan.holder = if s.wan.holder = some c then none else s.wan.holder := by rw [wanT, wan]
  have carries : ∀ k x, Carries [(c, o)] k x ↔ o.dest = x ∧ o.key = k := fun k x => by simp [Carries]
  have findE : ∀ k r, s.table.find k = some r → r.state ≠ .settled → e.table.find k = some r := fun k r found unsettled => by
    by_cases mine : k = o.key
    · subst mine
      rw [tableE fun q hq => by cases found.symm.trans hq; exact unsettled]
      exact found
    · exact (otherRecords k mine).trans found
  have absentE : ∀ k, s.table.find k = none → e.table.find k = none := fun k none => by
    by_cases mine : k = o.key
    · subst mine
      rw [tableE fun q hq => by rw [none] at hq; cases hq]
      exact none
    · exact (otherRecords k mine).trans none
  have sched : t.sched = { s.sched with work := vset s.sched.work o.dest (vget s.sched.work o.dest ++ [o.key]) } := by
    rw [← show e.sched = s.sched from kept .lists (by decide)]
    rfl
  refine ⟨fun p mem => ?_, fun d other => ?_, by rw [pool]; exact order, fun p mem => ?_, ?_, fun free => ?_, by rw [wanT, wan], fun op => ?_, by rw [hme]; exact engine,
    by rw [sched], fun x => ?_, fun k r found unsettled => ?_, fun k other => ?_, fun k none => ?_, fun unsettled => ?_⟩
  · cases List.mem_singleton.mp mem
    exact (ctx_congr pool c).trans ctx
  · exact (ctx_congr pool d).trans (contexts d (other _ (List.mem_singleton_self _)).symm)
  · cases List.mem_singleton.mp mem
    rw [holder]
    split
    · exact (Option.some_ne_none c).symm
    · assumption
  · rw [holder]
    split
    · exact .inr rfl
    · exact .inl rfl
  · rw [holder, if_neg (free _ (List.mem_singleton_self _))]
  · rw [hme, ops]
    simp
  · rw [sched]
    dsimp only
    rw [vget_vset]
    by_cases here : x = o.dest
    · subst here
      simp
    · simp [here, Ne.symm here]
  · by_cases mine : k = o.key
    · subst mine
      refine ⟨_, find_requeue_self (findE _ r found unsettled) o.dest, rfl, fun x => ?_⟩
      rw [carries, vget_withSlot]
      by_cases here : x = o.dest
      · subst here
        exact ⟨fun _ => if_pos rfl, fun no => absurd ⟨rfl, rfl⟩ no⟩
      · exact ⟨fun yes => absurd yes.1.symm here, fun _ => if_neg here⟩
    · refine ⟨r, (find_requeue_of_ne mine o.dest e).trans (findE k r found unsettled), rfl, fun x => ?_⟩
      rw [carries]
      exact ⟨fun yes => absurd yes.2.symm mine, fun _ => rfl⟩
  · have mine : k ≠ o.key := (other _ (List.mem_singleton_self _)).symm
    exact (find_requeue_of_ne mine o.dest e).trans (otherRecords k mine)
  · by_cases mine : k = o.key
    · subst mine
      obtain ⟨-, -, -, -, absentR, -⟩ := requeueAll_effect o.dest [o.key] e
      exact absentR _ (absentE _ none)
    · exact (find_requeue_of_ne mine o.dest e).trans (absentE k none)
  · have table : e.table = s.table := tableE (unsettled _ (List.mem_singleton_self _))
    have backlog : e.backlog = s.backlog := kept .backlog (by decide)
    have before : TableRestKept s e := by
      unfold TableRestKept PressureKept
      rw [table, backlog]
      exact ⟨rfl, rfl, rfl, rfl⟩
    exact before.trans (.of_alike (requeue_alike o.key o.dest e))

/-! ## Several transfers -/

section
variable {l m : List (CtxNo × OutCtx)} {s w t : State}

theorem CalledOff.endedCtx_of_other (h : CalledOff l s w) {c : CtxNo} (other : ∀ p ∈ l, p.1 ≠ c) (o : OutCtx) : endedCtx c o w = endedCtx c o s :=
  endedCtx_congr fun b => by
    rw [Bool.eq_iff_iff, readUntouched_iff, readUntouched_iff]
    refine exists_congr fun op => ⟨fun ⟨mem, use, untouched⟩ => ⟨((h.ops op).mp mem).1, use, untouched⟩, fun ⟨mem, use, untouched⟩ =>
      ⟨(h.ops op).mpr ⟨mem, fun ⟨p, inList, reads, _⟩ => ?_⟩, use, untouched⟩⟩
    rw [use, readsFor_segRead] at reads
    exact other p inList reads.symm

/-- Transfers called off behind others. -/
theorem CalledOff.append (h : CalledOff l s w) (g : CalledOff m w t) (apart : ∀ p ∈ l, ∀ q ∈ m, p.1 ≠ q.1) : CalledOff (l ++ m) s t := by
  refine ⟨fun p mem => ?_, fun c other => ?_, g.order.trans h.order, fun p mem => ?_, ?_, fun free => ?_, by rw [g.port, h.port], fun op => ?_, by rw [g.engine, h.engine],
    by rw [g.lists, h.lists], fun x => ?_, fun k r found unsettled => ?_, fun k other => ?_, fun k none => g.absent k (h.absent k none), fun unsettled => ?_⟩
  · rcases List.mem_append.mp mem with before | after
    · exact (g.others p.1 fun q inM => (apart p before q inM).symm).trans (h.ended p before)
    · exact (g.ended p after).trans (h.endedCtx_of_other (fun q inL => apart q inL p after) p.2)
  · exact (g.others c fun p inM => other p (List.mem_append_right _ inM)).trans (h.others c fun p inL => other p (List.mem_append_left _ inL))
  · rcases List.mem_append.mp mem with before | after
    · rcases g.freed with same | none
      · rw [same]
        exact h.lost p before
      · rw [none]
        exact (Option.some_ne_none _).symm
    · exact g.lost p after
  · rcases g.freed with same | none
    · rw [same]
      exact h.freed
    · exact .inr none
  · have before := h.grant fun p inL => free p (List.mem_append_left _ inL)
    exact (g.grant fun p inM => by rw [before]; exact free p (List.mem_append_right _ inM)).trans before
  · rw [g.ops, h.ops, and_assoc]
    refine and_congr_right fun _ => ?_
    rw [← not_or, not_iff_not]
    simp [or_and_right, exists_or]
  · rw [g.work, h.work, List.append_assoc, List.filter_append, List.map_append]
  · obtain ⟨q, stands, fields, slots⟩ := h.records k r found unsettled
    have state : q.state = r.state := (congrArg Record.state fields :)
    obtain ⟨e, standsE, fieldsE, slotsE⟩ := g.records k q stands (by rw [state]; exact unsettled)
    refine ⟨e, standsE, ?_, fun x => ?_⟩
    · rw [← fields, ← fieldsE]
    · obtain ⟨moved, same⟩ := slots x
      obtain ⟨movedE, sameE⟩ := slotsE x
      rw [carries_append_iff]
      by_cases inM : Carries m k x
      · refine ⟨fun _ => ?_, fun no => absurd (.inr inM) no⟩
        rw [movedE inM]
        by_cases inL : Carries l k x
        · rw [moved inL, moved_moved]
        · rw [same inL]
      · rw [sameE inM]
        exact ⟨fun yes => moved (yes.resolve_right inM), fun no => same fun inL => no (.inl inL)⟩
  · exact (g.apart k fun p inM => other p (List.mem_append_right _ inM)).trans (h.apart k fun p inL => other p (List.mem_append_left _ inL))
  · refine (h.rest fun p inL => unsettled p (List.mem_append_left _ inL)).trans (g.rest fun p inM r found => ?_)
    cases was : s.table.find p.2.key with
    | none =>
      rw [h.absent _ was] at found
      cases found
    | some r' =>
      have before := unsettled p (List.mem_append_right _ inM) r' was
      obtain ⟨q, stands, fields, -⟩ := h.records _ r' was before
      cases stands.symm.trans found
      have state : r.state = r'.state := (congrArg Record.state fields :)
      rw [state]
      exact before

theorem calledOff_foldl (l : List (CtxNo × OutCtx)) (s : State) (bound : ∀ p ∈ l, s.ctx p.1 = .out p.2) (single : (l.map Prod.fst).Nodup) :
    CalledOff l s (l.foldl callOff s) := by
  induction l using List.reverseRecOn with
  | nil => exact .nil s
  | append_singleton l p ih =>
    rw [List.map_append, List.nodup_append] at single
    obtain ⟨singleL, -, apart⟩ := single
    have h := ih (fun q mem => bound q (List.mem_append_left _ mem)) singleL
    have other : ∀ q ∈ l, q.1 ≠ p.1 := fun q mem => apart q.1 (List.mem_map_of_mem mem) p.1 (by simp)
    rw [List.foldl_append]
    refine h.append (calledOff_single ((h.others p.1 other).trans (bound p (by simp)))) fun q mem r inP => ?_
    cases List.mem_singleton.mp inP
    exact other q mem

/-- What region entries and notices on regions do not touch. -/
theorem CalledOff.after (h : CalledOff l s w) (kept : KeepsAllBut [.regions, .backlog, .port] w t) (pressure : t.backlog.owedPressure = w.backlog.owedPressure)
    (wan : t.wan = { w.wan with queue := t.wan.queue }) : CalledOff l s t := by
  have pool : t.pool = w.pool := kept .contexts (by decide)
  have table : t.table = w.table := kept .table (by decide)
  have sched : t.sched = w.sched := kept .lists (by decide)
  have hme : t.hme = w.hme := kept .engine (by decide)
  have ctx := ctx_congr pool
  have holder : t.wan.holder = w.wan.holder := by rw [wan]
  obtain ⟨ended, others, order, lost, freed, grant, port, ops, engine, lists, work, records, apart, absent, rest⟩ := h
  refine ⟨fun p mem => (ctx p.1).trans (ended p mem), fun c other => (ctx c).trans (others c other), by rw [pool]; exact order, by rw [holder]; exact lost,
    by rw [holder]; exact freed, by rw [holder]; exact grant, by rw [wan, port], by rw [hme]; exact ops, by rw [hme]; exact engine, by rw [sched]; exact lists,
    by rw [sched]; exact work, by rw [table]; exact records, by rw [table]; exact apart, by rw [table]; exact absent, fun unsettled => ?_⟩
  obtain ⟨linger, rising, reported, owed⟩ := rest unsettled
  exact ⟨by rw [table]; exact linger, by rw [table]; exact rising, by rw [table]; exact reported, pressure.trans owed⟩

end

/-! ## The transfers to a region, in the order of their binding (R64) -/

/-- R64: the transfer of a context, if it is to the region. -/
def boundEntry (s : State) (x : Region) (c : CtxNo) : Option (CtxNo × OutCtx) := match s.ctx c with
  | .out o => if o.state != .aborting && o.dest == x then some (c, o) else none
  | _ => none

theorem boundTo_eq (s : State) (x : Region) :
    s.boundTo x = ((List.finRange 64).filterMap (boundEntry s x)).insertionSort fun a b => a.2.order ≤ b.2.order := rfl

theorem boundEntry_eq_some_iff {s : State} {x : Region} {c : CtxNo} {p : CtxNo × OutCtx} :
    boundEntry s x c = some p ↔ p.1 = c ∧ s.ctx c = .out p.2 ∧ p.2.state ≠ .aborting ∧ p.2.dest = x := by
  rw [boundEntry]
  cases bound : s.ctx c with
  | free => exact iff_of_false (fun h => by cases h) fun h => by cases h.2.1
  | inb i => exact iff_of_false (fun h => by cases h) fun h => by cases h.2.1
  | out o =>
    dsimp only
    constructor
    · intro chosen
      split at chosen
      · rename_i passes
        cases chosen
        exact ⟨rfl, rfl, by simpa using passes⟩
      · cases chosen
    · rintro ⟨rfl, same, state, dest⟩
      cases same
      exact if_pos (by simp [state, dest])

theorem mem_boundTo {s : State} {x : Region} {p : CtxNo × OutCtx} : p ∈ s.boundTo x ↔ s.ctx p.1 = .out p.2 ∧ p.2.state ≠ .aborting ∧ p.2.dest = x := by
  rw [boundTo_eq, List.mem_insertionSort, List.mem_filterMap]
  constructor
  · rintro ⟨c, -, chosen⟩
    obtain ⟨rfl, bound⟩ := boundEntry_eq_some_iff.mp chosen
    exact bound
  · exact fun bound => ⟨p.1, List.mem_finRange _, boundEntry_eq_some_iff.mpr ⟨rfl, bound⟩⟩

theorem boundTo_sorted (s : State) (x : Region) : (s.boundTo x).Pairwise fun a b => a.2.order ≤ b.2.order := by
  have total : Std.Total (fun a b : CtxNo × OutCtx => a.2.order ≤ b.2.order) := ⟨fun a b => Nat.le_total ..⟩
  have trans : IsTrans (CtxNo × OutCtx) (fun a b => a.2.order ≤ b.2.order) := ⟨fun a b c => Nat.le_trans⟩
  exact List.pairwise_insertionSort _ _

theorem boundTo_nodup (s : State) (x : Region) : ((s.boundTo x).map Prod.fst).Nodup := by
  have apart : (List.finRange 64).Pairwise (· ≠ ·) := List.nodup_finRange 64
  have distinct : ((List.finRange 64).filterMap (boundEntry s x)).Pairwise fun a b => a.1 ≠ b.1 := apart.filterMap _ fun c d other p isC q isD => by
    rw [(boundEntry_eq_some_iff.mp isC).1, (boundEntry_eq_some_iff.mp isD).1]
    exact other
  exact List.pairwise_map.mpr (((List.perm_insertionSort _ _).pairwise_iff fun h => Ne.symm h).mpr distinct)

/-! ## The transfers to one region, or to several -/

theorem abortRegion_eq (x : Region) (s : State) : abortRegion x s = (s.boundTo x).foldl callOff s :=
  List.foldl_ext _ _ _ fun t p mem => by rw [callOff, (mem_boundTo.mp mem).2.2]

theorem abortRegion_calledOff (x : Region) (s : State) : CalledOff (s.boundTo x) s (abortRegion x s) := by
  rw [abortRegion_eq]
  exact calledOff_foldl _ s (fun p mem => (mem_boundTo.mp mem).1) (boundTo_nodup s x)

theorem callOff_queue (s : State) (p : CtxNo × OutCtx) : (callOff s p).wan.queue = s.wan.queue := by
  have kept : KeepsAllBut [.table, .lists] (endOutbound p.1 s) (callOff s p) := requeue_keepsAllBut p.2.key p.2.dest (endOutbound p.1 s)
  rw [show (callOff s p).wan = _ from kept .port (by decide)]
  exact endOutbound_queue ..

theorem abortRegion_queue (x : Region) (s : State) : (abortRegion x s).wan.queue = s.wan.queue := by
  rw [abortRegion_eq]
  exact foldl_keeps (fun t : State => t.wan.queue) callOff callOff_queue _ s

/-- Two lists of the same transfers in the order of their binding are equal. -/
theorem eq_of_ordered {l ps : List (CtxNo × OutCtx)} (single : l.Nodup) (sorted : l.Pairwise fun a b => a.2.order ≤ b.2.order) (same : ∀ p, p ∈ ps ↔ p ∈ l)
    (strict : ps.Pairwise fun a b => a.2.order < b.2.order) : l = ps := by
  have singlePs : ps.Nodup := strict.imp fun less same => by rw [same] at less; exact absurd less (lt_irrefl _)
  refine ((List.perm_ext_iff_of_nodup single singlePs).mpr fun p => (same p).symm).eq_of_pairwise (le := fun a b => a.2.order ≤ b.2.order) (fun a b inL inPs le ge => ?_) sorted
    (strict.imp Nat.le_of_lt)
  by_contra other
  have symm : Std.Symm fun a b : CtxNo × OutCtx => a.2.order ≠ b.2.order := ⟨fun _ _ => Ne.symm⟩
  have differ : ps.Pairwise fun a b => a.2.order ≠ b.2.order := strict.imp Nat.ne_of_lt
  exact differ.forall ((same a).mpr inL) inPs other (Nat.le_antisymm le ge)

/-- R105: from the list of the transfers to what the statements say. -/
theorem CalledOff.transfers {l : List (CtxNo × OutCtx)} {named : Region → Prop} {s t : State} (h : CalledOff l s t)
    (mem : ∀ p, p ∈ l ↔ s.ctx p.1 = .out p.2 ∧ p.2.state ≠ .aborting ∧ named p.2.dest) (single : l.Nodup)
    (sorted : ∀ x, named x → (l.filter fun p => p.2.dest = x).Pairwise fun a b => a.2.order ≤ b.2.order) : TransfersCalledOff named s t := by
  unfold TransfersCalledOff
  intro bound boundFor
  have memOf : ∀ {c o}, (c, o) ∈ l ↔ bound c o := fun {c o} => mem (c, o)
  have carries : ∀ k x, Carries l k x ↔ boundFor k x := fun k x => by
    constructor
    · rintro ⟨p, inL, rfl, key⟩
      exact ⟨((mem p).mp inL).2.2, p.1, p.2, (mem p).mp inL, rfl, key⟩
    · rintro ⟨-, c, o, is, dest, key⟩
      exact ⟨(c, o), memOf.mpr is, dest, key⟩
  refine ⟨fun c o is => ⟨contextEnded_of_ctx (h.ended _ (memOf.mpr is)), h.lost _ (memOf.mpr is)⟩, fun c none => h.others c fun p inL same => ?_, h.order,
    fun free => h.grant fun p inL => free p.1 p.2 ((mem p).mp inL), h.port, fun op => ?_, h.engine, h.lists, fun x not => ?_, fun x ps is members strict => ?_,
    fun k r found unsettled => ?_, fun k none => h.apart k fun p inL key => ?_, fun unsettled => h.rest fun p inL r found state => ?_⟩
  · subst same
    exact none p.2 ((mem p).mp inL)
  · rw [h.ops]
    simp only [Prod.exists, memOf]
  · have empty : (l.filter fun p => p.2.dest = x) = [] := List.filter_eq_nil_iff.mpr fun p inL dest => not (by
      rw [← of_decide_eq_true dest]
      exact ((mem p).mp inL).2.2)
    rw [h.work, empty]
    exact List.append_nil _
  · rw [h.work, eq_of_ordered (single.filter _) (sorted x is) (fun p => ?_) strict]
    rw [members, List.mem_filter, mem, decide_eq_true_iff]
  · obtain ⟨q, stands, fields, slots⟩ := h.records k r found unsettled
    exact ⟨q, stands, fields, fun x => by rw [← carries]; exact slots x⟩
  · exact none p.2.dest ((carries k p.2.dest).mp ⟨p, inL, rfl, key⟩)
  · exact unsettled _ r found state p.2.dest ((carries _ p.2.dest).mp ⟨p, inL, rfl, rfl⟩)

end Sys2Proof.Machine
end

section
/-! PROOFS. O57: a REGION.SET that suspends a region or returns it (R145, R143, R146). -/

namespace Sys2Proof.Machine

/-! ## What is sendable (R149) -/

theorem not_sendable_of_not_live {s : State} {x : Region} (state : (s.region x).state ≠ .live) : s.sendable x = false := by
  rw [State.sendable, RegionEntry.sendable, beq_false_of_ne state]
  rfl

theorem stallOnChange_of_other {deadline : Nat} {x : Region} {b : Bool} {c : Ctx} (none : ∀ o, c = .out o → ¬ (o.state = .sending ∧ o.dest = x)) :
    stallOnChange deadline x b c = c := by
  cases c with
  | free => rfl
  | inb i => rfl
  | out o => exact if_neg fun is => none o rfl (by simpa using is)

/-- R149: without a context SENDING to the region there is nothing to hand on. -/
theorem handingOn_of_none {x : Region} {event : State → State} {s : State} (none : ∀ c o, (event s).ctx c = .out o → ¬ (o.state = .sending ∧ o.dest = x)) :
    handingOn x event s = event s := by
  by_cases same : (event s).sendable x = s.sendable x
  · exact handingOn_of_same same
  · rw [handingOn_of_changed same]
    have ctx : (event s).pool.ctx.map (stallOnChange ((event s).now + (event s).settingTime 0) x ((event s).sendable x)) = (event s).pool.ctx :=
      Vector.ext fun i hi => (Vector.getElem_map ..).trans (stallOnChange_of_other (none ⟨i, hi⟩))
    rw [ctx]
    rfl

/-! ## The notice and the groups of the request (R146, R153) -/

/-- R146, R153: what a REGION.SET that changes the region's state from `e` to `e'` leaves at the entry and in the Backlog. -/
def RegionReported (q : RegionSetReq) (x : Region) (e e' : RegionEntry) (aborted : Nat) (s t : State) : Prop :=
  let after := RegionSetReq.written q e'
  let notice : EntryBody := .notice (.regionState x e'.state e.lastReported e'.miss (e.unreported + 1)) false
  let done : EntryBody := .completion { ring := .management, tag := q.tag, kind := 0x21, status := .ok,
                                        body := .regionSet e.state e'.state aborted after.phase after.remaining }
  t.backlog.reservations = s.backlog.reservations ∧ OtherRegions x s t ∧ t.regions.probe = s.regions.probe ∧
  (s.roomOnceTaken 1 → t.backlog.entries = s.backlog.entries ++ waitingEntries [notice, done] ∧
    t.region x = { after with lastReported := e'.state, unreported := 0 }) ∧
  (¬ s.roomOnceTaken 1 → t.backlog.entries = s.backlog.entries ++ waitingEntries [done] ∧
    t.region x = { after with unreported := min 255 (e.unreported + 1), owed := true })

/-- The notice, the groups and the completion, behind a state `u` whose region has changed. -/
theorem regionReported_of_changed {q : RegionSetReq} {s u : State} {x : Region} {e e' : RegionEntry} (ok : s.takeOk .management = true) (was : s.region x = e)
    (changed : u.region x = e') (reported : e'.lastReported = e.lastReported) (unreported : e'.unreported = e.unreported) (room : RoomKept (reserve s) u)
    (backlog : u.backlog = (reserve s).backlog) (others : OtherRegions x (reserve s) u) (probe : u.regions.probe = s.regions.probe) (aborted : Nat) :
    let w := modRegion x (RegionSetReq.written q) (reportRegion x u)
    let t := answer .management q.tag .regionSet .ok (.regionSet (s.region x).state (w.region x).state aborted (w.region x).phase (w.region x).remaining) w
    KeepsAllBut [.regions, .backlog] u t ∧ RegionReported q x e e' aborted s t ∧ t.backlog.owedPressure = u.backlog.owedPressure ∧ (w.region x).state = e'.state := by
  intro w t
  let after := RegionSetReq.written q e'
  obtain ⟨keptR, othersR, probeR, fits, full⟩ := reportRegion_effect x u
  obtain ⟨keptM, entry, othersM, probeM⟩ := modRegion_effect x (RegionSetReq.written q) (reportRegion x u)
  have keptA : KeepsAllBut [.backlog] w t := answer_keepsAllBut _ _ _ _ _ w
  have taken : u.hasRoom 1 ↔ s.roomOnceTaken 1 := by
    rw [room.hasRoom (by rw [backlog]) (by rw [backlog]) (by rw [backlog]), hasRoom_reserve ok]
  have regions : t.regions = w.regions := keptA .regions (by decide)
  have backlogW : w.backlog = (reportRegion x u).backlog := keptM .backlog (by decide)
  have regionT : ∀ y, t.region y = w.region y := fun y => by rw [State.region, regions]; rfl
  rw [changed, reported, unreported, taken] at fits
  rw [changed, unreported, taken] at full
  have same : (w.region x).state = e'.state ∧ (w.region x).phase = after.phase ∧ (w.region x).remaining = after.remaining := by
    by_cases yes : s.roomOnceTaken 1
    · rw [entry, (fits yes).1]
      exact ⟨rfl, rfl, rfl⟩
    · rw [entry, (full yes).1]
      exact ⟨rfl, rfl, rfl⟩
  obtain ⟨state, phase, remaining⟩ := same
  have done : t = answer .management q.tag .regionSet .ok (.regionSet e.state e'.state aborted after.phase after.remaining) w := by
    show answer _ _ _ _ _ w = _
    rw [state, phase, remaining, was]
  let answered : Completion := { ring := .management, tag := q.tag, kind := 0x21, status := .ok,
                                 body := .regionSet e.state e'.state aborted after.phase after.remaining }
  have entries : t.backlog.entries = (reportRegion x u).backlog.entries ++ waitingEntries [.completion answered] := by
    rw [done, ← backlogW]
    rfl
  have reservations : t.backlog.reservations = (reportRegion x u).backlog.reservations - 1 := by
    rw [done, ← backlogW]
    rfl
  have pressure : t.backlog.owedPressure = (reportRegion x u).backlog.owedPressure := by
    rw [done, ← backlogW]
    rfl
  refine ⟨(keptR.trans (zs := [.regions, .backlog]) keptM (by decide) (by decide)).trans keptA (by decide) (by decide),
    ⟨?_, fun y hy => ?_, ?_, fun yes => ⟨?_, ?_⟩, fun no => ⟨?_, ?_⟩⟩, ?_, state⟩
  · rw [reservations]
    by_cases yes : s.roomOnceTaken 1
    · rw [(fits yes).2, backlog]
      rfl
    · rw [(full yes).2, backlog]
      rfl
  · exact (regionT y).trans ((othersM y hy).trans ((othersR y hy).trans (others y hy)))
  · rw [regions, probeM, probeR, probe]
  · rw [entries, (fits yes).2, backlog, List.append_assoc]
    rfl
  · rw [regionT, entry, (fits yes).1]
    rfl
  · rw [entries, (full no).2, backlog]
    rfl
  · rw [regionT, entry, (full no).1]
    rfl
  · rw [pressure]
    by_cases yes : s.roomOnceTaken 1
    · rw [(fits yes).2]
    · rw [(full yes).2]

/-! ## The two changes of state (R143, R145) -/

/-- R152, R153: a REGION.SET that passes its checks. -/
theorem exec_regionSet_of_good {q : RegionSetReq} {s w : State} {aborted : Nat} (ok : s.takeOk .management = true)
    (other : q.index.toNat < s.regionCount ∧ q.index.toNat ≠ s.ownIndex) (good : ¬ RegionSetReq.badSetting q s)
    (station : q.applyStation = true → (s.region (regionOf q.index)).state = .suspended)
    (leaves : handingOn (regionOf q.index) (fun t => modRegion (regionOf q.index) (RegionSetReq.written q) (applyEnable q (regionOf q.index) t)) (reserve s) = w)
    (count : suspendCount q (regionOf q.index) (reserve s) = aborted) :
    exec (.regionSet .management q) s = .next (answer .management q.tag .regionSet .ok (.regionSet (s.region (regionOf q.index)).state (w.region (regionOf q.index)).state
      aborted (w.region (regionOf q.index)).phase (w.region (regionOf q.index)).remaining) w) := by
  have settings : ¬ badRegionSetting q ((reserve s).region (regionOf (BitVec.ofNat 8 (reserve s).ownIndex))).station = true := mt (badRegionSetting_iff q s).mp good
  have wrong : ¬ (q.applyStation && ((reserve s).region (regionOf q.index)).state != .suspended) = true := fun is => by
    rw [Bool.and_eq_true, bne_iff_ne] at is
    exact is.2 (station is.1)
  rw [exec_regionSet, taking_of_takeOk ok, takeRegionSet, managed_management, otherRegion_of_other (s := reserve s) other]
  dsimp only
  rw [if_neg settings, if_neg wrong, funext (applyGroups_eq good), leaves, count]
  rfl

theorem CalledOff.after_kept {l : List (CtxNo × OutCtx)} {s w t : State} (h : CalledOff l s w) (kept : KeepsAllBut [.regions, .backlog] w t)
    (pressure : t.backlog.owedPressure = w.backlog.owedPressure) : CalledOff l s t :=
  h.after (kept.weaken (by decide)) pressure (by rw [show t.wan = w.wan from kept .port (by decide)])

/-- R105: no transfer to the region is left SENDING. -/
theorem none_sending {x : Region} {s t : State} (h : CalledOff (s.boundTo x) s t) (c : CtxNo) (o : OutCtx) (bound : t.ctx c = .out o) :
    ¬ (o.state = .sending ∧ o.dest = x) := by
  rintro ⟨sending, dest⟩
  by_cases mine : ∃ p ∈ s.boundTo x, p.1 = c
  · obtain ⟨p, mem, rfl⟩ := mine
    have now := (h.ended p mem).symm.trans bound
    rw [endedCtx] at now
    split at now
    · cases now
      cases sending
    · cases now
  · push Not at mine
    refine mine (c, o) (mem_boundTo.mpr ⟨(h.others c mine).symm.trans bound, ?_, dest⟩) rfl
    rw [sending]
    decide

theorem suspendCount_eq {q : RegionSetReq} {s : State} {x : Region} {cs : List CtxNo} (applies : q.applyEnable = true) (disable : q.enable = false)
    (probed : (s.region x).state = .dark ∨ (s.region x).state = .live) (single : cs.Nodup)
    (mem : ∀ c, c ∈ cs ↔ ∃ o, s.ctx c = .out o ∧ o.state ≠ .aborting ∧ o.dest = x) : suspendCount q x s = cs.length := by
  have same : ((s.boundTo x).map Prod.fst).Perm cs := (List.perm_ext_iff_of_nodup (boundTo_nodup s x) single).mpr fun c => by
    rw [mem, List.mem_map]
    exact ⟨fun ⟨p, inList, here⟩ => ⟨p.2, by rw [← here]; exact mem_boundTo.mp inList⟩, fun ⟨o, bound⟩ => ⟨(c, o), mem_boundTo.mpr bound, rfl⟩⟩
  rw [suspendCount, if_pos (by rcases probed with dark | live <;> simp [*, RegionState.probed]), ← same.length_eq, List.length_map]

/-- R145: the entry of a region that is suspended. -/
def suspendedEntry (e : RegionEntry) : RegionEntry := { e with state := .suspended, backoff := none, held := none }

/-- R145: the region suspended, but for its notice. -/
def suspendedState (x : Region) (s : State) : State :=
  let u := modRegion x suspendedEntry (abortRegion x s)
  u.withWan { u.wan with queue := u.wan.queue.filter fun f => f.dest != x }

theorem applyEnable_suspends {q : RegionSetReq} {x : Region} {s : State} (applies : q.applyEnable = true) (disable : q.enable = false)
    (probed : (s.region x).state = .dark ∨ (s.region x).state = .live) : applyEnable q x s = reportRegion x (suspendedState x s) := by
  rw [applyEnable, if_pos applies, disable]
  rcases probed with dark | live
  · rw [dark]
    rfl
  · rw [live]
    rfl

theorem suspendedState_effect (x : Region) (s : State) : let t := suspendedState x s
    KeepsAllBut [.contexts, .port, .engine, .table, .lists, .regions] s t ∧ CalledOff (s.boundTo x) s t ∧ t.region x = suspendedEntry (s.region x) ∧ OtherRegions x s t ∧
      t.regions.probe = s.regions.probe ∧ t.wan.queue = (s.wan.queue.filter fun f => f.dest != x) ∧ RoomKept s t := by
  intro t
  let a := abortRegion x s
  let u := modRegion x suspendedEntry a
  have keptA : KeepsAllBut [.contexts, .port, .engine, .table, .lists] s a := keepsAllBut_iff.mpr (by simp [a])
  obtain ⟨keptM, entry, others, probe⟩ := modRegion_effect x suspendedEntry a
  have keptT : KeepsAllBut [.port] u t := keepsAllBut_iff.mpr (by simp [t, suspendedState, u, a])
  have keptAT : KeepsAllBut [.regions, .port] a t := keptM.trans keptT (by decide) (by decide)
  have regions : t.regions = u.regions := keptT .regions (by decide)
  have regionsA : a.regions = s.regions := keptA .regions (by decide)
  have regionT : ∀ y, t.region y = u.region y := fun y => by rw [State.region, regions]; rfl
  have regionA : ∀ y, a.region y = s.region y := fun y => by rw [State.region, regionsA]; rfl
  refine ⟨keptA.trans keptAT (by decide) (by decide), (abortRegion_calledOff x s).after (keptAT.weaken (by decide)) ?_ ?_, ?_, fun y hy => ?_, ?_, ?_, ?_⟩
  · rw [show t.backlog = a.backlog from keptAT .backlog (by decide)]
  · rfl
  · rw [regionT, entry, regionA]
  · rw [regionT, others y hy, regionA]
  · rw [regions, probe, regionsA]
  · show (a.wan.queue.filter _) = _
    rw [abortRegion_queue]
  · exact ((RoomKept.of_keeps keptA).trans (modRegion_roomKept x (f := suspendedEntry) (fun _ => rfl) a)).trans (.of_keeps keptT)

/-- R143: the entry of a region that returns. -/
def returnedEntry (e : RegionEntry) : RegionEntry := { e with state := .dark, miss := 0, heard := false }

theorem applyEnable_returns {q : RegionSetReq} {x : Region} {s : State} (applies : q.applyEnable = true) (enable : q.enable = true)
    (state : (s.region x).state = .suspended) : applyEnable q x s = reportRegion x (modRegion x returnedEntry s) := by
  rw [applyEnable, if_pos applies, enable, state]
  rfl

/-- Settles O57. -/
theorem regionSetSuspendsAndReturnsARegion : Obligations.RegionSetSuspendsAndReturnsARegion := by
  intro q s ok known notOwn applies good x e reports bound
  let d := reserve s
  have keptD : KeepsAllBut [.backlog] s d := keepsAllBut_withBacklog _ s
  refine ⟨fun enable state => ?_, fun cs disable noStation probed single mem => ?_⟩
  · let u := modRegion x returnedEntry d
    let w := modRegion x (RegionSetReq.written q) (reportRegion x u)
    obtain ⟨keptU, entry, others, probe⟩ := modRegion_effect x returnedEntry d
    obtain ⟨kept, reported, -, state'⟩ := regionReported_of_changed (q := q) ok rfl entry rfl rfl (modRegion_roomKept x (f := returnedEntry) (fun _ => rfl) d)
      (keptU .backlog (by decide)) others probe 0
    have dark : (w.region x).state = .dark := state'
    have event : modRegion x (RegionSetReq.written q) (applyEnable q x d) = w := by rw [applyEnable_returns (s := d) applies enable state]
    have leaves : handingOn x (fun t => modRegion x (RegionSetReq.written q) (applyEnable q x t)) d = w := by
      refine (handingOn_of_same ?_).trans event
      rw [event, not_sendable_of_not_live (s := d) (by rw [show (d.region x).state = .suspended from state]; decide), not_sendable_of_not_live (by rw [dark]; decide)]
    exact ⟨_, exec_regionSet_of_good ok ⟨known, notOwn⟩ good (fun _ => state) leaves (if_neg (by rw [enable]; simp)),
      (keptD.trans (zs := [.backlog, .regions]) keptU (by decide) (by decide)).trans kept (by decide) (by decide), reported⟩
  · let u := suspendedState x d
    let w := modRegion x (RegionSetReq.written q) (reportRegion x u)
    obtain ⟨keptU, called, entry, others, probe, queue, room⟩ := suspendedState_effect x d
    obtain ⟨kept, reported, pressure, -⟩ := regionReported_of_changed (q := q) ok rfl entry rfl rfl room (keptU .backlog (by decide)) others probe cs.length
    have keptW : KeepsAllBut [.regions, .backlog] u w := by
      obtain ⟨keptR, -⟩ := reportRegion_effect x u
      obtain ⟨keptM, -⟩ := modRegion_effect x (RegionSetReq.written q) (reportRegion x u)
      exact keptR.trans keptM (by decide) (by decide)
    have pool : w.pool = u.pool := keptW .contexts (by decide)
    have leaves : handingOn x (fun t => modRegion x (RegionSetReq.written q) (applyEnable q x t)) d = w := by
      have event : modRegion x (RegionSetReq.written q) (applyEnable q x d) = w := by rw [applyEnable_suspends (s := d) applies disable probed]
      refine (handingOn_of_none fun c o out => none_sending called c o ?_).trans event
      rw [event] at out
      exact (ctx_congr pool c).symm.trans out
    refine ⟨_, exec_regionSet_of_good ok ⟨known, notOwn⟩ good (fun station => by rw [noStation] at station; cases station) leaves
        (suspendCount_eq applies disable probed single mem),
      (keptD.trans (zs := [.backlog, .regions, .contexts, .table, .lists, .port, .engine]) keptU (by decide) (by decide)).trans kept (by decide) (by decide),
      reported, (congrArg Wan.queue (kept .port (by decide))).trans queue, ?_⟩
    exact (called.after_kept kept pressure).transfers (named := fun y => y = x)
      (fun p => mem_boundTo) (boundTo_nodup d x).of_map fun y is => (boundTo_sorted d x).filter _

end Sys2Proof.Machine
end

section
/-! PROOFS. LIVE regions at the miss limit become DARK, one after the other (R141 step 2, R143, R146). -/

namespace Sys2Proof.Machine

/-! ## The transfers to several regions -/

section
variable {d w : State} {l : List (CtxNo × OutCtx)} {x : Region}

/-- R105: the transfers to a region are the same before and after those to other regions are called off. -/
theorem boundTo_of_calledOff (h : CalledOff l d w) (other : ∀ p ∈ l, d.ctx p.1 = .out p.2 ∧ p.2.dest ≠ x) : w.boundTo x = d.boundTo x := by
  have same : boundEntry w x = boundEntry d x := by
    funext c
    ext p
    rw [boundEntry_eq_some_iff, boundEntry_eq_some_iff]
    refine and_congr_right fun here => ?_
    by_cases mine : ∃ q ∈ l, q.1 = c
    · obtain ⟨q, mem, rfl⟩ := mine
      obtain ⟨was, dest⟩ := other q mem
      refine iff_of_false (fun ⟨now, state, _⟩ => ?_) fun ⟨out, _, toX⟩ => ?_
      · have ended := (h.ended q mem).symm.trans now
        rw [endedCtx] at ended
        split at ended
        · rw [← Ctx.out.inj ended] at state
          exact state rfl
        · cases ended
      · rw [Ctx.out.inj (was.symm.trans out)] at dest
        exact dest toX
    · push Not at mine
      rw [h.others c mine]
  rw [boundTo_eq, boundTo_eq, same]

/-- The transfers to the regions, region after region. -/
def boundToAll (d : State) (regions : List Region) : List (CtxNo × OutCtx) := regions.flatMap d.boundTo

theorem mem_boundToAll {regions : List Region} {p : CtxNo × OutCtx} : p ∈ boundToAll d regions ↔ d.ctx p.1 = .out p.2 ∧ p.2.state ≠ .aborting ∧ p.2.dest ∈ regions := by
  rw [boundToAll, List.mem_flatMap]
  constructor
  · rintro ⟨y, mem, inBound⟩
    obtain ⟨out, state, rfl⟩ := mem_boundTo.mp inBound
    exact ⟨out, state, mem⟩
  · exact fun ⟨out, state, mem⟩ => ⟨p.2.dest, mem, mem_boundTo.mpr ⟨out, state, rfl⟩⟩

theorem boundToAll_nodup {regions : List Region} (single : regions.Nodup) : (boundToAll d regions).Nodup := by
  refine List.nodup_flatMap.mpr ⟨fun y _ => (boundTo_nodup d y).of_map, single.imp fun {y z} other p inY inZ => other ?_⟩
  rw [← (mem_boundTo.mp inY).2.2, ← (mem_boundTo.mp inZ).2.2]

theorem boundToAll_sorted {regions : List Region} (single : regions.Nodup) (x : Region) :
    ((boundToAll d regions).filter fun p => p.2.dest = x).Pairwise fun a b => a.2.order ≤ b.2.order := by
  rw [boundToAll, List.filter_flatMap]
  refine List.pairwise_flatMap.mpr ⟨fun y _ => (boundTo_sorted d y).filter _, single.imp fun {y z} other p inY q inZ => (other ?_).elim⟩
  obtain ⟨boundY, toY⟩ := List.mem_filter.mp inY
  obtain ⟨boundZ, toZ⟩ := List.mem_filter.mp inZ
  rw [← (mem_boundTo.mp boundY).2.2, ← (mem_boundTo.mp boundZ).2.2, of_decide_eq_true toY, of_decide_eq_true toZ]

end

/-! ## The notices of several regions -/

/-- R187: the places for notices. -/
def noticeRoom (d : State) : Nat := if d.anyOwed = true then 0 else 64 - (d.backlog.entries.length + d.backlog.reservations)

/-- R146: the notice of a region that becomes DARK. -/
def darkNotice (d : State) (x : Region) : EntryBody :=
  .notice (.regionState x .dark (d.region x).lastReported (d.region x).miss ((d.region x).unreported + 1)) false

/-- R143: the entry of a region that becomes DARK. -/
def darkEntry (e : RegionEntry) : RegionEntry := { e with state := .dark, backoff := none, held := none }

/-- R146: the entry of a region that has become DARK, with its notice placed or owed. -/
def darkAfter (d : State) (l : List Region) (x : Region) : RegionEntry :=
  if x ∈ l.take (noticeRoom d) then { darkEntry (d.region x) with lastReported := .dark, unreported := 0 }
  else { darkEntry (d.region x) with unreported := min 255 ((d.region x).unreported + 1), owed := true }

theorem hasRoom_one_iff (s : State) : s.hasRoom 1 ↔ s.anyOwed = false ∧ s.backlog.entries.length + s.backlog.reservations < 64 := by
  rw [State.hasRoom, fits_iff]
  refine and_congr_right fun _ => ?_
  omega

theorem anyOwed_of_region {s : State} {x : Region} (owed : (s.region x).owed = true) : s.anyOwed = true := by
  rw [← Bool.not_eq_false, anyOwed_eq_false_iff]
  exact fun none => Bool.false_ne_true ((none.2.1 x).symm.trans owed)

/-- R141 step 2: the regions of the list have become DARK, in its order. -/
structure WentDark (l : List Region) (d w : State) : Prop where
  kept : KeepsAllBut [.regions, .lists, .table, .backlog, .contexts, .port, .engine] d w
  called : CalledOff (boundToAll d l) d w
  probe : w.regions.probe = d.regions.probe
  others : ∀ y, y ∉ l → w.region y = d.region y
  backlog : w.backlog = { d.backlog with entries := d.backlog.entries ++ waitingEntries ((l.take (noticeRoom d)).map (darkNotice d)) }
  entries : ∀ x ∈ l, w.region x = darkAfter d l x
  queue : w.wan.queue = d.wan.queue
  room : w.hasRoom 1 ↔ l.length < noticeRoom d

theorem wentDark_nil (d : State) : WentDark [] d d where
  kept := .refl _ d
  called := .nil d
  probe := rfl
  others := fun _ _ => rfl
  backlog := by simp [waitingEntries]
  entries := fun _ mem => absurd mem List.not_mem_nil
  queue := rfl
  room := by
    rw [hasRoom_one_iff, noticeRoom, List.length_nil]
    cases d.anyOwed
    · simp
    · simp

theorem WentDark.step {l : List Region} {d w : State} {x : Region} (h : WentDark l d w) (new : x ∉ l) : WentDark (l ++ [x]) d (becomeDark x w) := by
  let a := abortRegion x w
  let u := modRegion x darkEntry a
  let t := becomeDark x w
  have eq : t = reportRegion x u := rfl
  have keptA : KeepsAllBut [.contexts, .port, .engine, .table, .lists] w a := keepsAllBut_iff.mpr (by simp [a])
  obtain ⟨keptM, entry, othersM, probeM⟩ := modRegion_effect x darkEntry a
  obtain ⟨keptR, othersR, probeR, fits, full⟩ := reportRegion_effect x u
  rw [← eq] at keptR othersR probeR fits full
  have regionsA : a.regions = w.regions := keptA .regions (by decide)
  have regionA : ∀ y, a.region y = w.region y := fun y => by rw [State.region, regionsA]; rfl
  have entryU : u.region x = darkEntry (d.region x) := by rw [entry, regionA, h.others x new]
  have backlogU : u.backlog = w.backlog := (keptM .backlog (by decide)).trans (keptA .backlog (by decide))
  have roomU : RoomKept w u := (RoomKept.of_keeps keptA).trans (modRegion_roomKept x (f := darkEntry) (fun _ => rfl) a)
  rw [roomU.hasRoom (by rw [backlogU]) (by rw [backlogU]) (by rw [backlogU]), entryU, backlogU] at fits full
  have keptAT : KeepsAllBut [.regions, .backlog] a t := keptM.trans keptR (by decide) (by decide)
  have wanT : t.wan = a.wan := keptAT .port (by decide)
  have othersT : ∀ y, y ≠ x → t.region y = w.region y := fun y hy => (othersR y hy).trans ((othersM y hy).trans (regionA y))
  have same : w.boundTo x = d.boundTo x := boundTo_of_calledOff h.called fun p mem => by
    obtain ⟨out, -, dest⟩ := mem_boundToAll.mp mem
    exact ⟨out, fun is => new (is ▸ dest)⟩
  have calledA : CalledOff (boundToAll d (l ++ [x])) d a := by
    have step := abortRegion_calledOff x w
    rw [same] at step
    rw [boundToAll, List.flatMap_append, List.flatMap_singleton]
    refine h.called.append step fun p inL q inX here => ?_
    obtain ⟨out, -, dest⟩ := mem_boundToAll.mp inL
    obtain ⟨outX, -, destX⟩ := mem_boundTo.mp inX
    rw [← here, out] at outX
    rw [Ctx.out.inj outX, destX] at dest
    exact new dest
  have pressure : t.backlog.owedPressure = w.backlog.owedPressure := by
    by_cases yes : w.hasRoom 1
    · rw [(fits yes).2]
    · rw [(full yes).2]
  have apart : ∀ y ∈ l, y ≠ x := fun y mem is => new (is ▸ mem)
  have kept : KeepsAllBut [.regions, .lists, .table, .backlog, .contexts, .port, .engine] d t :=
    (h.kept.trans (zs := [.regions, .lists, .table, .backlog, .contexts, .port, .engine]) keptA (by decide) (by decide)).trans keptAT (by decide) (by decide)
  have called : CalledOff (boundToAll d (l ++ [x])) d t := calledA.after_kept keptAT (pressure.trans (by rw [keptA .backlog (by decide)]))
  have probe : t.regions.probe = d.regions.probe := by rw [probeR, probeM, regionsA, h.probe]
  have othersD : ∀ y, y ∉ l ++ [x] → t.region y = d.region y := fun y no => by
    rw [List.mem_append, List.mem_singleton, not_or] at no
    exact (othersT y no.2).trans (h.others y no.1)
  have queue : t.wan.queue = d.wan.queue := by rw [wanT, abortRegion_queue, h.queue]
  show WentDark (l ++ [x]) d t
  by_cases yes : w.hasRoom 1
  · obtain ⟨entryT, backlogT⟩ := fits yes
    have less := h.room.mp yes
    have whole : l.take (noticeRoom d) = l := List.take_of_length_le less.le
    have taken : (l ++ [x]).take (noticeRoom d) = l ++ [x] := List.take_of_length_le (by rw [List.length_append, List.length_singleton]; omega)
    have backlogD : t.backlog = { d.backlog with entries := d.backlog.entries ++ waitingEntries ((l ++ [x]).map (darkNotice d)) } := by
      rw [backlogT, h.backlog, whole, List.map_append, waitingEntries_append, ← List.append_assoc]
      rfl
    have owedFlags : RoomKept u t := ⟨keptR .cache (by decide), fun y => by
      by_cases here : y = x
      · rw [here, entryT, entryU]
      · rw [othersR y here], by rw [backlogT, backlogU]⟩
    refine ⟨kept, called, probe, othersD, by rw [backlogD, taken], fun y mem => ?_, queue, ?_⟩
    · rw [darkAfter, taken, if_pos mem]
      rcases List.mem_append.mp mem with before | last
      · rw [othersT y (apart y before), h.entries y before, darkAfter, whole, if_pos before]
      · rw [List.mem_singleton.mp last]
        exact entryT
    · have unowed : t.anyOwed = false :=
        ((roomU.trans owedFlags).anyOwed pressure (by rw [backlogT])).trans ((hasRoom_one_iff w).mp yes).1
      have some_ : d.anyOwed = false := by
        by_contra owed
        rw [noticeRoom, if_pos (by rwa [Bool.not_eq_false] at owed)] at less
        exact absurd less (Nat.not_lt_zero _)
      rw [noticeRoom, if_neg (by rw [some_]; decide)] at less ⊢
      rw [hasRoom_one_iff, and_iff_right unowed, backlogD]
      simp only [List.length_append, waitingEntries_length, List.length_map, List.length_singleton]
      omega
  · obtain ⟨entryT, backlogT⟩ := full yes
    have many : noticeRoom d ≤ l.length := Nat.not_lt.mp fun less => yes (h.room.mpr less)
    have taken : (l ++ [x]).take (noticeRoom d) = l.take (noticeRoom d) := List.take_append_of_le_length many
    refine ⟨kept, called, probe, othersD, by rw [backlogT, h.backlog, taken], fun y mem => ?_, queue, ?_⟩
    · rw [darkAfter, taken]
      rcases List.mem_append.mp mem with before | last
      · exact (othersT y (apart y before)).trans (h.entries y before)
      · rw [List.mem_singleton.mp last, if_neg fun is => new (List.mem_of_mem_take is)]
        exact entryT
    · refine iff_of_false (fun room => ?_) (by rw [List.length_append, List.length_singleton]; omega)
      have owed : t.anyOwed = true := anyOwed_of_region (x := x) (by rw [entryT])
      rw [((hasRoom_one_iff t).mp room).1] at owed
      cases owed

end Sys2Proof.Machine
end

section
/-! PROOFS. O54: a probe expiry (R141). -/

namespace Sys2Proof.Machine

theorem exec_probeTimerExpiry (s : State) : exec (.probeTimerExpiry) s = .next (if s.running && expired s.now s.regions.probe then probeExpiry s else s) := rfl

/-! ## Step 1: misses (R141) -/

/-- R141 step 1: the state with the misses counted. -/
def missesCounted (s : State) : State := s.withRegions { s.regions with entry := s.regions.entry.map RegionEntry.countMiss }

theorem region_missesCounted (s : State) (x : Region) : (missesCounted s).region x = (s.region x).countMiss := vget_map ..

theorem countMiss_of_probed {e : RegionEntry} (probed : e.state = .dark ∨ e.state = .live) :
    e.countMiss = { e with miss := if e.heard = true then e.miss else min 15 (e.miss + 1), heard := false } :=
  if_pos (by rcases probed with dark | live <;> simp [*, RegionState.probed])

theorem countMiss_of_not {e : RegionEntry} (not : ¬ (e.state = .dark ∨ e.state = .live)) : e.countMiss = e :=
  if_neg (by simpa [RegionState.probed] using not)

/-! ## Step 2: DARK at the limit -/

/-- R141 step 2: the region is LIVE at the miss limit. -/
def fallsAt (d : State) (x : Region) : Bool := (d.region x).state == .live && d.setting 7 ≤ (d.region x).miss

theorem fallsAt_iff (d : State) (x : Region) : fallsAt d x = true ↔ (d.region x).state = .live ∧ d.setting 7 ≤ (d.region x).miss := by
  rw [fallsAt, Bool.and_eq_true, beq_iff_eq, decide_eq_true_iff]

theorem wentDark_foldl (d : State) (l : List Region) (single : l.Nodup) : WentDark (l.filter (fallsAt d)) d (l.foldl darkAtLimit d) := by
  induction l using List.reverseRecOn with
  | nil => exact wentDark_nil d
  | append_singleton l x ih =>
    rw [List.nodup_append] at single
    obtain ⟨singleL, -, apart⟩ := single
    have h := ih singleL
    have new : x ∉ l.filter (fallsAt d) := fun mem => apart x (List.mem_of_mem_filter mem) x (List.mem_singleton_self x) rfl
    rw [List.foldl_append, List.filter_append, List.foldl_cons, List.foldl_nil]
    have same : (((l.foldl darkAtLimit d).region x).state == .live && decide ((l.foldl darkAtLimit d).setting 7 ≤ ((l.foldl darkAtLimit d).region x).miss)) = fallsAt d x := by
      rw [h.others x new, State.setting, h.kept .settings (by decide)]
      rfl
    by_cases falls : fallsAt d x = true
    · rw [darkAtLimit, if_pos (same.trans falls), List.filter_singleton, falls]
      exact h.step new
    · rw [darkAtLimit, if_neg (by rw [same]; exact falls), List.filter_singleton, Bool.eq_false_of_not_eq_true falls, cond_false, List.append_nil]
      exact h

theorem eq_of_wentDark_nil {d : State} (none : ∀ x, fallsAt d x = false) (l : List Region) : l.foldl darkAtLimit d = d := by
  induction l with
  | nil => rfl
  | cons x rest ih =>
    rw [List.foldl_cons, darkAtLimit, if_neg (by rw [show (_ && _) = fallsAt d x from rfl, none]; decide)]
    exact ih

/-! ## Step 3: the probes -/

theorem foldl_sendProbe (l : List Region) (s : State) :
    l.foldl sendProbe s = (l.filter fun x => (s.region x).state.probed).foldl (fun t x => sendCtl x .probe t) s := by
  rw [List.foldl_filter]
  have each : ∀ t : State, t.regions = s.regions → l.foldl sendProbe t = l.foldl (fun t x => if (s.region x).state.probed = true then sendCtl x .probe t else t) t := by
    induction l with
    | nil => exact fun t _ => rfl
    | cons x rest ih =>
      intro t same
      have step : sendProbe t x = if (s.region x).state.probed = true then sendCtl x .probe t else t := by
        rw [sendProbe, State.region, same]
        rfl
      rw [List.foldl_cons, List.foldl_cons, step]
      refine ih _ ?_
      split
      · exact (by simp : (sendCtl x .probe t).regions = t.regions).trans same
      · exact same
  exact each s rfl

/-- R162: frames that all find their place. -/
theorem FramesSent.all {fs : List CtlFrame} {s t : State} (h : FramesSent fs s t) (heard : ∀ f ∈ fs, (s.region f.dest).state ≠ .suspended) (carrier : s.wan.carrier = true)
    (room : s.wan.queue.length + fs.length ≤ 128) : t.wan.queue = s.wan.queue ++ fs := by
  unfold FramesSent at h
  rw [h]
  clear h
  generalize s.wan.queue = queue at room ⊢
  induction fs generalizing queue with
  | nil => exact (List.append_nil _).symm
  | cons f rest ih =>
    rw [List.length_cons] at room
    rw [List.foldl_cons, if_neg (by rw [carrier]; simp [heard f List.mem_cons_self]; omega),
      ih (fun g mem => heard g (List.mem_cons_of_mem _ mem)) _ (by rw [List.length_append, List.length_singleton]; omega), List.append_assoc]
    rfl

/-- R162: without the carrier no frame is placed. -/
theorem FramesSent.none {fs : List CtlFrame} {s t : State} (h : FramesSent fs s t) (carrier : s.wan.carrier = false) : t.wan.queue = s.wan.queue := by
  unfold FramesSent at h
  rw [h]
  clear h
  generalize s.wan.queue = queue
  induction fs generalizing queue with
  | nil => rfl
  | cons f rest ih => rw [List.foldl_cons, if_pos (.inr (.inl carrier)), ih]

theorem sendProbes_effect (l : List Region) (s : State) : let t := l.foldl sendProbe s
    KeepsAllBut [.port] s t ∧ t.wan = { s.wan with queue := t.wan.queue } ∧
      FramesSent ((l.filter fun x => (s.region x).state.probed).map fun x => { dest := x, body := .probe }) s t := by
  intro t
  have eq : t = _ := foldl_sendProbe l s
  rw [eq]
  refine ⟨?_, foldl_sendCtl_wan .., foldl_sendCtl_sends ..⟩
  intro b other
  have each : ∀ (u : State) (x : Region), KeepsAllBut [.port] u (sendCtl x .probe u) := fun u x => keepsAllBut_iff.mpr (by simp)
  have all : KeepsAllBut [.port] s ((l.filter fun x => (s.region x).state.probed).foldl (fun t x => sendCtl x .probe t) s) := by
    generalize (l.filter fun x => (s.region x).state.probed) = m
    clear eq t
    induction m generalizing s with
    | nil => exact .refl _ s
    | cons x rest ih => exact (each s x).trans (ih (sendCtl x .probe s)) (by decide) (by decide)
  exact all b other

/-! ## The statement -/

theorem fallsAt_missesCounted_iff (s : State) (x : Region) : fallsAt (missesCounted s) x = true ↔
    (s.region x).state = .live ∧ s.setting 7 ≤ if (s.region x).heard = true then (s.region x).miss else min 15 ((s.region x).miss + 1) := by
  rw [fallsAt_iff, region_missesCounted, countMiss_state]
  refine and_congr_right fun live => ?_
  rw [countMiss_of_probed (.inr live)]
  rfl

theorem roomKept_missesCounted (s : State) : RoomKept s (missesCounted s) :=
  ⟨rfl, fun x => by
    rw [region_missesCounted]
    unfold RegionEntry.countMiss
    split <;> rfl, rfl⟩

theorem noticeRoom_missesCounted (s : State) : noticeRoom (missesCounted s) = if s.anyOwed = true then 0 else 64 - (s.backlog.entries.length + s.backlog.reservations) := by
  rw [noticeRoom, (roomKept_missesCounted s).anyOwed rfl rfl]
  rfl

/-- R143: a region that goes DARK stays probed, and no other changes its state. -/
theorem probed_of_wentDark {l : List Region} {d w : State} (h : WentDark (l.filter (fallsAt d)) d w) (x : Region) :
    (w.region x).state.probed = (d.region x).state.probed := by
  by_cases mem : x ∈ l.filter (fallsAt d)
  · have live := ((fallsAt_iff d x).mp (List.mem_filter.mp mem).2).1
    rw [h.entries x mem, live, darkAfter]
    split <;> rfl
  · rw [h.others x mem]

/-- Settles O54. -/
theorem probeExpiryFindsSilentRegions : Obligations.ProbeExpiryFindsSilentRegions := by
  intro s probed misses falls due notice room
  rw [exec_probeTimerExpiry]
  refine ⟨fun early => by rw [if_neg (mt (passed_iff s _).mp early)], fun late => ?_⟩
  rw [if_pos ((passed_iff s _).mpr late), probeExpiry_eq]
  let d := missesCounted s
  let fallen := (List.finRange 8).filter (fallsAt d)
  have h : WentDark fallen d ((List.finRange 8).foldl darkAtLimit d) := wentDark_foldl d _ (List.nodup_finRange 8)
  have still : (∀ x, fallsAt d x = false) → (List.finRange 8).foldl darkAtLimit d = d := fun none => eq_of_wentDark_nil none _
  show ∃ t, Host.Outcome.next (restartProbe ((List.finRange 8).foldl sendProbe ((List.finRange 8).foldl darkAtLimit d))) = .next t ∧ _
  generalize (List.finRange 8).foldl darkAtLimit d = w at h still ⊢
  obtain ⟨keptP, wanP, frames⟩ := sendProbes_effect (List.finRange 8) w
  generalize (List.finRange 8).foldl sendProbe w = p at keptP wanP frames ⊢
  let t := restartProbe p
  have single : fallen.Nodup := (List.nodup_finRange 8).filter _
  have memFallen : ∀ x, x ∈ fallen ↔ falls x := fun x => by
    rw [List.mem_filter, and_iff_right (List.mem_finRange x)]
    exact fallsAt_missesCounted_iff s x
  have keptWT : KeepsAllBut [.regions, .port] w t := keptP.trans (zs := [.regions, .port]) (keepsAllBut_iff.mpr (by simp [t, restartProbe]) : KeepsAllBut [.regions] p t)
    (by decide) (by decide)
  have regionsP : p.regions = w.regions := keptP .regions (by decide)
  have regionT : ∀ x, t.region x = w.region x := fun x => by
    show p.region x = _
    rw [State.region, regionsP]
    rfl
  have backlogT : t.backlog = w.backlog := keptWT .backlog (by decide)
  have wanT : t.wan = p.wan := rfl
  have regionD : ∀ x, d.region x = (s.region x).countMiss := region_missesCounted s
  have liveD : ∀ x ∈ fallen, d.region x = { s.region x with miss := misses x, heard := false } := fun x mem => by
    rw [regionD]
    exact countMiss_of_probed (.inr ((memFallen x).mp mem).1)
  have keptD : KeepsAllBut [.regions] s d := keepsAllBut_iff.mpr (by simp [d, missesCounted])
  have keptSW : KeepsAllBut [.regions, .lists, .table, .backlog, .contexts, .port, .engine] s w := keptD.trans h.kept (by decide) (by decide)
  have framesT : FramesSent (((List.finRange 8).filter fun x => (s.region x).state == .dark || (s.region x).state == .live).map fun x => { dest := x, body := .probe }) w t := by
    have same : (fun x => (s.region x).state == .dark || (s.region x).state == .live) = fun x => (w.region x).state.probed := funext fun x => by
      rw [probed_of_wentDark h x, regionD, countMiss_state]
      rfl
    rw [same]
    exact frames.after rfl
  have carrierW : w.wan.carrier = s.wan.carrier := by rw [h.called.port]; rfl
  refine ⟨t, rfl, keptSW.trans keptWT (by decide) (by decide), ?_, fun x no => ?_, fun x is no => ?_, fun fs members rising => ?_, fun none => ?_, fun carrier few => ?_,
    fun carrier => (framesT.none (carrierW.trans carrier)).trans h.queue, ?_⟩
  · show some (p.now + p.settingTime 6) = _
    rw [State.settingTime, State.setting, keptP .clock (by decide), keptP .settings (by decide), keptSW .clock (by decide), keptSW .settings (by decide)]
    rfl
  · rw [regionT, h.others x fun mem => no (.inr ((memFallen x).mp mem).1), regionD, countMiss_of_not no]
  · rw [regionT, h.others x (mt (memFallen x).mp no), regionD, countMiss_of_probed is]
  · have same : fs = fallen := by
      have order : fallen.Pairwise (· < ·) := (List.sortedLT_finRange 8).pairwise.filter _
      exact ((List.perm_ext_iff_of_nodup (rising.imp ne_of_lt) single).mpr fun x => (members x).trans (memFallen x).symm).eq_of_pairwise
        (fun a b _ _ less more => (lt_asymm less more).elim) rising order
    rw [same, backlogT, h.backlog, noticeRoom_missesCounted]
    refine ⟨?_, fun x mem => ?_⟩
    · have notices : (fallen.take room).map (darkNotice d) = (fallen.take room).map notice := List.map_congr_left fun x mem => by
        rw [darkNotice, liveD x (List.mem_of_mem_take mem)]
      exact congrArg (fun es => { s.backlog with entries := s.backlog.entries ++ waitingEntries es }) notices
    · rw [regionT, h.entries x mem, darkAfter, noticeRoom_missesCounted, liveD x mem]
      rfl
  · have wD : w = d := still fun x => Bool.eq_false_of_not_eq_true fun is => none x ((fallsAt_missesCounted_iff s x).mp is)
    rw [wD] at keptWT wanP
    refine ⟨keptD.trans keptWT (by decide) (by decide), ?_⟩
    rw [wanT, wanP]
    rfl
  · refine (framesT.all (fun f mem => ?_) (carrierW.trans carrier) ?_).trans (by rw [h.queue]; rfl)
    · obtain ⟨x, mem', rfl⟩ := List.mem_map.mp mem
      have probes := (List.mem_filter.mp mem').2
      have still : (w.region x).state.probed = true := by
        rw [probed_of_wentDark h x, regionD, countMiss_state]
        exact probes
      intro suspended
      dsimp only at suspended
      rw [suspended] at still
      cases still
    · rw [List.length_map, h.queue]
      have := (List.length_filter_le (fun x => (s.region x).state == .dark || (s.region x).state == .live) (List.finRange 8)).trans_eq (List.length_finRange)
      show s.wan.queue.length + _ ≤ 128
      omega
  · have called : CalledOff (boundToAll d fallen) d t := h.called.after (keptWT.weaken (by decide)) (by rw [backlogT]) (by rw [wanT, wanP])
    exact called.transfers (named := falls) (fun q => by rw [mem_boundToAll, memFallen]) (boundToAll_nodup single) fun x _ => boundToAll_sorted single x

end Sys2Proof.Machine
end

section
/-! PROOFS. What the frames of a region touch (R158): not what is heard of the regions. -/

namespace Sys2Proof.Machine

/-- R140, R158: what a frame's dispatch may change: the blocks of the transfers, and of a region's entry neither its state nor what was heard of it. -/
structure Dispatched (s t : State) : Prop where
  kept : KeepsAllBut [.backlog, .table, .lists, .contexts, .staging, .regions, .port, .engine] s t
  heard : ∀ y, (t.region y).state = (s.region y).state ∧ (t.region y).heard = (s.region y).heard ∧ (t.region y).miss = (s.region y).miss

namespace Dispatched
variable {s t u : State}

theorem refl (s : State) : Dispatched s s := ⟨.refl _ s, fun _ => ⟨rfl, rfl, rfl⟩⟩

theorem trans (h : Dispatched s t) (g : Dispatched t u) : Dispatched s u := by
  refine ⟨h.kept.trans g.kept (List.Subset.refl _) (List.Subset.refl _), fun y => ?_⟩
  obtain ⟨state, heard, miss⟩ := h.heard y
  obtain ⟨stateG, heardG, missG⟩ := g.heard y
  exact ⟨stateG.trans state, heardG.trans heard, missG.trans miss⟩

/-- A step that leaves the regions alone. -/
theorem of_keeps (h : KeepsAllBut [.backlog, .table, .lists, .contexts, .staging, .port, .engine] s t) : Dispatched s t := by
  have regions : t.regions = s.regions := h .regions (by decide)
  refine ⟨h.weaken (by decide), fun y => ?_⟩
  rw [State.region, regions]
  exact ⟨rfl, rfl, rfl⟩

theorem modRegion (x : Region) {f : RegionEntry → RegionEntry} (same : ∀ e, (f e).state = e.state ∧ (f e).heard = e.heard ∧ (f e).miss = e.miss) (s : State) :
    Dispatched s (Machine.modRegion x f s) := by
  obtain ⟨kept, entry, others, -⟩ := modRegion_effect x f s
  refine ⟨kept.weaken (by decide), fun y => ?_⟩
  by_cases here : y = x
  · rw [here, entry]
    exact same _
  · rw [others y here]
    exact ⟨rfl, rfl, rfl⟩

theorem handingOn (x : Region) {event : State → State} (h : Dispatched s (event s)) : Dispatched s (Machine.handingOn x event s) :=
  h.trans (.of_keeps ((handingOn_keepsAllBut x event s).weaken (by decide)))

/-! ## The operations of a dispatch -/

theorem sendCtl (x : Region) (b : CtlBody) (s : State) : Dispatched s (Machine.sendCtl x b s) := .of_keeps (keepsAllBut_iff.mpr (by simp))

theorem emitRecord (k : Key) (n : Notice) (s : State) : Dispatched s (Machine.emitRecord k n s) := .of_keeps (keepsAllBut_iff.mpr (by simp))

theorem setCtx (c : CtxNo) (v : Ctx) (s : State) : Dispatched s (Machine.setCtx c v s) := .of_keeps (keepsAllBut_iff.mpr (by simp))

theorem modRec (k : Key) (f : Record → Record) (s : State) : Dispatched s (Machine.modRec k f s) := .of_keeps (keepsAllBut_iff.mpr (by simp))

theorem pressureCheck (s : State) : Dispatched s (Machine.pressureCheck s) := .of_keeps (keepsAllBut_iff.mpr (by simp))

theorem endOutbound (c : CtxNo) (s : State) : Dispatched s (Machine.endOutbound c s) := .of_keeps (keepsAllBut_iff.mpr (by simp))

theorem modSlot (k : Key) (x : Region) (f : Slot → Slot) (s : State) : Dispatched s (Machine.modSlot k x f s) := .of_keeps (keepsAllBut_iff.mpr (by simp))

theorem requeue (k : Key) (x : Region) (s : State) : Dispatched s (Machine.requeue k x s) := .of_keeps (keepsAllBut_iff.mpr (by simp))

theorem confirming (k : Key) (x : Region) (s : State) : Dispatched s (Machine.confirming k x s) := .of_keeps (keepsAllBut_iff.mpr (by simp))

theorem finish (k : Key) (x : Region) (st : SlotState) (s : State) : Dispatched s (Machine.finish k x st s) := .of_keeps (keepsAllBut_iff.mpr (by simp))

theorem failSlot (k : Key) (x : Region) (why : FailReason) (s : State) : Dispatched s (Machine.failSlot k x why s) := .of_keeps (keepsAllBut_iff.mpr (by simp))

theorem cancelDrain (c : CtxNo) (why : CancelReason) (s : State) : Dispatched s (Machine.cancelDrain c why s) := .of_keeps (keepsAllBut_iff.mpr (by simp))

theorem releaseInbound (c : CtxNo) (k : Key) (s : State) : Dispatched s (Machine.releaseInbound c k s) := .of_keeps (keepsAllBut_iff.mpr (by simp))

theorem fifoRemove (p : FifoEntry → Bool) (s : State) : Dispatched s (Machine.fifoRemove p s) := .of_keeps (keepsAllBut_iff.mpr (by simp))

theorem withInbound (v : Inbound) (s : State) : Dispatched s (s.withInbound v) := .of_keeps (keepsAllBut_iff.mpr (by simp))

theorem supersede (r : Record) (content : Content) (role : Role) (st : RecState) (targets : List Region) (s : State) :
    Dispatched s (Machine.supersede r content role st targets s) := .of_keeps (keepsAllBut_iff.mpr (by simp))

theorem addRec (r : Record) (s : State) : Dispatched s (Machine.addRec r s) := .of_keeps (keepsAllBut_iff.mpr (by simp))

theorem retire (k : Key) (s : State) : Dispatched s (Machine.retire k s) := .of_keeps (keepsAllBut_iff.mpr (by simp))

theorem makeRoom (n : Nat) (s : State) : Dispatched s (Machine.makeRoom n s).1 := by
  unfold Machine.makeRoom
  split
  · exact .refl s
  · split
    · exact .retire ..
    · exact .refl s

theorem foldl {α : Type} {f : State → α → State} (h : ∀ t x, Dispatched t (f t x)) (l : List α) (s : State) : Dispatched s (l.foldl f s) := by
  induction l generalizing s with
  | nil => exact .refl s
  | cons x rest ih => exact (h s x).trans (ih (f s x))

/-! ## Offers (R112 to R117) -/

theorem freshOffer (k : Key) (x : Region) (s : State) : Dispatched s (Machine.freshOffer k x s) := by
  unfold Machine.freshOffer
  split
  · split
    · exact (((Dispatched.modRec ..).trans (.emitRecord ..)).trans (.emitRecord ..)).trans (.sendCtl ..)
    · split
      · exact (((Dispatched.setCtx ..).trans (.modRec ..)).trans (.emitRecord ..)).trans (.sendCtl ..)
      · exact .sendCtl ..
  · exact .refl s

theorem offerSame (x : Region) (f : OfferFrame) (r : Record) (s : State) : Dispatched s (Machine.offerSame x f r s) := by
  unfold Machine.offerSame
  split
  · exact .sendCtl ..
  · split
    · split
      · exact (Dispatched.setCtx ..).trans (.sendCtl ..)
      · exact .refl s
    · exact .refl s
  · exact .freshOffer ..
  · exact .sendCtl ..
  · split <;> exact .sendCtl ..
  · exact .refl s

theorem offerNew (x : Region) (f : OfferFrame) (kind : Kind) (s : State) : Dispatched s (Machine.offerNew x f kind s) := by
  unfold Machine.offerNew
  split
  · exact (((Dispatched.makeRoom ..).trans (.addRec ..)).trans (.freshOffer ..)).trans (.pressureCheck _)
  · exact .sendCtl ..

theorem offerFrame (x : Region) (f : OfferFrame) (s : State) : Dispatched s (Machine.offerFrame x f s) := by
  unfold Machine.offerFrame
  split
  · exact .refl s
  · split
    · unfold answerOffer
      split
      · exact .offerNew ..
      · split
        · exact .sendCtl ..
        · split
          · exact (Dispatched.supersede ..).trans (.freshOffer ..)
          · exact .offerSame ..
    · exact .refl s

/-! ## Replies, acknowledgements and confirmations (R74, R88 to R95, R101) -/

theorem onOutbound (x : Region) (k : Key) (v : Version) {act : CtxNo → OutCtx → State → State} (h : ∀ c o t, Dispatched t (act c o t)) (s : State) :
    Dispatched s (Machine.onOutbound x k v act s) := by
  unfold Machine.onOutbound
  split
  · split
    · exact h ..
    · exact .refl s
  · exact .refl s

theorem onOffering (x : Region) (k : Key) (v : Version) {act : CtxNo → OutCtx → State → State} (h : ∀ c o t, Dispatched t (act c o t)) (s : State) :
    Dispatched s (Machine.onOffering x k v act s) :=
  .onOutbound x k v (fun c o t => by
    split
    · exact h ..
    · exact .refl t) s

theorem startBackoff (x : Region) (s : State) : Dispatched s (Machine.startBackoff x s) := by
  refine .modRegion x (fun _ => ?_) s
  exact ⟨rfl, rfl, rfl⟩

/-- R89: a counted retry that goes back to the Work Queue. -/
theorem countRetry (c : CtxNo) (k : Key) (x : Region) (s : State) : Dispatched s (Machine.countRetry c k x (fun u => Machine.requeue k x (Machine.endOutbound c u)) s) := by
  unfold Machine.countRetry
  dsimp only
  split
  · exact ((Dispatched.modSlot ..).trans (.endOutbound ..)).trans (.failSlot ..)
  · exact ((Dispatched.modSlot ..).trans (.endOutbound ..)).trans (.requeue ..)

theorem replyAccepted (x : Region) (k : Key) (v : Version) (n : Nat) (s : State) : Dispatched s (Machine.replyAccepted x k v n s) :=
  .onOffering x k v (fun c o t => by
    split
    · exact .refl t
    · split
      · exact (Dispatched.setCtx ..).trans (.modSlot ..)
      · exact (Dispatched.endOutbound ..).trans (.confirming ..)) s

theorem replyNewer (x : Region) (k : Key) (v other : Version) (s : State) : Dispatched s (Machine.replyNewer x k v other s) :=
  .onOutbound x k v (fun c o t => by
    split
    · exact ((Dispatched.endOutbound ..).trans (.finish ..)).trans (.pressureCheck _)
    · exact .refl t) s

theorem ackFrame (x : Region) (k : Key) (v : Version) (e : Nat) (s : State) : Dispatched s (Machine.ackFrame x k v e s) :=
  .onOutbound x k v (fun c o t => by
    dsimp only
    split
    · split
      · exact (Dispatched.endOutbound ..).trans (.confirming ..)
      · exact .setCtx ..
    · exact .refl t) s

theorem replyFrame (x : Region) (bs : List Byte) (s : State) : Dispatched s (Machine.replyFrame x bs s) := by
  unfold Machine.replyFrame
  dsimp only
  split
  · exact .replyAccepted ..
  · exact .onOffering _ _ _ (fun _ _ _ => .setCtx ..) s
  · exact .onOffering _ _ _ (fun _ _ _ => ((Dispatched.endOutbound ..).trans (.requeue ..)).trans (.startBackoff ..)) s
  · exact .onOffering _ _ _ (fun _ _ _ => (Dispatched.countRetry ..).trans (.startBackoff ..)) s
  · exact .replyNewer ..
  · exact .onOffering _ _ _ (fun _ _ _ => (Dispatched.endOutbound ..).trans (.confirming ..)) s
  · exact .onOutbound _ _ _ (fun _ _ _ => ((Dispatched.endOutbound ..).trans (.finish ..)).trans (.pressureCheck _)) s
  · exact .onOffering _ _ _ (fun _ _ _ => (Dispatched.endOutbound ..).trans (.failSlot ..)) s
  · exact .onOutbound _ _ _ (fun _ _ _ => .countRetry ..) s
  · exact .refl s

theorem leaveSlot (k : Key) (x : Region) (sl : Slot) (s : State) : Dispatched s (Machine.leaveSlot k x sl s) := by
  unfold Machine.leaveSlot
  split
  · exact .of_keeps (keepsAllBut_iff.mpr (by simp))
  · exact .of_keeps (keepsAllBut_iff.mpr (by simp))
  · split
    · exact .endOutbound ..
    · exact .refl s
  · split
    · exact .endOutbound ..
    · exact .refl s
  · exact .refl s

theorem confirmFrame (x : Region) (bs : List Byte) (s : State) : Dispatched s (Machine.confirmFrame x bs s) := by
  unfold Machine.confirmFrame
  split
  · unfold confirmCommitted
    split
    · split
      · exact .refl s
      · exact ((Dispatched.leaveSlot ..).trans (.finish ..)).trans (.pressureCheck _)
    · exact .refl s
  · unfold confirmRejected
    split
    · split
      · exact .refl s
      · exact (Dispatched.leaveSlot ..).trans (.failSlot ..)
    · exact .refl s
  · exact .refl s

/-! ## Segments and withdrawal (R122 to R130, R133) -/

theorem sendHold (x : Region) (s : State) : Dispatched s (Machine.sendHold x s) := (Dispatched.sendCtl ..).trans (.withInbound ..)

theorem ackAdvance (c : CtxNo) (s : State) : Dispatched s (Machine.ackAdvance c s) := by
  unfold Machine.ackAdvance
  split
  · dsimp only
    split
    · split
      · split
        · exact (((Dispatched.sendCtl ..).trans (.releaseInbound ..)).trans (.modRec ..)).trans (.emitRecord ..)
        · exact ((Dispatched.sendCtl ..).trans (.releaseInbound ..)).trans (.modRec ..)
      · exact (Dispatched.sendCtl ..).trans (.setCtx ..)
    · exact .refl s
  · exact .refl s

theorem chunkComplete (c : CtxNo) (s : State) : Dispatched s (Machine.chunkComplete c s) := by
  unfold Machine.chunkComplete
  split
  · split
    · split
      · exact (Dispatched.setCtx ..).trans (.ackAdvance ..)
      · exact ((Dispatched.setCtx ..).trans (.withInbound ..)).trans (.fifoRemove ..)
    · exact .refl s
  · exact .refl s

theorem startHolding (s : State) : Dispatched s (Machine.startHolding s) := by
  unfold Machine.startHolding
  split
  · exact (Dispatched.withInbound ..).trans (.foldl (fun t x => .sendHold x t) ..)
  · exact .refl s

theorem segmentTests (c : CtxNo) (i : InCtx) (g : SegmentFrame) (computed : BitVec 32) (s : State) : Dispatched s (Machine.segmentTests c i g computed s) := by
  unfold Machine.segmentTests
  split
  · exact .refl s
  split
  · exact .refl s
  split
  · exact .sendCtl ..
  split
  · exact .refl s
  split
  · split
    · exact .refl s
    · split
      · exact .refl s
      · exact (((Dispatched.setCtx ..).trans (.withInbound ..)).trans (.startHolding _)).trans (.chunkComplete ..)
  · exact .refl s

theorem holdTest (x : Region) (s : State) : Dispatched s (Machine.holdTest x s) := by
  unfold Machine.holdTest
  split
  · split
    · exact .sendHold ..
    · split
      · exact .sendHold ..
      · exact .refl s
  · exact .refl s

theorem segmentFrame (x : Region) (g : SegmentFrame) (computed : BitVec 32) (s : State) : Dispatched s (Machine.segmentFrame x g computed s) := by
  unfold Machine.segmentFrame
  dsimp only
  split
  · split
    · exact (Dispatched.holdTest ..).trans (.segmentTests ..)
    · exact .holdTest ..
  · refine (Dispatched.holdTest x s).trans ?_
    unfold segmentUnclaimed
    split
    · split
      · exact .sendCtl ..
      · exact .refl _
    · exact .refl _

theorem withdrawFrame (x : Region) (k : Key) (v : Version) (s : State) : Dispatched s (Machine.withdrawFrame x k v s) := by
  unfold Machine.withdrawFrame
  split
  · split
    · unfold withdrawRecord
      dsimp only
      split
      · exact (Dispatched.modRec ..).trans (.emitRecord ..)
      · exact (Dispatched.modRec ..).trans (.cancelDrain ..)
      · exact .modRec ..
    · exact .refl s
  · exact .refl s

/-! ## Holds, and the dispatch itself -/

theorem holdFrame (x : Region) (time : Nat) (s : State) : Dispatched s (Machine.holdFrame x time s) := by
  unfold Machine.holdFrame
  split
  · refine .handingOn x (.modRegion x (fun _ => ?_) s)
    exact ⟨rfl, rfl, rfl⟩
  · exact .refl s

theorem endHold (x : Region) (s : State) : Dispatched s (Machine.endHold x s) := by
  refine .handingOn x (.modRegion x (fun _ => ?_) s)
  exact ⟨rfl, rfl, rfl⟩

theorem dispatch (x : Region) (body : List Byte) (s : State) : Dispatched s (Machine.dispatch x body s) := by
  unfold Machine.dispatch
  dsimp only
  split
  · exact .offerFrame ..
  · exact .replyFrame ..
  · exact .segmentFrame ..
  · exact .ackFrame ..
  · exact .confirmFrame ..
  · exact .withdrawFrame ..
  · exact .holdFrame ..
  · exact .endHold ..
  · exact .sendCtl ..
  · exact .refl s
  · exact .refl s

end Dispatched

end Sys2Proof.Machine
end

section
/-! PROOFS. O58: the receive filter, and an admitted frame as the row of its kind (R157 to R159). -/

namespace Sys2Proof.Machine

/-! ## Fields of a frame -/

theorem leNat_lt (bs : List Byte) : leNat bs < 256 ^ bs.length := by
  induction bs with
  | nil => exact Nat.one_pos
  | cons b rest ih =>
    have small := b.isLt
    rw [leNat, List.length_cons, Nat.pow_succ]
    omega

theorem beAt_lt (bs : List Byte) (off n : Nat) : beAt bs off n < 256 ^ n := by
  have bound := leNat_lt (byteField bs off n).reverse
  rwa [List.length_reverse, show (byteField bs off n).length = n by simp [byteField]] at bound

theorem toNat_beAt (bs : List Byte) (off : Nat) : (BitVec.ofNat 16 (beAt bs off 2)).toNat = beAt bs off 2 := by
  rw [BitVec.toNat_ofNat]
  exact Nat.mod_eq_of_lt (beAt_lt bs off 2)

/-! ## The filter (R157, R159) -/

/-- R159: check 10 by the kinds' lengths. -/
theorem lengthOk_iff (body : List Byte) : lengthOk body = true ↔ 22 + beAt body 18 2 ≤ body.length ∧
    (((byteAt body 15).toNat, beAt body 18 2) ∈ [(1, 44), (2, 32), (4, 24), (5, 24), (6, 20), (7, 4), (8, 0), (9, 0), (10, 0)] ∨
      ((byteAt body 15).toNat = 3 ∧ beAt body 18 2 = 36 + beAt body 44 2 ∧ 1 ≤ beAt body 44 2 ∧ beAt body 44 2 ≤ 8192)) := by
  change _ ↔ Config.frameHead + beAt body 18 2 ≤ body.length ∧ (_ ∨ _ ∧ beAt body 18 2 = 36 + beAt body (Config.frameHead + 22) 2 ∧
    1 ≤ beAt body (Config.frameHead + 22) 2 ∧ beAt body (Config.frameHead + 22) 2 ≤ Config.segmentBytes)
  unfold lengthOk SpanKind.ofCode
  generalize (byteAt body 15).toNat = kind
  match kind with
  | 0 => simp
  | 1 | 2 | 4 | 5 | 6 | 7 | 8 | 9 | 10 => simp [SpanKind.fixedLength, and_comm]
  | 3 =>
    simp [SpanKind.fixedLength]
    tauto
  | kind + 11 => simp

theorem filter_eq_some_iff {bytes : List Byte} {s : State} {im : Image} {x : Region} (image : s.start.image = some im) (few : im.n.toNat ≤ 8) :
    let body := bytes.take (bytes.length - 4)
    s.filter bytes = some x ↔ 4 ≤ bytes.length ∧ crc32 body = BitVec.ofNat 32 (leAt bytes (bytes.length - 4) 4) ∧ bytes.length ≤ 9216 ∧
      beAt body 12 2 = im.frameType.toNat ∧ stationAt body 0 = (s.region (regionOf im.own)).station ∧ byteAt body 14 = 1 ∧
      x.val = (byteAt body 16).toNat ∧ x.val < im.n.toNat ∧ x.val ≠ im.own.toNat ∧ stationAt body 6 = (s.region x).station ∧
      byteAt body 17 = im.own ∧ (s.region x).state ≠ .suspended ∧ lengthOk body = true := by
  intro body
  have type : BitVec.ofNat 16 (beAt body 12 2) = im.frameType ↔ beAt body 12 2 = im.frameType.toNat := by rw [← BitVec.toNat_inj, toNat_beAt]
  rw [State.filter, image]
  dsimp only
  constructor
  · intro admitted
    split_ifs at admitted with check long type' own ver source station dest suspended length
    cases admitted
    obtain ⟨long', check⟩ := not_or.mp check
    obtain ⟨known, other⟩ := not_or.mp source
    have number : (regionOf (byteAt body 16)).val = (byteAt body 16).toNat := Nat.mod_eq_of_lt ((not_le.mp known).trans_le few)
    refine ⟨not_lt.mp long', not_not.mp check, not_lt.mp long, type.mp (not_not.mp type'), not_not.mp own, not_not.mp ver, number, ?_, ?_,
      not_not.mp station, not_not.mp dest, fun same => suspended (beq_iff_eq.mpr same), length⟩
    · rw [number]
      exact not_le.mp known
    · rw [number]
      exact fun same => other (BitVec.eq_of_toNat_eq same)
  · rintro ⟨long, check, short, isType, toOwn, version, source, known, other, station, dest, state, length⟩
    have from' : regionOf (byteAt body 16) = x := regionOf_of_toNat source.symm
    rw [if_neg (by rintro (h | h); exacts [absurd h (not_lt.mpr long), h check]), if_neg (not_lt.mpr (show bytes.length ≤ Config.maxFrame from short)), if_neg (not_not.mpr (type.mpr isType)),
      if_neg (not_not.mpr toOwn), if_neg (not_not.mpr version), if_neg, from', if_neg (not_not.mpr station), if_neg (not_not.mpr dest),
      if_neg (fun h => state (beq_iff_eq.mp h)), if_pos length]
    rintro (many | own)
    · exact absurd (source ▸ known) (not_lt.mpr many)
    · exact other (source.trans (congrArg BitVec.toNat own))

/-! ## The dispatch (R158) -/

theorem exec_replyCommand {x : Region} {s : State} (admitted : s.admits x = true) (c : List Byte) : exec (replyCommand x c) s = .next (replyFrame x c s) := by
  unfold replyCommand replyFrame
  dsimp only
  generalize (byteAt c 20).toNat = reason
  match reason with
  | 1 => exact (exec_replyAccepted admitted ..).trans (congrArg (fun n => Host.Outcome.next (replyAccepted x (spanKey c) (spanVersion c) n s)) (toNat_beAt c 22))
  | 2 => exact exec_replyPending admitted ..
  | 3 => exact exec_replyBusy admitted ..
  | 4 => exact exec_replyTimeout admitted ..
  | 5 => exact exec_replyNewer admitted ..
  | 6 => exact exec_replyLanded admitted ..
  | 7 => exact exec_replyHave admitted ..
  | 8 => exact exec_replyDeclined admitted ..
  | 9 => exact exec_replyAborted admitted ..
  | 0 | reason + 10 => rfl

/-- R158: an admitted frame's dispatch is the row of its kind. -/
theorem exec_of_command {x : Region} {body : List Byte} {s : State} {c : Instr} (admitted : s.admits x = true) :
    let content := (body.drop 22).take (beAt body 18 2)
    commandOfFrame x (byteAt body 15) content = some c →
    ((byteAt body 15).toNat = 3 → segmentCheckOf ((body.drop 14).take 8) content = SegmentFrame.computed (segmentContent content) x.val s.ownIndex) →
    exec c s = .next (dispatch x body s) := by
  intro content isCommand check
  have frameHead : Config.frameHead = 22 := rfl
  unfold dispatch SpanKind.ofCode
  dsimp only
  rw [frameHead, show (body.drop 22).take (beAt body 18 2) = content from rfl]
  revert isCommand check
  unfold commandOfFrame
  generalize (byteAt body 15).toNat = kind, content = b, (body.drop 14).take 8 = header
  intro isCommand check
  match kind with
  | 1 =>
    obtain ⟨⟩ := isCommand
    exact exec_offer admitted _
  | 2 =>
    obtain ⟨⟩ := isCommand
    exact exec_replyCommand admitted _
  | 3 =>
    obtain ⟨⟩ := isCommand
    exact (exec_segment admitted).trans (congrArg (fun n => Host.Outcome.next (segmentFrame x (segmentContent b) n s)) (check rfl).symm)
  | 4 =>
    obtain ⟨⟩ := isCommand
    exact (exec_ack admitted ..).trans (congrArg (fun n => Host.Outcome.next (ackFrame x (spanKey b) (spanVersion b) n s)) (toNat_beAt b 20))
  | 5 =>
    show _ = Host.Outcome.next (confirmFrame x b s)
    unfold confirmFrame
    revert isCommand
    generalize (byteAt b 20).toNat = outcome
    intro isCommand
    match outcome with
    | 1 =>
      obtain ⟨⟩ := isCommand
      exact exec_confirmCommitted admitted ..
    | 2 =>
      obtain ⟨⟩ := isCommand
      exact exec_confirmRejected admitted ..
    | 0 | n + 3 => cases isCommand
  | 6 =>
    obtain ⟨⟩ := isCommand
    exact exec_withdraw admitted ..
  | 7 =>
    obtain ⟨⟩ := isCommand
    exact (exec_hold admitted _).trans (congrArg (fun n => Host.Outcome.next (holdFrame x n s)) (toNat_beAt b 0))
  | 8 =>
    obtain ⟨⟩ := isCommand
    exact exec_resume admitted
  | 9 =>
    obtain ⟨⟩ := isCommand
    exact exec_probe admitted
  | 10 =>
    obtain ⟨⟩ := isCommand
    rfl
  | 0 | n + 11 => cases isCommand

/-- R202: a CONFIRM of an unknown outcome is discarded, and so is any kind without a row. -/
theorem dispatch_of_noCommand {x : Region} {body : List Byte} (noCommand : commandOfFrame x (byteAt body 15) ((body.drop 22).take (beAt body 18 2)) = none) (s : State) :
    dispatch x body s = s := by
  have frameHead : Config.frameHead = 22 := rfl
  unfold dispatch SpanKind.ofCode
  dsimp only
  rw [frameHead]
  revert noCommand
  unfold commandOfFrame
  generalize (byteAt body 15).toNat = kind, (body.drop 22).take (beAt body 18 2) = b
  intro noCommand
  match kind with
  | 5 =>
    show confirmFrame x b s = s
    unfold confirmFrame
    revert noCommand
    generalize (byteAt b 20).toNat = outcome
    intro noCommand
    match outcome with
    | 1 | 2 => cases noCommand
    | 0 | n + 3 => rfl
  | 1 | 2 | 3 | 4 | 6 | 7 | 8 | 9 | 10 => cases noCommand
  | 0 | n + 11 => rfl

/-! ## What is heard (R140, R144) -/

theorem admits_iff {s : State} {x : Region} : s.admits x = true ↔ s.running = true ∧ ((s.region x).state = .dark ∨ (s.region x).state = .live) := by
  rw [State.admits, Bool.and_eq_true, Bool.or_eq_true, beq_iff_eq, beq_iff_eq]

/-- R140, R144: an admitted region that is heard. -/
theorem heardFrom_effect {x : Region} {s : State} (admitted : s.admits x = true) : let t := heardFrom x s
    KeepsAllBut [.backlog, .table, .lists, .contexts, .regions] s t ∧ (t.region x).state = .live ∧ (t.region x).heard = true ∧ (t.region x).miss = 0 := by
  intro t
  obtain ⟨-, dark | live⟩ := admits_iff.mp admitted
  · obtain ⟨kept, -, -, -, -, -, room, full⟩ := becomeLive_effect dark
    have keptOn := handingOn_keepsAllBut x (heardEvent x) s
    have entry : (heardFrom x s).region x = (heardEvent x s).region x := by
      rw [heardFrom_eq, State.region, keptOn .regions (by decide)]
      rfl
    refine ⟨kept.trans keptOn (by decide) (by decide), ?_⟩
    rw [entry]
    by_cases fits : s.hasRoom 1
    · rw [(room fits).1]
      exact ⟨rfl, rfl, rfl⟩
    · rw [(full fits).2]
      exact ⟨rfl, rfl, rfl⟩
  · have eq : t = modRegion x heardEntry s := heardFrom_of_live live
    obtain ⟨kept, entry, -⟩ := modRegion_effect x heardEntry s
    rw [eq, entry]
    exact ⟨kept.weaken (by decide), live, rfl, rfl⟩

theorem running_of_keeps {xs : List Block} {s t : State} (kept : KeepsAllBut xs s t) (startUp : Block.startUp ∉ xs) : t.running = s.running := by
  rw [State.running, State.running, show t.start = s.start from kept .startUp startUp]

theorem ownIndex_of_keeps {xs : List Block} {s t : State} (kept : KeepsAllBut xs s t) (startUp : Block.startUp ∉ xs) : t.ownIndex = s.ownIndex := by
  rw [State.ownIndex, State.ownIndex, show t.start = s.start from kept .startUp startUp]

theorem heardFrom_admits {x : Region} {s : State} (admitted : s.admits x = true) : (heardFrom x s).admits x = true := by
  obtain ⟨kept, live, -⟩ := heardFrom_effect admitted
  exact admits_iff.mpr ⟨(running_of_keeps kept (by decide)).trans (admits_iff.mp admitted).1, .inr live⟩

theorem dispatch_admits {x : Region} {s : State} (admitted : s.admits x = true) (body : List Byte) : (dispatch x body s).admits x = true := by
  obtain ⟨kept, heard⟩ := Dispatched.dispatch x body s
  obtain ⟨running, state⟩ := admits_iff.mp admitted
  refine admits_iff.mpr ⟨(running_of_keeps kept (by decide)).trans running, ?_⟩
  rwa [(heard x).1]

/-! ## O58 -/

theorem exec_frameReceive (bytes : List Byte) (first : Bool) (s : State) :
    exec (.frameReceive bytes first) s = .next (if s.running && s.wan.carrier then receiveFrame bytes first s else s) := rfl

theorem exec_frameReceive_of_admitted {bytes : List Byte} {x : Region} {s : State} (carrier : s.wan.carrier = true) (filtered : s.filter bytes = some x)
    (admitted : s.admits x = true) (first : Bool) : let body := bytes.take (bytes.length - 4)
    exec (.frameReceive bytes first) s = .next (if first then heardFrom x (dispatch x body s) else dispatch x body (heardFrom x s)) := by
  intro body
  rw [exec_frameReceive, (admits_iff.mp admitted).1, carrier]
  unfold receiveFrame
  rw [filtered]
  rfl

theorem exec_frameReceive_discards {bytes : List Byte} {s : State} (first : Bool) (no : s.running = false ∨ s.wan.carrier = false ∨ s.filter bytes = none) :
    exec (.frameReceive bytes first) s = .next s := by
  rw [exec_frameReceive]
  obtain running | carrier | filtered := no
  · rw [running]
    rfl
  · rw [carrier, Bool.and_false]
    rfl
  · unfold receiveFrame
    rw [filtered, ite_self]

/-- Settles O58: the filter's chain of checks, the dispatch by kinds, and what each order of it keeps. -/
theorem framesAreFilteredAndDispatched : Obligations.FramesAreFilteredAndDispatched := by
  intro bytes s body length kind content
  refine ⟨fun first no => exec_frameReceive_discards first no, fun im x image few => ?_, fun x c carrier filtered admitted isCommand check => ?_,
    fun x first carrier filtered admitted noCommand => ?_, fun x first carrier filtered admitted => ?_⟩
  · intro lengthGood
    have chain := filter_eq_some_iff (bytes := bytes) (x := x) image few
    dsimp only at chain
    rw [lengthOk_iff] at chain
    exact chain
  · rw [exec_frameReceive_of_admitted carrier filtered admitted, exec_frameReceive_of_admitted carrier filtered admitted]
    have own : (heardFrom x s).ownIndex = s.ownIndex := ownIndex_of_keeps (heardFrom_effect admitted).1 (by decide)
    exact ⟨⟨_, exec_frameHeard admitted, (exec_of_command (heardFrom_admits admitted) isCommand (by rwa [own])).symm⟩,
      _, exec_of_command admitted isCommand check, (exec_frameHeard (dispatch_admits admitted _)).symm⟩
  · rw [exec_frameReceive_of_admitted carrier filtered admitted, exec_frameHeard admitted, dispatch_of_noCommand noCommand, dispatch_of_noCommand noCommand, ite_self]
  · refine ⟨_, exec_frameReceive_of_admitted carrier filtered admitted first, ?_⟩
    cases first
    · obtain ⟨keptHeard, state, heard, miss⟩ := heardFrom_effect admitted
      obtain ⟨kept, same⟩ := Dispatched.dispatch x body (heardFrom x s)
      obtain ⟨sameState, sameHeard, sameMiss⟩ := same x
      exact ⟨keptHeard.trans kept (by decide) (by decide), sameState.trans state, sameHeard.trans heard, sameMiss.trans miss⟩
    · rw [if_pos rfl]
      obtain ⟨keptHeard, effect⟩ := heardFrom_effect (dispatch_admits admitted body)
      exact ⟨(Dispatched.dispatch x body s).kept.trans keptHeard (by decide) (by decide), effect⟩

end Sys2Proof.Machine
end

section
/-! PROOFS. O38: a DEFER and the records of its queue, one after the other (R81, R77, R187). -/

namespace Sys2Proof.Machine

/-! ## A step on one record -/

/-- What a step of a claim on one record leaves as it was: the other records and their places in the Linger List, and what decides on room. -/
structure StepOn (k : Key) (s t : State) : Prop where
  kept : KeepsAllBut [.backlog, .table] s t
  room : RoomKept s t
  pressure : PressureKept s t
  others : OtherRecords k s t
  linger : ∀ q, q ≠ k → (q ∈ t.table.linger ↔ q ∈ s.table.linger)

theorem StepOn.trans {k : Key} {s t u : State} (h : StepOn k s t) (g : StepOn k t u) : StepOn k s u :=
  ⟨h.kept.trans g.kept (List.Subset.refl _) (List.Subset.refl _), h.room.trans g.room, h.pressure.trans g.pressure, h.others.trans g.others,
    fun q hq => (g.linger q hq).trans (h.linger q hq)⟩

theorem slotTo_stepOn (k : Key) (x : Region) (st : SlotState) (s : State) : StepOn k s (slotTo k x st s) :=
  ⟨keepsAllBut_iff.mpr (by simp), .of_regions rfl rfl rfl, ⟨rfl, rfl, rfl⟩, modRec_otherRecords k _ s, fun _ _ => Iff.rfl⟩

theorem JoinsLinger.mem_iff {k : Key} {s t : State} (h : JoinsLinger k s t) (q : Key) : q ∈ t.table.linger ↔ q = k ∨ q ∈ s.table.linger := by
  obtain ⟨before, after, was, isNow, -, -⟩ := h
  rw [was, isNow, List.mem_append, List.mem_append, List.mem_cons]
  tauto

theorem settle_stepOn (k : Key) (o : Settle) (s : State) : StepOn k s (settle k o s) :=
  ⟨keepsAllBut_iff.mpr (by simp), settle_roomKept k o s, ⟨rfl, rfl, rfl⟩, settle_otherRecords k o s,
    fun q hq => ((settle_joins k o s).mem_iff q).trans (or_iff_right hq)⟩

theorem emitRecord_stepOn {k : Key} {r : Record} {s : State} (found : s.table.find k = some r) (n : Notice) : StepOn k s (emitRecord k n s) :=
  ⟨keepsAllBut_iff.mpr (by simp), emitRecord_roomKept k n s, emitRecord_pressure found n, emitRecord_otherRecords k n s,
    fun q _ => by rw [emitRecord_linger]⟩

theorem retireIfDue_stepOn (k : Key) (s : State) : StepOn k s (retireIfDue k s) := by
  refine ⟨keepsAllBut_iff.mpr (by simp), .retireIfDue k s, retireIfDue_pressure k s, retireIfDue_otherRecords k s, fun q hq => ?_⟩
  rcases retireIfDue_cases k s with same | gone
  · rw [same]
  · rw [gone]
    show q ∈ s.table.linger.filter (fun p => p != k) ↔ _
    simp [hq]

/-! ## A record that settles CONVERGED with its notice (R6, R77) -/

/-- R10, R77: the record is retired in its claim, or lingers settled. -/
def SettledOrGone (unowed : Prop) (done : Record) (s t : State) : Prop :=
  (Retires unowed done s s → t.table.find done.key = none ∧ done.key ∉ t.table.linger) ∧
  (¬ Retires unowed done s s → done.key ∈ t.table.linger ∧ ∃ q, t.table.find done.key = some q ∧ Record.sameBody done q)

theorem retires_of_pool {unowed : Prop} {done : Record} {s t : State} (pool : t.pool = s.pool) : Retires unowed done s t ↔ Retires unowed done s s := by
  unfold Retires State.ctx
  rw [pool]

/-- R6, R77: the settle of a record whose slots are all final. -/
def converge (r : Record) (s : State) : State := retireIfDue r.key (emitRecord r.key (settledNotice r) (settle r.key .converged s))

theorem retireIfDue_backlog (k : Key) (s : State) : (retireIfDue k s).backlog = s.backlog := by simp

section converge
variable {r : Record} {s : State}

theorem converge_stepOn (found : s.table.find r.key = some r) : StepOn r.key s (converge r s) :=
  ((settle_stepOn ..).trans (emitRecord_stepOn (find_settle found .converged) _)).trans (retireIfDue_stepOn ..)

theorem converge_settledOrGone (found : s.table.find r.key = some r) : SettledOrGone (s.hasRoom 1) (r.settledAs .converged s) s (converge r s) := by
  have kept := (converge_stepOn found).kept
  have result : SettledOrRetired (s.hasRoom 1) r .converged s (converge r s) :=
    (emit_retire_standsOrRetires (find_settle found .converged) (settledNotice r)).of_settle rfl
  obtain ⟨gone, stands⟩ := result
  rw [retires_of_pool (show (converge r s).pool = s.pool from kept .contexts (by decide))] at gone stands
  refine ⟨fun due => ?_, fun notDue => ?_⟩
  · obtain ⟨absent, linger⟩ := gone due
    refine ⟨absent, ?_⟩
    show r.key ∉ (converge r s).table.linger
    rw [show (converge r s).table.linger = _ from linger]
    simp
  · obtain ⟨record, joins⟩ := stands notDue
    exact ⟨(joins.mem_iff r.key).mpr (.inl rfl), record⟩

theorem converge_of_room (room : s.hasRoom 1) : (converge r s).backlog = { s.backlog with entries := s.backlog.entries ++ waitingEntries (settledNotice r).bodies } := by
  rw [converge, retireIfDue_backlog, emitRecord_of_fits (show (settle r.key .converged s).hasRoom (settledNotice r).length from room)]
  rfl

theorem converge_of_full (found : s.table.find r.key = some r) (full : ¬ s.hasRoom 1) :
    (converge r s).backlog = { s.backlog with owedList := owedWith r.key s.backlog.owedList } ∧
      ∃ q, (converge r s).table.find r.key = some q ∧ q.owed = true := by
  have noRoom : ¬ (settle r.key .converged s).hasRoom (settledNotice r).length := full
  have settled := find_settle found .converged
  obtain ⟨q, stands, -, -, owes⟩ := emitRecord_record settled (settledNotice r)
  have stays : converge r s = emitRecord r.key (settledNotice r) (settle r.key .converged s) :=
    retireIfDue_of_not_due stands fun due => Bool.false_ne_true (due.2.2.1.symm.trans (owes noRoom))
  rw [stays]
  refine ⟨?_, q, stands, owes noRoom⟩
  rw [emitRecord_of_not_fits noRoom, oweRecord_owedList settled]
  rfl

end converge

/-! ## One record of the queue (R81) -/

/-- R81: the record with its slot of the region DEFERRED. -/
def Record.deferredIn (r : Record) (x : Region) : Record := r.withSlot x ((vget r.slots x).moved .deferred)

/-- R6, R81: the record of a key as it settles when its slot is deferred. -/
def settlingOf (x : Region) (s : State) (k : Key) : Option Record := (s.table.find k).bind fun r =>
  if (r.role == .localRole && r.state == .opened && (r.deferredIn x).allFinal) = true then some (r.deferredIn x) else none

theorem settlingOf_eq_some_iff {x : Region} {s : State} {k : Key} {d : Record} : settlingOf x s k = some d ↔
    ∃ r, s.table.find k = some r ∧ (r.role = .localRole ∧ r.state = .opened ∧ (r.deferredIn x).allFinal = true) ∧ r.deferredIn x = d := by
  unfold settlingOf
  simp [Option.bind_eq_some_iff, and_assoc]

theorem settlingOf_key {x : Region} {s : State} {k : Key} {d : Record} (h : settlingOf x s k = some d) : d.key = k := by
  obtain ⟨r, found, -, rfl⟩ := settlingOf_eq_some_iff.mp h
  exact (Table.find_some found).2

theorem settlingOf_congr {x : Region} {s t : State} {k : Key} (h : t.table.find k = s.table.find k) : settlingOf x t k = settlingOf x s k := by
  rw [settlingOf, h]
  rfl

theorem converges_deferred (x : Region) (k : Key) (s : State) : (slotTo k x .deferred s).converges k = (settlingOf x s k).isSome := by
  unfold State.converges settlingOf
  cases found : s.table.find k with
  | none =>
    rw [show (slotTo k x .deferred s).table.find k = (s.table.find k).map _ from find_modRec k _ s fun _ => rfl, found]
    rfl
  | some r =>
    rw [find_slotTo found, Option.any_some, Option.bind_some]
    show (r.role == .localRole && r.state == .opened && (r.deferredIn x).allFinal) = _
    rw [Bool.eq_iff_iff, Option.isSome_ite]

theorem deferOne_of_open {x : Region} {k : Key} {s : State} (h : settlingOf x s k = none) (n : Nat) : deferOne x (s, n) k = (slotTo k x .deferred s, n) := by
  have open_ : (slotTo k x .deferred s).converges k = false := by rw [converges_deferred, h]; rfl
  have test : settleTest k (slotTo k x .deferred s) = slotTo k x .deferred s := by
    unfold settleTest
    rw [open_]
    split <;> rfl
  rw [deferOne, test, open_]
  rfl

theorem deferOne_of_last {x : Region} {k : Key} {d : Record} {s : State} (h : settlingOf x s k = some d) (n : Nat) :
    deferOne x (s, n) k = (converge d (slotTo k x .deferred s), n + 1) := by
  have last : (slotTo k x .deferred s).converges k = true := by rw [converges_deferred, h]; rfl
  obtain ⟨r, found, -, rfl⟩ := settlingOf_eq_some_iff.mp h
  have key : (r.deferredIn x).key = k := settlingOf_key h
  have test : settleTest k (slotTo k x .deferred s) = converge (r.deferredIn x) (slotTo k x .deferred s) := by
    rw [converge, key, settleTest, find_slotTo found]
    exact if_pos last
  rw [deferOne, test, last]
  rfl

end Sys2Proof.Machine
end

section
/-! PROOFS. O38: what a DEFER has done once a part of the queue is behind it, and the DEFER itself (R81, R187). -/

namespace Sys2Proof.Machine

theorem settledAs_of_keeps {s u : State} (kept : KeepsAllBut [.backlog, .table] s u) (r : Record) (o : Settle) : r.settledAs o u = r.settledAs o s := by
  have now : u.now = s.now := kept .clock (by decide)
  have settings : u.settings = s.settings := kept .settings (by decide)
  rw [Record.settledAs, Record.settledAs, State.settingTime, State.settingTime, State.setting, State.setting, now, settings]

theorem SettledOrGone.before {unowed : Prop} {done : Record} {s u t : State} (h : SettledOrGone unowed done u t) (kept : KeepsAllBut [.backlog, .table] s u) :
    SettledOrGone unowed done s t := by
  have now : u.now = s.now := kept .clock (by decide)
  have pool : u.pool = s.pool := kept .contexts (by decide)
  unfold SettledOrGone Retires State.ctx at h ⊢
  rwa [now, pool] at h

/-! ## The records that settle (R81) -/

/-- The places of the Backlog neither filled nor reserved. -/
def State.freePlaces (s : State) : Nat := 64 - s.backlog.entries.length - s.backlog.reservations

theorem settlings_keys_subset (x : Region) (s : State) (ks : List Key) {d : Record} (h : d ∈ ks.filterMap (settlingOf x s)) : d.key ∈ ks := by
  obtain ⟨k, mem, is⟩ := List.mem_filterMap.mp h
  rwa [settlingOf_key is]

theorem settlings_keys (x : Region) (s : State) (ks : List Key) :
    (ks.filterMap (settlingOf x s)).map (·.key) = ks.filter fun k => (settlingOf x s k).isSome := by
  induction ks with
  | nil => rfl
  | cons k rest ih =>
    cases is : settlingOf x s k with
    | none =>
      rw [List.filterMap_cons_none is, ih, List.filter_cons_of_neg]
      simp [is]
    | some d =>
      rw [List.filterMap_cons_some is, List.map_cons, ih, List.filter_cons_of_pos, settlingOf_key is]
      simp [is]

theorem settlings_append_none {x : Region} {s : State} {k : Key} (h : settlingOf x s k = none) (ks : List Key) :
    (ks ++ [k]).filterMap (settlingOf x s) = ks.filterMap (settlingOf x s) := by
  rw [List.filterMap_append, List.filterMap_cons_none h, List.filterMap_nil, List.append_nil]

theorem settlings_append_some {x : Region} {s : State} {k : Key} {d : Record} (h : settlingOf x s k = some d) (ks : List Key) :
    (ks ++ [k]).filterMap (settlingOf x s) = ks.filterMap (settlingOf x s) ++ [d] := by
  rw [List.filterMap_append, List.filterMap_cons_some h, List.filterMap_nil]

theorem entriesOf_settled_length (ds : List Record) : (entriesOf (ds.map settledNotice)).length = ds.length := by
  induction ds with
  | nil => rfl
  | cons d rest ih =>
    rw [List.map_cons, entriesOf_cons, List.length_append, ih, List.length_cons, Nat.add_comm]
    rfl

theorem mem_take_append_self {α : Type} {l : List α} {a : α} (fresh : a ∉ l) (n : Nat) : a ∈ (l ++ [a]).take n ↔ l.length < n := by
  rw [List.take_append, List.mem_append, or_iff_right fun mem => fresh (List.mem_of_mem_take mem)]
  constructor
  · intro mem
    have length := List.length_pos_of_mem mem
    simp only [List.length_take] at length
    omega
  · intro short
    rw [List.take_of_length_le (by simp only [List.length_singleton]; omega)]
    exact List.mem_singleton_self a

theorem mem_take_append_other {α : Type} {l : List α} {a b : α} (other : b ≠ a) (n : Nat) : b ∈ (l ++ [a]).take n ↔ b ∈ l.take n := by
  rw [List.take_append, List.mem_append, or_iff_left fun mem => other (List.mem_singleton.mp (List.mem_of_mem_take mem))]

/-! ## A part of the queue done -/

/-- R81, R187: what a DEFER has done with the first records of the queue. -/
structure Deferring (x : Region) (ks : List Key) (s t : State) : Prop where
  kept : KeepsAllBut [.backlog, .table] s t
  room : RoomKept s t
  pressure : PressureKept s t
  entries : t.backlog.entries = s.backlog.entries ++ waitingEntries (entriesOf (((ks.filterMap (settlingOf x s)).take s.freePlaces).map settledNotice))
  list : t.backlog.owedList = ((ks.filterMap (settlingOf x s)).drop s.freePlaces).map (·.key)
  owed : ∀ r ∈ (ks.filterMap (settlingOf x s)).drop s.freePlaces, ∃ q, t.table.find r.key = some q ∧ q.owed = true
  others : ∀ k, k ∉ ks → t.table.find k = s.table.find k
  stay : ∀ k r, k ∈ ks → s.table.find k = some r → settlingOf x s k = none → t.table.find k = some (r.deferredIn x)
  settled : ∀ k d, k ∈ ks → settlingOf x s k = some d → SettledOrGone (d ∈ (ks.filterMap (settlingOf x s)).take s.freePlaces) (d.settledAs .converged s) s t

namespace Deferring
variable {x : Region} {ks : List Key} {k : Key} {s t u : State}

theorem start (x : Region) (unowed : s.anyOwed = false) : Deferring x [] s s where
  kept := .refl _ s
  room := .of_regions rfl rfl rfl
  pressure := .refl s
  entries := by simp [entriesOf, waitingEntries]
  list := by rw [((anyOwed_eq_false_iff s).mp unowed).2.2.2]; simp
  owed := by simp
  others := fun _ _ => rfl
  stay := by simp
  settled := by simp

/-- R187: a notice is placed while there is room and none before it was left owed. -/
theorem hasRoom_iff (h : Deferring x ks s t) (unowed : s.anyOwed = false) : t.hasRoom 1 ↔ (ks.filterMap (settlingOf x s)).length < s.freePlaces := by
  have none := ((anyOwed_eq_false_iff s).mp unowed).2.2.2
  rw [State.hasRoom, fits_iff]
  by_cases full : s.freePlaces < (ks.filterMap (settlingOf x s)).length
  · refine iff_of_false (fun room => ?_) (by omega)
    have owes : t.backlog.owedList ≠ [] := by
      rw [h.list]
      simp [full]
    rw [anyOwed_of_owedList owes] at room
    exact Bool.false_ne_true room.1.symm
  · have list : t.backlog.owedList = s.backlog.owedList := by
      rw [h.list, none, List.drop_eq_nil_of_le (by omega)]
      rfl
    rw [h.room.anyOwed h.pressure.2.2 list, unowed, h.entries, h.room.reservations, List.take_of_length_le (by omega)]
    simp only [List.length_append, waitingEntries_length, State.freePlaces] at full ⊢
    rw [entriesOf_settled_length]
    simp only [true_and]
    omega

/-- A further step on one record, for what is said of the others. -/
theorem settled_beside {P Q : Prop} {d : Record} (h : SettledOrGone P d s t) (step : StepOn k t u) (other : d.key ≠ k) (same : Q ↔ P) : SettledOrGone Q d s u := by
  unfold SettledOrGone at h ⊢
  rw [same, step.others _ other, step.linger _ other]
  exact h

theorem step_open (h : Deferring x ks s t) (new : k ∉ ks) (open_ : settlingOf x s k = none) : Deferring x (ks ++ [k]) s (slotTo k x .deferred t) := by
  have step := slotTo_stepOn k x .deferred t
  have same := settlings_append_none open_ ks
  refine ⟨h.kept.trans step.kept (List.Subset.refl _) (List.Subset.refl _), h.room.trans step.room, h.pressure.trans step.pressure, ?_, ?_, fun r hr => ?_,
    fun q hq => ?_, fun q r hq found stays => ?_, fun q d hq is => ?_⟩
  · rw [same]
    exact h.entries
  · rw [same]
    exact h.list
  · rw [same] at hr
    obtain ⟨q, found, owed⟩ := h.owed r hr
    refine ⟨q, ?_, owed⟩
    rw [step.others _ fun eq => new (eq ▸ settlings_keys_subset x s ks (List.mem_of_mem_drop hr)), found]
  · obtain ⟨old, other⟩ : q ∉ ks ∧ q ≠ k := by simpa using hq
    exact (step.others q other).trans (h.others q old)
  · by_cases here : q = k
    · subst here
      exact find_slotTo ((h.others q new).trans found) x .deferred
    · exact (step.others q here).trans (h.stay q r (by simpa [here] using hq) found stays)
  · have here : q ≠ k := fun eq => by rw [eq, open_] at is; cases is
    rw [same]
    exact settled_beside (h.settled q d (by simpa [here] using hq) is) step (by rw [← settlingOf_key is] at here; exact here) Iff.rfl

theorem step_last (h : Deferring x ks s t) (unowed : s.anyOwed = false) (new : k ∉ ks) {d : Record} (last : settlingOf x s k = some d) :
    Deferring x (ks ++ [k]) s (converge d (slotTo k x .deferred t)) := by
  obtain ⟨r, foundS, final, rfl⟩ := settlingOf_eq_some_iff.mp last
  have key : (r.deferredIn x).key = k := settlingOf_key last
  have found : (slotTo k x .deferred t).table.find (r.deferredIn x).key = some (r.deferredIn x) := by
    rw [key]
    exact find_slotTo ((h.others k new).trans foundS) x .deferred
  have moved := slotTo_stepOn k x .deferred t
  have converged := converge_stepOn found
  rw [key] at converged
  have step := moved.trans converged
  have kept := h.kept.trans step.kept (List.Subset.refl _) (List.Subset.refl _)
  have same := settlings_append_some last ks
  have fresh : r.deferredIn x ∉ ks.filterMap (settlingOf x s) := fun mem => new (key ▸ settlings_keys_subset x s ks mem)
  have room : (slotTo k x .deferred t).hasRoom 1 ↔ (ks.filterMap (settlingOf x s)).length < s.freePlaces := h.hasRoom_iff unowed
  have outcome := converge_settledOrGone found
  have before : ∀ d', d' ∈ ks.filterMap (settlingOf x s) → d'.key ≠ k := fun d' mem eq => new (eq ▸ settlings_keys_subset x s ks mem)
  have others : ∀ q, q ∉ ks ++ [k] → (converge (r.deferredIn x) (slotTo k x .deferred t)).table.find q = s.table.find q := fun q hq => by
    obtain ⟨old, other⟩ : q ∉ ks ∧ q ≠ k := by simpa using hq
    exact (step.others q other).trans (h.others q old)
  have stay : ∀ q p, q ∈ ks ++ [k] → s.table.find q = some p → settlingOf x s q = none →
      (converge (r.deferredIn x) (slotTo k x .deferred t)).table.find q = some (p.deferredIn x) := fun q p hq foundQ stays => by
    have here : q ≠ k := fun eq => by rw [eq, last] at stays; cases stays
    exact (step.others q here).trans (h.stay q p (by simpa [here] using hq) foundQ stays)
  have settled : ∀ q d, q ∈ ks ++ [k] → settlingOf x s q = some d →
      SettledOrGone (d ∈ ((ks ++ [k]).filterMap (settlingOf x s)).take s.freePlaces) (d.settledAs .converged s) s
        (converge (r.deferredIn x) (slotTo k x .deferred t)) := fun q d hq is => by
    rw [same]
    by_cases here : q = k
    · obtain rfl : r.deferredIn x = d := Option.some.inj (last.symm.trans (here ▸ is))
      have keptM := h.kept.trans moved.kept (List.Subset.refl _) (List.Subset.refl _)
      rw [mem_take_append_self fresh, ← room]
      rw [← settledAs_of_keeps keptM]
      exact outcome.before keptM
    · have beside : d.key ≠ k := by rwa [settlingOf_key is]
      exact settled_beside (h.settled q d (by simpa [here] using hq) is) step beside
        (mem_take_append_other (fun eq => beside (by rw [eq, key])) _)
  by_cases fits : (ks.filterMap (settlingOf x s)).length < s.freePlaces
  · have backlog := converge_of_room (r := r.deferredIn x) (room.mpr fits)
    have all : (ks.filterMap (settlingOf x s) ++ [r.deferredIn x]).length ≤ s.freePlaces := by simpa using fits
    have none := h.list
    have entries := h.entries
    rw [List.drop_eq_nil_of_le fits.le] at none
    rw [List.take_of_length_le fits.le] at entries
    refine ⟨kept, h.room.trans step.room, h.pressure.trans step.pressure, ?_, ?_, fun q hq => ?_, others, stay, settled⟩
    · rw [same, List.take_of_length_le all, backlog, List.map_append, entriesOf_append, waitingEntries_append]
      show t.backlog.entries ++ _ = _
      rw [entries, List.append_assoc]
      rfl
    · rw [same, List.drop_eq_nil_of_le all, backlog]
      exact none
    · rw [same, List.drop_eq_nil_of_le all] at hq
      cases hq
  · obtain ⟨backlog, owes⟩ := converge_of_full found (mt room.mp fits)
    have atMost : s.freePlaces ≤ (ks.filterMap (settlingOf x s)).length := not_lt.mp fits
    refine ⟨kept, h.room.trans step.room, h.pressure.trans step.pressure, ?_, ?_, fun q hq => ?_, others, stay, settled⟩
    · rw [same, List.take_append_of_le_length atMost, backlog]
      exact h.entries
    · rw [same, List.drop_append_of_le_length atMost, backlog, List.map_append, ← h.list]
      refine if_neg fun mem => ?_
      have mem' : (r.deferredIn x).key ∈ t.backlog.owedList := mem
      rw [h.list] at mem'
      obtain ⟨d', drop, eq⟩ := List.mem_map.mp mem'
      exact before d' (List.mem_of_mem_drop drop) (eq.trans key)
    · rw [same, List.drop_append_of_le_length atMost, List.mem_append, List.mem_singleton] at hq
      rcases hq with old | rfl
      · obtain ⟨p, foundP, owed⟩ := h.owed q old
        exact ⟨p, (step.others _ (before q (List.mem_of_mem_drop old))).trans foundP, owed⟩
      · exact owes

/-- R81: the records of a queue, one after the other. -/
theorem foldl (unowed : s.anyOwed = false) (distinct : ks.Nodup) :
    Deferring x ks s (ks.foldl (deferOne x) (s, 0)).1 ∧ (ks.foldl (deferOne x) (s, 0)).2 = (ks.filterMap (settlingOf x s)).length := by
  induction ks using List.reverseRecOn with
  | nil => exact ⟨.start x unowed, rfl⟩
  | append_singleton ks k ih =>
    obtain ⟨distinct', -, new⟩ := List.nodup_append.mp distinct
    have new' : k ∉ ks := fun mem => new k mem k (List.mem_singleton_self k) rfl
    obtain ⟨h, count⟩ := ih distinct'
    rw [List.foldl_append, List.foldl_cons, List.foldl_nil]
    revert h count
    generalize ks.foldl (deferOne x) (s, 0) = acc
    obtain ⟨t, n⟩ := acc
    rintro h rfl
    have same : settlingOf x t k = settlingOf x s k := settlingOf_congr (h.others k new')
    cases last : settlingOf x s k with
    | none =>
      rw [deferOne_of_open (same.trans last), settlings_append_none last]
      exact ⟨h.step_open new' last, rfl⟩
    | some d =>
      rw [deferOne_of_last (same.trans last), settlings_append_some last, List.length_append]
      exact ⟨h.step_last unowed new' last, rfl⟩

end Deferring

end Sys2Proof.Machine
end

section
/-! PROOFS. O38: the DEFER of a region (R81, R77, R187). -/

namespace Sys2Proof.Machine

/-- R81: the state in which a DEFER begins with its records. -/
def emptied (x : Region) (s : State) : State := (reserve s).withSched { s.sched with work := vset s.sched.work x [] }

theorem takeDefer_of_live {tag : Word} {b : Byte} {s : State} (other : b.toNat < s.regionCount ∧ b.toNat ≠ s.ownIndex)
    (live : (s.region (regionOf b)).state = .live) : takeDefer .management tag b s = answer .management tag .defer .regionLive .plain s := by
  rw [takeDefer, managed_management, otherRegion_of_other other]
  exact if_pos (beq_iff_eq.mpr live)

theorem takeDefer_of_down {tag : Word} {b : Byte} {s : State} (other : b.toNat < s.regionCount ∧ b.toNat ≠ s.ownIndex)
    (down : (s.region (regionOf b)).state ≠ .live) :
    let queue := vget s.sched.work (regionOf b)
    let deferred := queue.foldl (deferOne (regionOf b)) (emptied (regionOf b) s, 0)
    takeDefer .management tag b (reserve s) = answer .management tag .defer .ok (.defer queue.length deferred.2) (pressureCheck deferred.1) := by
  rw [takeDefer, managed_management, otherRegion_of_other (s := reserve s) other]
  exact if_neg fun live => down (beq_iff_eq.mp live)

theorem emptied_anyOwed {s : State} (ok : s.takeOk .management = true) (x : Region) : (emptied x s).anyOwed = false := by
  obtain ⟨-, -, -, -, owed, -⟩ := (takeOk_iff .management s).mp ok
  exact (anyOwed_eq_false_iff s).mpr owed

theorem emptied_freePlaces (x : Region) (s : State) : (emptied x s).freePlaces = 64 - (s.backlog.entries.length + s.backlog.reservations + 1) := by
  show 64 - s.backlog.entries.length - (s.backlog.reservations + 1) = _
  omega

/-- What is said of a settled record reads the table, the Linger List and the contexts. -/
theorem SettledOrGone.after {unowed : Prop} {done : Record} {s t u : State} (h : SettledOrGone unowed done s t) (find : u.table.find done.key = t.table.find done.key)
    (linger : u.table.linger = t.table.linger) : SettledOrGone unowed done s u := by
  unfold SettledOrGone at h ⊢
  rwa [find, linger]

/-- The keys of the records that settle are those that a set of keys without repetition names. -/
theorem settlings_length {x : Region} {s : State} {queue keys : List Key} (distinct : queue.Nodup) (nodup : keys.Nodup)
    (named : ∀ k, k ∈ keys ↔ k ∈ queue ∧ (settlingOf x s k).isSome = true) : (queue.filterMap (settlingOf x s)).length = keys.length := by
  have perm : (queue.filter fun k => (settlingOf x s k).isSome).Perm keys :=
    (List.perm_ext_iff_of_nodup (distinct.filter _) nodup).mpr fun k => by rw [List.mem_filter, named]
  rw [← List.length_map (f := Record.key), settlings_keys, perm.length_eq]

theorem settlingOf_isSome_iff {x : Region} {s : State} {k : Key} : (settlingOf x s k).isSome = true ↔
    ∃ r, s.table.find k = some r ∧ r.role = .localRole ∧ r.state = .opened ∧ (r.deferredIn x).allFinal = true := by
  rw [Option.isSome_iff_exists]
  simp only [settlingOf_eq_some_iff]
  constructor
  · rintro ⟨-, r, found, last, -⟩
    exact ⟨r, found, last⟩
  · rintro ⟨r, found, last⟩
    exact ⟨_, r, found, last, rfl⟩

/-- Settles O38: the records of the queue one after the other (`Deferring.foldl`), then the comparison and the completion. -/
theorem deferEmptiesTheWorkQueue : Obligations.DeferEmptiesTheWorkQueue := by
  intro tag b s ok x other queue deferred last
  rw [exec_defer, taking_of_takeOk ok]
  refine ⟨fun no => ?_, fun other live => ?_, ?_⟩
  · rw [takeDefer, managed_management, otherRegion_of_not (s := reserve s) no]
    exact congrArg Host.Outcome.next (complete_reserve ..)
  · rw [takeDefer_of_live (s := reserve s) other live]
    exact congrArg Host.Outcome.next (complete_reserve ..)
  intro settling room other down distinct
  obtain ⟨h, count⟩ := Deferring.foldl (x := x) (emptied_anyOwed ok x) distinct
  have result := takeDefer_of_down (tag := tag) other down
  revert h count result
  dsimp only
  generalize queue.foldl (deferOne x) (emptied x s, 0) = acc
  obtain ⟨w, n⟩ := acc
  dsimp only
  intro h count result
  have rooms : (emptied x s).freePlaces = room := emptied_freePlaces x s
  have settlings : queue.filterMap (settlingOf x (emptied x s)) = settling := rfl
  obtain ⟨es, compared, entries, records, linger, list, reservations⟩ := pressureCheck_compares w
  have find : ∀ k, (pressureCheck w).table.find k = w.table.find k := fun k => find_pressureCheck k w
  have emptiedKept : KeepsAllBut [.backlog, .lists] s (emptied x s) := keepsAllBut_iff.mpr (by simp [emptied, reserve])
  have keptW : KeepsAllBut [.backlog, .table, .lists] s (pressureCheck w) :=
    (emptiedKept.trans h.kept (by decide) (by decide)).trans (ys := [.backlog, .table]) (keepsAllBut_iff.mpr (by simp)) (List.Subset.refl _) (by decide)
  have kept := keptW.trans (answer_keepsAllBut .management tag .defer .ok (.defer queue.length n) (pressureCheck w)) (List.Subset.refl _) (by decide)
  have entriesW := h.entries
  have listW := h.list
  have owed := h.owed
  have hasRoom := h.hasRoom_iff (emptied_anyOwed ok x)
  have settled := h.settled
  rw [rooms, settlings] at entriesW listW owed hasRoom settled
  have all : (answer .management tag .defer .ok (.defer queue.length n) (pressureCheck w)).backlog.entries =
      s.backlog.entries ++ waitingEntries (entriesOf ((settling.take room).map settledNotice)) ++ es ++
        waitingEntries [.completion { ring := .management, tag := tag, kind := 0x25, status := .ok, body := .defer queue.length n }] := by
    show (pressureCheck w).backlog.entries ++ _ = _
    rw [entries, entriesW]
    rfl
  refine ⟨_, n, congrArg Host.Outcome.next result, kept, ?_, ⟨_, all.trans (congrArg (· ++ _) (List.append_assoc ..))⟩, count,
    ⟨es, ?_, all⟩, ?_, list.trans listW, fun r hr => ?_, fun keys nodup named => ?_, fun k hk => ?_, fun k r hk found => ⟨fun stays => ?_, fun is => ?_⟩⟩
  · show (pressureCheck w).sched = _
    have lists : (pressureCheck w).sched = w.sched := by simp
    exact lists.trans (h.kept .lists (by decide))
  · exact compared.of_same hasRoom h.pressure.1.symm h.pressure.2.1.symm h.pressure.2.2.symm rfl rfl rfl
  · show (pressureCheck w).backlog.reservations - 1 = _
    rw [reservations, h.room.reservations]
    rfl
  · obtain ⟨q, foundQ, owes⟩ := owed r hr
    exact ⟨q, (find _).trans foundQ, owes⟩
  · refine count.trans ?_
    exact settlings_length distinct nodup fun k => (named k).trans (and_congr_right fun _ => settlingOf_isSome_iff.symm)
  · exact (find k).trans (h.others k hk)
  · refine (find k).trans (h.stay k r hk found ?_)
    refine Option.not_isSome_iff_eq_none.mp fun some => stays ?_
    obtain ⟨p, foundP, lastP⟩ := settlingOf_isSome_iff.mp some
    cases found.symm.trans foundP
    exact lastP
  · have key : r.key = k := (Table.find_some found).2
    subst key
    have outcome : SettledOrGone (deferred r ∈ settling.take room) ((deferred r).settledAs .converged s) s w :=
      settled r.key (deferred r) hk (settlingOf_eq_some_iff.mpr ⟨r, found, is, rfl⟩)
    rw [retires_of_pool (kept .contexts (by decide))]
    exact outcome.after (find r.key) linger

end Sys2Proof.Machine
end

section
/-! PROOFS. O17: the register window, its writes and its reads (R178, R201, section 12.2). -/

namespace Sys2Proof.Machine

/-! ## The groups of the rings -/

/-- Section 12.2: the index of the first register of a ring's group. -/
def groupFirst : RingName → Nat
  | .data => 8
  | .management => 16
  | .completion => 24

theorem groupFirst_of_mem {name : RingName} {first : Nat} (h : (name, first) ∈ [(RingName.data, 8), (.management, 16), (.completion, 24)]) : first = groupFirst name := by
  simp only [List.mem_cons, List.not_mem_nil, or_false, Prod.mk.injEq] at h
  obtain ⟨rfl, rfl⟩ | ⟨rfl, rfl⟩ | ⟨rfl, rfl⟩ := h <;> rfl

theorem index_toNat {n : Nat} (h : n < 1024) : (BitVec.ofNat 10 n).toNat = n := by
  rw [BitVec.toNat_ofNat]
  exact Nat.mod_eq_of_lt h

theorem writeRegister_group (name : RingName) {field : Nat} (h : field < 8) (v : Word) (s : State) :
    writeRegister (BitVec.ofNat 10 (groupFirst name + field)) v s = writeRingGroup name field v s := by
  interval_cases field <;> cases name <;> rfl

theorem readRegister_group (name : RingName) {field : Nat} (h : field < 8) {s : State} (shown : s.windowOpen = true) :
    readRegister (BitVec.ofNat 10 (groupFirst name + field)) s = readRing (s.rings.get name) field := by
  have hidden : (!s.windowOpen) = false := by rw [shown]; rfl
  interval_cases field <;> cases name <;> exact if_neg (by rw [hidden]; exact Bool.false_ne_true)

/-! ## Writes -/

theorem exec_registerWrite (index : BitVec 10) (v : Word) (s : State) : exec (.registerWrite index v) s = .next (writeRegister index v s) := rfl

theorem writable_iff (s : State) : s.writable = true ↔ s.start.state ∈ [StartState.loadFailed, .ready] ∨ s.start.state = .running := by
  simp [State.writable, or_assoc]

/-- R178: outside LOAD_FAILED, READY and RUNNING a control write does nothing. -/
theorem controlWrite_of_not_writable {s : State} (h : s.writable = false) (v : Word) : controlWrite v s = s := by
  have no : ∀ st, st = StartState.ready ∨ st = .running → s.start.state ≠ st := fun st hst is => by
    refine Bool.false_ne_true (h.symm.trans ((writable_iff s).mpr ?_))
    rw [is]
    rcases hst with rfl | rfl <;> simp
  have ready := beq_false_of_ne (no .ready (.inl rfl))
  have running := beq_false_of_ne (no .running (.inr rfl))
  unfold controlWrite enterResetting run
  rw [ready, running]
  simp

theorem writeRegister_control (v : Word) (s : State) : writeRegister 4 v s = controlWrite v s := by
  show (if s.writable then controlWrite v s else s) = _
  split
  · rfl
  · exact (controlWrite_of_not_writable (Bool.not_eq_true _ ▸ ‹_›) v).symm

theorem groupWritable_iff (s : State) (name : RingName) : s.groupWritable name = true ↔
    s.start.state ∈ [StartState.loadFailed, .ready] ∨ (s.running = true ∧ (s.rings.get name).state = .faulted) := by
  unfold State.groupWritable State.writable State.running
  cases s.start.state <;> simp

theorem writeGroup_of_shut {name : RingName} {s : State} (h : ¬ s.groupWritable name = true) (f : Ring → Ring) : writeGroup name f s = s := if_neg h

theorem writeGroup_of_open {name : RingName} {s : State} (h : s.groupWritable name = true) (f : Ring → Ring) : writeGroup name f s = modRing name f s := if_pos h

/-- R201: the base and the size of a ring, as words 0 to 2 of its group write them. -/
def groupWritten (j : Nat) (v : Word) (r : Ring) : Ring :=
  if j = 0 then { r with base := r.base.extractLsb' 32 32 ++ v } else if j = 1 then { r with base := v ++ r.base.extractLsb' 0 32 } else { r with size := v }

theorem writeRingGroup_base (name : RingName) {j : Nat} (h : j < 3) (v : Word) (s : State) :
    writeRingGroup name j v s = writeGroup name (groupWritten j v) s := by
  interval_cases j <;> rfl

/-- Section 12.2: the words of a group that are read-only or not named. -/
theorem writeRingGroup_ignored {name : RingName} {field : Nat} (h : field ∉ [0, 1, 2, 3, 4, 6] ∨ (name ≠ .completion ∧ field = 4) ∨ (name = .completion ∧ field = 3))
    (v : Word) (s : State) : writeRingGroup name field v s = s := by
  match field with
  | 0 | 1 | 2 | 6 => simp at h
  | 3 => cases name <;> simp at h; rfl
  | 4 => cases name <;> simp at h <;> rfl
  | 5 | _ + 7 => rfl

theorem writeRegister_ignored {index : BitVec 10} (h : index.toNat ∉ [4, 8, 9, 10, 11, 14, 16, 17, 18, 19, 22, 24, 25, 26, 28, 30, 33, 34, 40]) (v : Word) (s : State) :
    writeRegister index v s = s := by
  unfold writeRegister
  dsimp only
  generalize index.toNat = n at h
  simp only [List.mem_cons, List.not_mem_nil, or_false, not_or] at h
  split_ifs
  any_goals omega
  · exact writeRingGroup_ignored (by simp; omega) v s
  · exact writeRingGroup_ignored (by simp; omega) v s
  · exact writeRingGroup_ignored (by simp; omega) v s
  · rfl

/-! ## Reads -/

theorem toNat_word {n : Nat} (h : n < 2 ^ 32) : (BitVec.ofNat 32 n).toNat = n := by
  rw [BitVec.toNat_ofNat]
  exact Nat.mod_eq_of_lt h

/-- The code of a ring fault reason, 0 for none. -/
def reasonCode (r : Option RingReason) : Nat := (r.map RingReason.code).getD 0

theorem reasonCode_lt (r : Option RingReason) : reasonCode r < 256 := by
  rcases r with _ | why
  · decide
  · cases why <;> decide

/-- The code of a load fault, 0 for none. -/
def loadFaultCode (f : Option LoadFault) : Nat := (f.map LoadFault.code).getD 0

theorem loadFaultCode_lt (f : Option LoadFault) : loadFaultCode f < 256 := by
  rcases f with _ | why
  · decide
  · cases why <;> decide

theorem readRegister_identity (s : State) : (readRegister (BitVec.ofNat 10 0) s).extractLsb' 0 16 = 0x0840 := by
  show (BitVec.ofNat 32 (Config.partCode.toNat + 2 ^ 16 * Config.revision.toNat)).extractLsb' 0 16 = 0x0840
  refine BitVec.eq_of_toNat_eq ?_
  rw [BitVec.extractLsb'_toNat, BitVec.toNat_ofNat, show Config.partCode.toNat = 0x0840 from rfl, Nat.shiftRight_zero]
  show _ = 0x0840
  omega

theorem readRegister_image {s : State} {im : Image} (image : s.start.image = some im) :
    (readRegister (BitVec.ofNat 10 1) s).toNat = im.n.toNat + 2 ^ 8 * im.own.toNat + 2 ^ 16 * im.frameType.toNat := by
  have eq : readRegister (BitVec.ofNat 10 1) s =
      BitVec.ofNat 32 ((s.start.image.map fun im => im.n.toNat + 2 ^ 8 * im.own.toNat + 2 ^ 16 * im.frameType.toNat).getD 0) := rfl
  have n := im.n.isLt
  have own := im.own.isLt
  have frameType := im.frameType.isLt
  rw [eq, image]
  exact toNat_word (by simp only [Option.map_some, Option.getD_some]; omega)

theorem readRegister_noImage {s : State} (image : s.start.image = none) : readRegister (BitVec.ofNat 10 1) s = 0 := by
  have eq : readRegister (BitVec.ofNat 10 1) s =
      BitVec.ofNat 32 ((s.start.image.map fun im => im.n.toNat + 2 ^ 8 * im.own.toNat + 2 ^ 16 * im.frameType.toNat).getD 0) := rfl
  rw [eq, image]
  rfl

theorem readRegister_startState (s : State) :
    (readRegister (BitVec.ofNat 10 2) s).toNat = s.start.state.code + 2 ^ 8 * loadFaultCode s.start.loadFault + 2 ^ 16 * s.start.loadDetail.toNat := by
  have detail := s.start.loadDetail.isLt
  have fault := loadFaultCode_lt s.start.loadFault
  have code : s.start.state.code < 256 := by cases s.start.state <;> decide
  exact toNat_word (show s.start.state.code + 2 ^ 8 * loadFaultCode s.start.loadFault + 2 ^ 16 * s.start.loadDetail.toNat < 2 ^ 32 by omega)

theorem readRegister_startFault {s : State} {n : RingName} {why : RingReason} (fault : s.start.startFault = some (n, why)) :
    (readRegister (BitVec.ofNat 10 3) s).toNat = ringNameCode n + 2 ^ 8 * reasonCode (some why) := by
  have eq : readRegister (BitVec.ofNat 10 3) s = (match s.start.startFault with
    | some (ring, why) => packFields (ringNameCode ring) why.code
    | none => 0) := rfl
  rw [eq, fault]
  cases n <;> cases why <;> rfl

theorem readRegister_noStartFault {s : State} (fault : s.start.startFault = none) : readRegister (BitVec.ofNat 10 3) s = 0 := by
  have eq : readRegister (BitVec.ofNat 10 3) s = (match s.start.startFault with
    | some (ring, why) => packFields (ringNameCode ring) why.code
    | none => 0) := rfl
  rw [eq, fault]

/-- R178: in LOADING the window shows the first four registers only. -/
theorem readRegister_of_loading {s : State} (loading : s.start.state = .loading) {n : Nat} (behind : 4 ≤ n) (inside : n < 1024) :
    readRegister (BitVec.ofNat 10 n) s = 0 := by
  have hidden : (!s.windowOpen) = true := by rw [State.windowOpen, loading]; rfl
  unfold readRegister
  dsimp only
  rw [index_toNat inside, if_neg (by omega), if_neg (by omega), if_neg (by omega), if_neg (by omega), if_pos hidden]

theorem windowOpen_of_loaded {s : State} (loaded : s.start.state ≠ .loading) : s.windowOpen = true := bne_iff_ne.mpr loaded

/-- R175: the registers of the fault latch. -/
theorem readRegister_latch {s : State} (shown : s.windowOpen = true) {field : Nat} (h : field < 4) :
    readRegister (BitVec.ofNat 10 (36 + field)) s = (s.hme.latch.map fun l => readLatch l field).getD 0 := by
  have hidden : (!s.windowOpen) = false := by rw [shown]; rfl
  interval_cases field <;> exact if_neg (by rw [hidden]; exact Bool.false_ne_true)

/-- Section 12.2: what the window does not name reads 0. -/
theorem readRegister_unnamed (s : State) {n : Nat} (inside : n < 1024)
    (h : n ∉ [0, 1, 2, 3, 4, 8, 9, 10, 11, 12, 13, 14, 16, 17, 18, 19, 20, 21, 22, 24, 25, 26, 27, 28, 29, 30, 32, 33, 34, 36, 38, 39, 40]) :
    readRegister (BitVec.ofNat 10 n) s = 0 := by
  simp only [List.mem_cons, List.not_mem_nil, or_false, not_or] at h
  by_cases loading : s.start.state = .loading
  · exact readRegister_of_loading loading (by omega) inside
  have shown := windowOpen_of_loaded loading
  have hidden : ¬ (!s.windowOpen) = true := by rw [shown]; exact Bool.false_ne_true
  obtain rfl | rfl | rfl | rfl | outside : n = 15 ∨ n = 23 ∨ n = 31 ∨ n = 37 ∨ (5 ≤ n ∧ n < 8) ∨ n = 35 ∨ 41 ≤ n := by omega
  · exact readRegister_group .data (field := 7) (by decide) shown
  · exact readRegister_group .management (field := 7) (by decide) shown
  · exact readRegister_group .completion (field := 7) (by decide) shown
  · rw [show 37 = 36 + 1 from rfl, readRegister_latch shown (by decide)]
    cases s.hme.latch <;> rfl
  · unfold readRegister
    dsimp only
    rw [index_toNat inside, if_neg (by omega), if_neg (by omega), if_neg (by omega), if_neg (by omega), if_neg hidden, if_neg (by omega), if_neg (by omega),
      if_neg (by omega), if_neg (by omega), if_neg (by omega), if_neg (by omega), if_neg (by omega)]

theorem readRing_state (r : Ring) : (readRing r 5).toNat = r.state.code + 2 ^ 8 * reasonCode r.reason := by
  have reason := reasonCode_lt r.reason
  have state : r.state.code < 256 := by cases r.state <;> decide
  exact toNat_word (show r.state.code + 256 * reasonCode r.reason < 2 ^ 32 by omega)

theorem readLatch_first (l : Latch) : (readLatch l 0).toNat = 1 + 2 * (if l.multiple = true then 1 else 0) + 2 ^ 8 * l.client.val + 2 ^ 16 * l.kind.code := by
  have client := l.client.isLt
  have kind : l.kind.code < 256 := by cases l.kind <;> decide
  have multiple : l.multiple.toNat = if l.multiple = true then 1 else 0 := by cases l.multiple <;> rfl
  rw [← multiple]
  have bit := Bool.toNat_lt l.multiple
  exact toNat_word (show 1 + 2 * l.multiple.toNat + 2 ^ 8 * l.client.val + 2 ^ 16 * l.kind.code < 2 ^ 32 by omega)

end Sys2Proof.Machine
end

section
/-! PROOFS. O17: every register write and read at its offset (R178, R201, section 12.2). -/

namespace Sys2Proof.Machine

/-- R178: the base and size of a ring's group. -/
theorem exec_registerWrite_base (name : RingName) {j : Nat} (h : j < 3) (v : Word) (s : State) :
    exec (.registerWrite (BitVec.ofNat 10 (groupFirst name + j)) v) s = .next (writeGroup name (groupWritten j v) s) := by
  rw [exec_registerWrite, writeRegister_group name (by omega), writeRingGroup_base name h]

theorem exec_registerWrite_control (v : Word) (s : State) :
    exec (.registerWrite 4 v) s = if v.getLsbD 1 then exec (.functionReset v) s else if v.getLsbD 0 then exec (.run v) s else .next s := by
  rw [exec_registerWrite, writeRegister_control]
  show _ = if v.getLsbD 1 then Host.Outcome.next (controlWrite v s) else if v.getLsbD 0 then Host.Outcome.next (controlWrite v s) else .next s
  unfold controlWrite
  split
  · rfl
  · split <;> rfl

/-- R178, R201, section 12.2: the ring groups in an open window. -/
theorem readRegister_ring {s : State} (shown : s.windowOpen = true) (name : RingName) :
    let r := s.rings.get name
    let reg := fun n => readRegister (BitVec.ofNat 10 (groupFirst name + n)) s
    reg 0 = r.base.extractLsb' 0 32 ∧ reg 1 = r.base.extractLsb' 32 32 ∧ reg 2 = r.size ∧ (r.prod < 2 ^ 32 → (reg 3).toNat = r.prod) ∧
      (r.cons < 2 ^ 32 → (reg 4).toNat = r.cons) ∧ (reg 5).toNat = r.state.code + 2 ^ 8 * reasonCode r.reason := by
  intro r reg
  have read : ∀ field, field < 8 → reg field = readRing r field := fun field h => readRegister_group name h shown
  rw [read 0 (by decide), read 1 (by decide), read 2 (by decide), read 3 (by decide), read 4 (by decide), read 5 (by decide)]
  exact ⟨rfl, rfl, rfl, toNat_word, toNat_word, readRing_state r⟩

/-- Settles O17. -/
theorem registerWritesActAtTheirOffsets : Obligations.RegisterWritesActAtTheirOffsets := by
  refine ⟨fun v s => ⟨fun name first h => ?_, exec_registerWrite_control v s, rfl, rfl, rfl, rfl, rfl, rfl, fun index h =>
    congrArg Host.Outcome.next (writeRegister_ignored h v s)⟩, fun s => ?_⟩
  · obtain rfl := groupFirst_of_mem h
    intro r open_
    refine ⟨fun shut j hj => ?_, fun isOpen j hj => ?_, ?_⟩
    · rw [exec_registerWrite_base name hj, writeGroup_of_shut (mt (groupWritable_iff s name).mp shut)]
    · obtain ⟨kept, others, group⟩ := modRing_changes name (groupWritten j v) s
      rw [exec_registerWrite_base name hj, writeGroup_of_open ((groupWritable_iff s name).mpr isOpen)]
      exact ⟨_, rfl, kept, others, group⟩
    · rw [exec_registerWrite, writeRegister_group name (by decide)]
      rfl
  · intro reg loadFault reason ringCode stateCode ringState failKind
    have load : loadFault = loadFaultCode s.start.loadFault := by
      dsimp only [loadFault]
      generalize s.start.loadFault = f
      rcases f with _ | why
      · rfl
      · cases why <;> rfl
    have reasons : ∀ r, reason r = reasonCode r := by
      rintro (_ | why)
      · rfl
      · cases why <;> rfl
    have names : ∀ n, ringCode n = ringNameCode n := fun n => by cases n <;> rfl
    have states : stateCode = s.start.state.code := by
      dsimp only [stateCode]
      generalize s.start.state = st
      cases st <;> rfl
    have rings : ∀ r, ringState r = r.state.code := fun r => by
      dsimp only [ringState]
      generalize r.state = st
      cases st <;> rfl
    have kinds : ∀ k, failKind k = k.code := fun k => by cases k <;> rfl
    rw [load, states]
    refine ⟨readRegister_identity s, fun im image => readRegister_image image, readRegister_noImage, readRegister_startState s, fun n why fault => ?_,
      readRegister_noStartFault, fun loading n behind inside => readRegister_of_loading loading behind inside, fun n inside h => readRegister_unnamed s inside h,
      fun loaded => ?_⟩
    · rw [names, reasons]
      exact readRegister_startFault fault
    have shown := windowOpen_of_loaded loaded
    have latch : ∀ field, field < 4 → reg (36 + field) = (s.hme.latch.map fun l => readLatch l field).getD 0 := fun field h => readRegister_latch shown h
    refine ⟨fun name first h => ?_, ?_, ?_, ?_, fun l latched => ?_, fun none => ?_⟩
    · obtain rfl := groupFirst_of_mem h
      intro r
      rw [rings, reasons]
      exact readRegister_ring shown name
    · exact if_neg (by rw [shown]; decide)
    · exact if_neg (by rw [shown]; decide)
    · exact if_neg (by rw [shown]; decide)
    · rw [latched] at latch
      rw [latch 0 (by decide), latch 2 (by decide), latch 3 (by decide), kinds]
      exact ⟨readLatch_first l, rfl, rfl⟩
    · rw [none] at latch
      exact ⟨latch 0 (by decide), latch 2 (by decide), latch 3 (by decide)⟩

end Sys2Proof.Machine
end

section
/-! PROOFS. O11: the fields of the image and the eight checks of it (R179, section 12.7). -/

namespace Sys2Proof.Machine

/-! ## Fields of bytes -/

theorem leAt_lt (bs : List Byte) (off n : Nat) : leAt bs off n < 256 ^ n := by
  have bound := leNat_lt (byteField bs off n)
  rwa [show (byteField bs off n).length = n by simp [byteField]] at bound

theorem toNat_leAt_word (bs : List Byte) (off : Nat) : (BitVec.ofNat 32 (leAt bs off 4)).toNat = leAt bs off 4 := by
  rw [BitVec.toNat_ofNat]
  exact Nat.mod_eq_of_lt (leAt_lt bs off 4)

theorem toNat_leAt_half (bs : List Byte) (off : Nat) : (BitVec.ofNat 16 (leAt bs off 2)).toNat = leAt bs off 2 := by
  rw [BitVec.toNat_ofNat]
  exact Nat.mod_eq_of_lt (leAt_lt bs off 2)

theorem leNat_injective {as bs : List Byte} (length : as.length = bs.length) (h : leNat as = leNat bs) : as = bs := by
  induction as generalizing bs with
  | nil => exact (List.length_eq_zero_iff.mp length.symm).symm
  | cons a rest ih =>
    match bs with
    | b :: more =>
      have smallA := a.isLt
      have smallB := b.isLt
      rw [leNat, leNat] at h
      rw [ih (Nat.succ.inj length) (by omega), BitVec.eq_of_toNat_eq (x := a) (y := b) (by omega)]

/-- R201: two stations are the same when their bytes are. -/
theorem stationAt_inj (bs : List Byte) (off other : Nat) : stationAt bs off = stationAt bs other ↔ byteField bs off 6 = byteField bs other 6 := by
  constructor
  · intro same
    have numbers := congrArg BitVec.toNat same
    rw [stationAt, stationAt, BitVec.toNat_ofNat, BitVec.toNat_ofNat, Nat.mod_eq_of_lt (show beAt bs off 6 < 2 ^ 48 from beAt_lt bs off 6),
      Nat.mod_eq_of_lt (show beAt bs other 6 < 2 ^ 48 from beAt_lt bs other 6)] at numbers
    exact List.reverse_injective (leNat_injective (by simp [byteField]) numbers)
  · intro same
    rw [stationAt, stationAt, beAt, beAt, same]

/-- R201: a group address by the first byte. -/
theorem isGroup_stationAt (bs : List Byte) (off : Nat) : isGroup (stationAt bs off) = (byteAt bs off).getLsbD 0 := by
  have number : beAt bs off 6 = (byteAt bs (off + 5)).toNat + 256 * ((byteAt bs (off + 4)).toNat + 256 * ((byteAt bs (off + 3)).toNat +
      256 * ((byteAt bs (off + 2)).toNat + 256 * ((byteAt bs (off + 1)).toNat + 256 * ((byteAt bs off).toNat + 256 * 0))))) := rfl
  have b1 := (byteAt bs (off + 1)).isLt
  have b2 := (byteAt bs (off + 2)).isLt
  have b3 := (byteAt bs (off + 3)).isLt
  have b4 := (byteAt bs (off + 4)).isLt
  have b5 := (byteAt bs (off + 5)).isLt
  have high : beAt bs off 6 / 2 ^ 40 = (byteAt bs off).toNat := by omega
  rw [isGroup, stationAt, BitVec.getLsbD_ofNat, BitVec.getLsbD, Nat.testBit_eq_decide_div_mod_eq, high, Nat.testBit_eq_decide_div_mod_eq]
  simp

/-! ## The indices of an image -/

theorem mem_indices {im : Image} {i : Region} : i ∈ im.indices ↔ i.val < im.n.toNat := by simp [Image.indices]

theorem find_indices_eq_none {im : Image} {p : Region → Bool} : im.indices.find? p = none ↔ ∀ i : Region, i.val < im.n.toNat → p i = false := by
  rw [List.find?_eq_none]
  simp only [mem_indices, Bool.not_eq_true]

/-- The indices below N are those of the regions. -/
theorem forall_below {n : Nat} (few : n ≤ 8) {P : Nat → Prop} : (∀ i, i < n → P i) ↔ ∀ i : Region, i.val < n → P i.val :=
  ⟨fun h i hi => h i.val hi, fun h i hi => h ⟨i, hi.trans_le few⟩ hi⟩

/-! ## The checks of R179, one by one -/

section checks
variable (bs : List Byte)

/-- Check 6 of R179 by the bytes. -/
def StationsGood : Prop :=
  let n := (byteAt bs 0).toNat
  (∀ i, i < n → (byteAt bs (4 + 6 * i)).getLsbD 0 = false) ∧
  ∀ i j, i < n → j < n → i ≠ j → byteField bs (4 + 6 * i) 6 ≠ byteField bs (4 + 6 * j) 6

/-- Check 7 of R179 by the bytes. -/
def SettingsGood : Prop :=
  ∀ i : Fin 14, (vget Config.settingRange i).1 ≤ leAt bs (52 + 4 * i.val) 4 ∧ leAt bs (52 + 4 * i.val) 4 ≤ (vget Config.settingRange i).2

/-- Check 8 of R179 by the bytes. -/
def PacesGood : Prop :=
  ∀ i, i < (byteAt bs 0).toNat → (byteAt bs (108 + 12 * i)).toNat ≤ 2 ∧ 1 ≤ leAt bs (112 + 12 * i) 4 ∧ leAt bs (112 + 12 * i) 4 ≤ 86400 ∧
    1 ≤ leAt bs (116 + 12 * i) 4 ∧ leAt bs (116 + 12 * i) 4 ≤ 86400

theorem imageOf_station (i : Region) : vget (imageOf bs).stations i = stationAt bs (4 + 6 * i.val) := vget_ofFn ..

theorem imageOf_setting (i : Fin 14) : (vget (imageOf bs).settings i).toNat = leAt bs (52 + 4 * i.val) 4 := by
  rw [show vget (imageOf bs).settings i = BitVec.ofNat 32 (leAt bs (52 + 4 * i.val) 4) from vget_ofFn .., toNat_leAt_word]

theorem imageOf_pace (i : Region) : vget (imageOf bs).pace i =
    { mode := (PaceMode.ofCode (byteAt bs (108 + 12 * i.val))).getD .off, run := byteAt bs (109 + 12 * i.val) != 0,
      sendWindow := BitVec.ofNat 32 (leAt bs (112 + 12 * i.val) 4), quietWindow := BitVec.ofNat 32 (leAt bs (116 + 12 * i.val) 4) } := vget_ofFn ..

theorem badStation_eq_false_iff (i : Region) : (imageOf bs).badStation i = false ↔ (byteAt bs (4 + 6 * i.val)).getLsbD 0 = false ∧
    ∀ j : Region, j.val < (byteAt bs 0).toNat → j ≠ i → byteField bs (4 + 6 * j.val) 6 ≠ byteField bs (4 + 6 * i.val) 6 := by
  rw [Image.badStation, Bool.or_eq_false_iff, imageOf_station, isGroup_stationAt, List.any_eq_false]
  refine and_congr_right fun _ => forall_congr' fun j => ?_
  rw [mem_indices, imageOf_station, Bool.and_eq_true, bne_iff_ne, beq_iff_eq, stationAt_inj, not_and]
  rfl

theorem stations_iff (few : (byteAt bs 0).toNat ≤ 8) : (imageOf bs).indices.find? (imageOf bs).badStation = none ↔ StationsGood bs := by
  rw [find_indices_eq_none]
  unfold StationsGood
  dsimp only
  rw [forall_below few]
  simp only [badStation_eq_false_iff]
  constructor
  · intro h
    refine ⟨fun i hi => (h i hi).1, fun i j hi hj other => ?_⟩
    exact (h ⟨j, hj.trans_le few⟩ hj).2 ⟨i, hi.trans_le few⟩ hi (fun eq => other (congrArg Fin.val eq))
  · rintro ⟨group, same⟩ i hi
    exact ⟨group i hi, fun j hj other => same j.val i.val hj hi fun eq => other (Fin.ext eq)⟩

theorem settings_iff : ((List.finRange 14).find? fun i => !settingOk i (vget (imageOf bs).settings i)) = none ↔ SettingsGood bs := by
  rw [List.find?_eq_none]
  unfold SettingsGood
  refine forall_congr' fun i => ?_
  rw [Bool.not_eq_true, Bool.not_eq_false', settingOk_iff, imageOf_setting]
  exact forall_prop_of_true (List.mem_finRange i)

theorem paceMode_isNone_iff (b : Byte) : (PaceMode.ofCode b).isNone = false ↔ b.toNat ≤ 2 := by
  unfold PaceMode.ofCode
  generalize b.toNat = code
  match code with
  | 0 | 1 | 2 => simp
  | n + 3 => simp

theorem paces_iff (few : (byteAt bs 0).toNat ≤ 8) : (imageOf bs).indices.find? (badPace bs (imageOf bs)) = none ↔ PacesGood bs := by
  rw [find_indices_eq_none]
  unfold PacesGood
  rw [forall_below few]
  refine forall_congr' fun i => imp_congr_right fun _ => ?_
  rw [badPace, imageOf_pace, Bool.or_eq_false_iff, Bool.or_eq_false_iff, Bool.not_eq_false', Bool.not_eq_false', paceMode_isNone_iff, windowOk_iff, windowOk_iff,
    and_assoc, and_assoc]
  dsimp only
  rw [toNat_leAt_word, toNat_leAt_word]

theorem imageGood_iff : ImageGood bs ↔ 208 ≤ bs.length ∧ crc32c (bs.take 204) = BitVec.ofNat 32 (leAt bs 204 4) ∧ 2 ≤ (byteAt bs 0).toNat ∧
    (byteAt bs 0).toNat ≤ 8 ∧ (byteAt bs 1).toNat < (byteAt bs 0).toNat ∧ 0x0600 ≤ leAt bs 2 2 ∧ StationsGood bs ∧ SettingsGood bs ∧ PacesGood bs := by
  unfold ImageGood StationsGood SettingsGood PacesGood
  simp only [and_assoc]

end checks

end Sys2Proof.Machine
end

section
/-! PROOFS. O11: a cold reset, and the load of an image (R179, R155). -/

namespace Sys2Proof.Machine

/-! ## The checks together -/

theorem frameType_toNat (bs : List Byte) : (imageOf bs).frameType.toNat = leAt bs 2 2 := toNat_leAt_half bs 2

theorem checkImage_of_good {bs : List Byte} (good : ImageGood bs) : checkImage (some bs) = .ok (imageOf bs) := by
  obtain ⟨length, check, atLeast, atMost, own, frameType, stations, settings, paces⟩ := (imageGood_iff bs).mp good
  unfold checkImage
  dsimp only
  rw [if_neg (not_lt.mpr (show Config.imageBytes ≤ bs.length from length)), if_neg (not_not.mpr check),
    if_neg (show ¬ ((imageOf bs).n.toNat < 2 ∨ 8 < (imageOf bs).n.toNat) from not_or.mpr ⟨not_lt.mpr atLeast, not_lt.mpr atMost⟩),
    if_neg (show ¬ (imageOf bs).n.toNat ≤ (imageOf bs).own.toNat from not_le.mpr own), if_neg (not_lt.mpr (by rw [frameType_toNat]; exact frameType)),
    (stations_iff bs atMost).mpr stations]
  dsimp only
  rw [(settings_iff bs).mpr settings]
  dsimp only
  rw [(paces_iff bs atMost).mpr paces]

theorem good_of_checkImage {bs : List Byte} {im : Image} (ok : checkImage (some bs) = .ok im) : ImageGood bs := by
  unfold checkImage at ok
  dsimp only at ok
  split_ifs at ok with short check number own frameType
  cases stations : (imageOf bs).indices.find? (imageOf bs).badStation with
  | some i => rw [stations] at ok; cases ok
  | none =>
    rw [stations] at ok
    dsimp only at ok
    cases settings : (List.finRange 14).find? fun i => !settingOk i (vget (imageOf bs).settings i) with
    | some i => rw [settings] at ok; cases ok
    | none =>
      rw [settings] at ok
      dsimp only at ok
      cases paces : (imageOf bs).indices.find? (badPace bs (imageOf bs)) with
      | some i => rw [paces] at ok; cases ok
      | none =>
        obtain ⟨atLeast, atMost⟩ := not_or.mp number
        have few : (byteAt bs 0).toNat ≤ 8 := not_lt.mp atMost
        rw [frameType_toNat] at frameType
        exact (imageGood_iff bs).mpr ⟨not_lt.mp short, not_not.mp check, not_lt.mp atLeast, few, not_le.mp own, not_lt.mp frameType, (stations_iff bs few).mp stations,
          (settings_iff bs).mp settings, (paces_iff bs few).mp paces⟩

/-! ## The region table of an image (R155) -/

theorem region_regionsOf (im : Image) (s : State) (x : Region) : (s.withRegions (regionsOf im)).region x = regionEntryOf im x := vget_ofFn ..

theorem regionEntryOf_state {im : Image} (own : im.own.toNat < im.n.toNat) (x : Region) : (regionEntryOf im x).state =
    if x.val = im.own.toNat then .own else if x.val < im.n.toNat then .dark else .absent := by
  by_cases below : x.val < im.n.toNat
  · obtain ⟨-, state, -⟩ := regionEntryOf_inside below
    rw [state, if_pos below]
  · obtain ⟨state, -⟩ := regionEntryOf_outside (not_lt.mp below)
    rw [state, if_neg below, if_neg fun eq : x.val = im.own.toNat => below (eq ▸ own)]

theorem paceMode_code {b : Byte} (known : b.toNat ≤ 2) : ((PaceMode.ofCode b).getD .off).code = b.toNat := by
  unfold PaceMode.ofCode
  generalize b.toNat = code at known
  match code with
  | 0 | 1 | 2 => rfl
  | n + 3 => omega

/-! ## O11 -/

theorem exec_coldReset (s : State) : exec .coldReset s = .next (coldReset s) := rfl

theorem exec_imageLoad (flash : Option (List Byte)) (s : State) :
    exec (.imageLoad flash) s = .next (if s.start.state == .loading then loadImage flash s else s) := rfl

theorem exec_imageLoad_of_loading {s : State} (loading : s.start.state = .loading) (flash : Option (List Byte)) :
    exec (.imageLoad flash) s = .next (loadImage flash s) := by
  rw [exec_imageLoad, loading]
  rfl

theorem exec_imageLoad_of_error {flash : Option (List Byte)} {s : State} {why : LoadFault} {detail : Byte} (loading : s.start.state = .loading)
    (error : checkImage flash = .error (why, detail)) :
    exec (.imageLoad flash) s = .next (s.withStart { s.start with state := .loadFailed, loadFault := some why, loadDetail := detail }) := by
  rw [exec_imageLoad_of_loading loading]
  unfold loadImage
  rw [error]

theorem loadImage_of_good {bs : List Byte} (good : ImageGood bs) (s : State) : loadImage (some bs) s =
    ((s.withStart { s.start with state := .ready, image := some (imageOf bs) }).withSettings (imageOf bs).settings).withRegions (regionsOf (imageOf bs)) := by
  unfold loadImage
  rw [checkImage_of_good good]

/-- R179: the first checks, each behind those before it. -/
theorem checkImage_first (bs : List Byte) :
    let checked := crc32c (bs.take 204) = BitVec.ofNat 32 (leAt bs 204 4)
    (bs.length < 208 → checkImage (some bs) = .error (.flash, 0)) ∧
    (208 ≤ bs.length → ¬ checked → checkImage (some bs) = .error (.check, 0)) ∧
    (208 ≤ bs.length → checked → (byteAt bs 0).toNat < 2 ∨ 8 < (byteAt bs 0).toNat → checkImage (some bs) = .error (.regions, 0)) ∧
    (208 ≤ bs.length → checked → 2 ≤ (byteAt bs 0).toNat → (byteAt bs 0).toNat ≤ 8 → byteAt bs 0 ≤ byteAt bs 1 → checkImage (some bs) = .error (.ownIndex, 0)) := by
  intro checked
  unfold checkImage
  dsimp only
  have long : 208 ≤ bs.length → ¬ bs.length < Config.imageBytes := fun h => not_lt.mpr h
  refine ⟨fun short => if_pos short, fun length no => ?_, fun length check number => ?_, fun length check atLeast atMost own => ?_⟩
  · rw [if_neg (long length), if_pos no]
  · rw [if_neg (long length), if_neg (not_not.mpr check)]
    exact if_pos number
  · rw [if_neg (long length), if_neg (not_not.mpr check),
      if_neg (show ¬ ((imageOf bs).n.toNat < 2 ∨ 8 < (imageOf bs).n.toNat) from not_or.mpr ⟨not_lt.mpr atLeast, not_lt.mpr atMost⟩)]
    exact if_pos own

/-- Settles O11. -/
theorem coldResetAndImageLoad : Obligations.ColdResetAndImageLoad := by
  refine ⟨fun s => ?_, fun flash s other => ?_, fun flash s loading bad => ?_, fun bs s loading good => ?_, fun bs s loading => ?_⟩
  · exact ⟨_, exec_coldReset s, rfl, rfl, rfl, rfl, rfl, rfl, rfl, rfl, rfl, rfl, rfl, rfl, rfl, rfl, rfl, rfl, rfl, rfl, rfl, rfl, rfl, rfl, rfl, rfl, rfl⟩
  · rw [exec_imageLoad, if_neg fun eq => other (beq_iff_eq.mp eq)]
  · cases checked : checkImage flash with
    | error fault =>
      obtain ⟨why, detail⟩ := fault
      exact ⟨why, detail, exec_imageLoad_of_error loading checked⟩
    | ok im =>
      cases flash with
      | none => cases checked
      | some bs => exact absurd (good_of_checkImage checked) (bad bs rfl)
  · rw [exec_imageLoad_of_loading loading, loadImage_of_good good]
    obtain ⟨-, -, -, -, own, -, -, -, paces⟩ := (imageGood_iff bs).mp good
    let im := imageOf bs
    let u := (s.withStart { s.start with state := .ready, image := some im }).withSettings im.settings
    have region : ∀ x, (u.withRegions (regionsOf im)).region x = regionEntryOf im x := region_regionsOf im u
    refine ⟨_, rfl, keepsAllBut_iff.mpr (by simp), ⟨im, rfl, rfl, rfl, frameType_toNat bs, rfl, fun x below => ?_⟩, imageOf_setting bs, rfl, fun x => ?_,
      fun x below => ?_, fun x above => ?_⟩
    · obtain ⟨station, -, rest⟩ := regionEntryOf_inside (im := im) below
      rw [region]
      exact ⟨station, rest⟩
    · rw [region]
      exact ⟨regionEntryOf_fresh im x, regionEntryOf_state own x⟩
    · obtain ⟨known, -⟩ := paces x.val below
      obtain ⟨station, -, mode, run, sendWindow, quietWindow⟩ := regionEntryOf_inside (im := im) below
      rw [region]
      dsimp only
      rw [station, mode, run, sendWindow, quietWindow, imageOf_pace]
      refine ⟨imageOf_station bs x, paceMode_code known, fun zero => ?_, fun one => ?_, toNat_leAt_word .., toNat_leAt_word ..⟩
      · show (byteAt bs (109 + 12 * x.val) != 0) = false
        rw [zero]
        rfl
      · show (byteAt bs (109 + 12 * x.val) != 0) = true
        rw [one]
        rfl
    · rw [region]
      exact regionEntryOf_outside above
  · obtain ⟨flash, check, regions, ownIndex⟩ := checkImage_first bs
    intro failed checked
    exact ⟨exec_imageLoad_of_error loading rfl, fun h => exec_imageLoad_of_error loading (flash h), fun h g => exec_imageLoad_of_error loading (check h g),
      fun h g n => exec_imageLoad_of_error loading (regions h g n), fun h g n m o => exec_imageLoad_of_error loading (ownIndex h g n m o)⟩

end Sys2Proof.Machine
end
